-- ==== Sys2Proof/Word.lean ====
section
/-! DEFINITION. The word types of the model: the 64-bit word of A, slots and pointers (R16), the 16-bit instruction
word (R29), the byte (R6) and the 512-bit vector register (R16). -/

namespace Sys2Proof

/-- A 64-bit register value (R16). -/
abbrev Word := BitVec 64

/-- A 16-bit instruction word (R29). -/
abbrev Half := BitVec 16

/-- One byte of memory (R164). -/
abbrev Byte := BitVec 8

/-- A 512-bit vector register value (R16). -/
abbrev Vec := BitVec 512

end Sys2Proof
end

