-- ==== Sys2Proof/Machine/Float.lean ====
section
/-! DEFINITION. Number formats, rounding and special values (chapter 03): floating-point values are decoded to exact
dyadic numbers, computed exactly, and rounded once. -/

namespace Sys2Proof.Machine

/-! ### Formats (R75, R76) -/

/-- The treatment of the largest exponent (R76). -/
inductive FKind where
  | ieee | e4m3 | e2m1
deriving DecidableEq, Repr

/-- A floating-point format: exponent bits, fraction bits, bias, kind. -/
structure Fmt where
  eb : Nat
  mb : Nat
  bias : Nat
  kind : FKind
deriving DecidableEq, Repr

/-- FP64. -/
def f64 : Fmt := ⟨11, 52, 1023, .ieee⟩
/-- FP32. -/
def f32 : Fmt := ⟨8, 23, 127, .ieee⟩
/-- FP16. -/
def f16 : Fmt := ⟨5, 10, 15, .ieee⟩
/-- BF16. -/
def bf16 : Fmt := ⟨8, 7, 127, .ieee⟩
/-- E5M2. -/
def e5m2 : Fmt := ⟨5, 2, 15, .ieee⟩
/-- E4M3. -/
def e4m3 : Fmt := ⟨4, 3, 7, .e4m3⟩
/-- E2M1. -/
def e2m1 : Fmt := ⟨2, 1, 1, .e2m1⟩

/-- Width in bits. -/
def Fmt.bits (f : Fmt) : Nat := 1 + f.eb + f.mb
/-- Width in bytes, of the formats of 8 bits and more. -/
def Fmt.bytes (f : Fmt) : Nat := f.bits / 8
/-- The format of a precision code (R65). -/
def fmtOf (t : BitVec 2) : Fmt :=
  match t.toNat with
  | 0 => f64
  | 1 => f32
  | 2 => f16
  | _ => bf16
/-- The largest finite magnitude's encoding (R75). -/
def Fmt.maxCode (f : Fmt) : Nat :=
  match f.kind with
  | .ieee => (2 ^ f.eb - 1) * 2 ^ f.mb - 1
  | .e4m3 => 0x7E
  | .e2m1 => 7
/-- The infinity's encoding, of the formats that have one. -/
def Fmt.infCode (f : Fmt) : Nat := (2 ^ f.eb - 1) * 2 ^ f.mb
/-- The canonical NaN (R75). -/
def Fmt.nan (f : Fmt) : Nat :=
  match f.kind with
  | .ieee => (2 ^ f.eb - 1) * 2 ^ f.mb + 2 ^ (f.mb - 1)
  | .e4m3 => 0x7F
  | .e2m1 => 0
/-- The exponent of the subnormal grid: the least bit weighs 2 to this. -/
def Fmt.lsb (f : Fmt) : Int := 1 - (f.bias : Int) - (f.mb : Int)
/-- An encoding with a sign. -/
def Fmt.signed (f : Fmt) (neg : Bool) (code : Nat) : Nat := (if neg then 2 ^ (f.bits - 1) else 0) + code

/-- A decoded value: a NaN, an infinity, or (−1)^neg · m · 2^e. -/
inductive FVal where
  | nan (signalling : Bool)
  | inf (neg : Bool)
  | fin (neg : Bool) (m : Nat) (e : Int)
deriving DecidableEq, Repr

/-- Decoding the low bits of an encoding (R75, R76). -/
def Fmt.decode (f : Fmt) (x : Nat) : FVal :=
  let neg := decide (x / 2 ^ (f.bits - 1) % 2 = 1)
  let e := x / 2 ^ f.mb % 2 ^ f.eb
  let m := x % 2 ^ f.mb
  let special := match f.kind with
    | .ieee => decide (e = 2 ^ f.eb - 1)
    | .e4m3 => decide (e = 15 ∧ m = 7)
    | .e2m1 => false
  if special then
    (if f.kind = .e4m3 then .nan false
     else if m = 0 then .inf neg
     else .nan (decide (m < 2 ^ (f.mb - 1))))
  else if e = 0 then .fin neg m f.lsb
  else .fin neg (2 ^ f.mb + m) (f.lsb + ((e : Int) - 1))

/-! ### Flags (R88): IV, DZ, OF, UF, NX as bits 4 to 0 -/

/-- Sticky flags of one operation. -/
abbrev Flags5 := BitVec 5
/-- Invalid. -/
def fIV : Flags5 := 16
/-- Divide by zero. -/
def fDZ : Flags5 := 8
/-- Overflow. -/
def fOF : Flags5 := 4
/-- Underflow. -/
def fUF : Flags5 := 2
/-- Inexact. -/
def fNX : Flags5 := 1
/-- A flag if a condition holds. -/
def flagIf (b : Bool) (f : Flags5) : Flags5 := if b then f else 0

/-! ### Rounding (R84 to R87) -/

/-- Rounding modes (R84); SR carries the 32 bits of SRBits (R87). -/
inductive RMode where
  | rne | rz | rup | rdn | rna
  | sr (bits : Nat)
deriving DecidableEq, Repr

/-- The mode of an FLG.RM or RMODE.RM code (R20). -/
def modeOfFlg (rm : BitVec 3) : RMode :=
  match rm.toNat with
  | 0 => .rne
  | 1 => .rz
  | 2 => .rup
  | 3 => .rdn
  | _ => .rna

/-- Number of significant bits. -/
def bitLen (m : Nat) : Nat := if m = 0 then 0 else Nat.log2 m + 1

/-- Whether the magnitude rounds away from zero: `rem` of 2^k discarded, `sticky` for a further non-zero part. -/
def roundUp (mode : RMode) (neg : Bool) (lo rem k : Nat) (sticky : Bool) : Bool :=
  let inexact := decide (rem ≠ 0) || sticky
  match mode with
  | .rne => decide (2 ^ k < 2 * rem) || (decide (2 * rem = 2 ^ k) && (sticky || decide (lo % 2 = 1)))
  | .rna => decide (2 ^ k ≤ 2 * rem)
  | .rz => false
  | .rup => inexact && !neg
  | .rdn => inexact && neg
  | .sr bits => inexact && decide (2 ^ 32 ≤ rem * 2 ^ 32 / 2 ^ k + bits)

/-- The first step of R84 on the grid 2^q: the rounded multiple and whether the result differs from the exact value. -/
def roundAt (mode : RMode) (neg : Bool) (m : Nat) (e q : Int) (sticky : Bool) : Nat × Bool :=
  if q ≤ e then
    let lo := m * 2 ^ (e - q).toNat
    (if roundUp mode neg lo 0 0 sticky then lo + 1 else lo, sticky)
  else
    let k := (q - e).toNat
    let lo := m / 2 ^ k
    let rem := m % 2 ^ k
    (if roundUp mode neg lo rem k sticky then lo + 1 else lo, decide (rem ≠ 0) || sticky)

/-- The result of an overflow (R85). -/
def overflow (f : Fmt) (mode : RMode) (sat neg : Bool) : Nat :=
  let toMax : Bool := match mode with
    | .rz => true
    | .rup => neg
    | .rdn => !neg
    | _ => false
  if f.kind = .e2m1 ∨ sat ∨ toMax then f.signed neg f.maxCode
  else if f.kind = .e4m3 then f.nan
  else f.signed neg f.infCode

/-- Round(fmt, x, mode) of the exact non-NaN value (−1)^neg · m · 2^e (R84 to R88); `sticky` stands for a further
positive part below one unit of m. A zero keeps its sign. -/
def roundTo (f : Fmt) (mode : RMode) (sat neg : Bool) (m : Nat) (e : Int) (sticky : Bool) : Nat × Flags5 :=
  if m = 0 ∧ ¬ sticky then (f.signed neg 0, 0)
  else
    let q := max (e + bitLen m - (f.mb + 1 : Nat)) f.lsb
    let r := roundAt mode neg m e q sticky
    let code := (q - f.lsb).toNat * 2 ^ f.mb + r.1
    if f.maxCode < code then (overflow f mode sat neg, fOF ||| fNX)
    else (f.signed neg code, flagIf r.2 fNX ||| flagIf (r.2 && decide (code < 2 ^ f.mb)) fUF)

/-! ### Arithmetic (R106) -/

/-- Whether a value is a signalling NaN. -/
def FVal.isSnan : FVal → Bool
  | .nan s => s
  | _ => false
/-- Whether a value is a NaN. -/
def FVal.isNan : FVal → Bool
  | .nan _ => true
  | _ => false
/-- The sign of a number. -/
def FVal.neg : FVal → Bool
  | .nan _ => false
  | .inf n => n
  | .fin n _ _ => n
/-- A value with the sign reversed. -/
def FVal.flip : FVal → FVal
  | .nan s => .nan s
  | .inf n => .inf (!n)
  | .fin n m e => .fin (!n) m e
/-- A NaN result with IV when an operand is signalling or the operation invalid (R88, R89). -/
def nanResult (f : Fmt) (iv : Bool) : Nat × Flags5 := (f.nan, flagIf iv fIV)

/-- The exact sum of two finite values as a signed multiple of 2^e. -/
def exactSum (n1 : Bool) (m1 : Nat) (e1 : Int) (n2 : Bool) (m2 : Nat) (e2 : Int) : Int × Int :=
  let e := min e1 e2
  let a : Int := (m1 * 2 ^ (e1 - e).toNat : Nat)
  let b : Int := (m2 * 2 ^ (e2 - e).toNat : Nat)
  ((if n1 then -a else a) + (if n2 then -b else b), e)

/-- The sign of an exact zero sum (R84). -/
def zeroSumNeg (mode : RMode) (n1 n2 : Bool) : Bool := if n1 = n2 then n1 else decide (mode = .rdn)

/-- Rounding a finite sum. -/
def roundSum (f : Fmt) (mode : RMode) (n1 : Bool) (m1 : Nat) (e1 : Int) (n2 : Bool) (m2 : Nat) (e2 : Int) :
    Nat × Flags5 :=
  let s := exactSum n1 m1 e1 n2 m2 e2
  if s.1 = 0 then
    (f.signed (if m1 = 0 ∧ m2 = 0 then zeroSumNeg mode n1 n2 else decide (mode = .rdn)) 0, 0)
  else roundTo f mode false (decide (s.1 < 0)) s.1.natAbs s.2 false

/-- The sum of two values. -/
def fAddV (f : Fmt) (mode : RMode) (x y : FVal) : Nat × Flags5 :=
  match x, y with
  | .nan a, y => nanResult f (a || y.isSnan)
  | x, .nan b => nanResult f (b || x.isSnan)
  | .inf a, .inf b => if a = b then (f.signed a f.infCode, 0) else nanResult f true
  | .inf a, _ => (f.signed a f.infCode, 0)
  | _, .inf b => (f.signed b f.infCode, 0)
  | .fin n1 m1 e1, .fin n2 m2 e2 => roundSum f mode n1 m1 e1 n2 m2 e2

/-- x + y. -/
def fAdd (f : Fmt) (mode : RMode) (x y : Nat) : Nat × Flags5 := fAddV f mode (f.decode x) (f.decode y)

/-- x − y. -/
def fSub (f : Fmt) (mode : RMode) (x y : Nat) : Nat × Flags5 := fAddV f mode (f.decode x) (f.decode y).flip

/-- x × y (a zero takes the XOR of the signs). -/
def fMul (f : Fmt) (mode : RMode) (x y : Nat) : Nat × Flags5 :=
  match f.decode x, f.decode y with
  | .nan a, v => nanResult f (a || v.isSnan)
  | u, .nan b => nanResult f (b || u.isSnan)
  | .inf a, .inf b => (f.signed (a != b) f.infCode, 0)
  | .inf a, .fin b m _ => if m = 0 then nanResult f true else (f.signed (a != b) f.infCode, 0)
  | .fin a m _, .inf b => if m = 0 then nanResult f true else (f.signed (a != b) f.infCode, 0)
  | .fin n1 m1 e1, .fin n2 m2 e2 => roundTo f mode false (n1 != n2) (m1 * m2) (e1 + e2) false

/-- z + x × y, rounded once: 0 × ∞ raises IV even with a quiet NaN addend. -/
def fFma (f : Fmt) (mode : RMode) (z x y : Nat) : Nat × Flags5 :=
  let w := f.decode z
  let u := f.decode x
  let v := f.decode y
  let snan := w.isSnan || u.isSnan || v.isSnan
  let zeroInf := match u, v with
    | .inf _, .fin _ m _ => decide (m = 0)
    | .fin _ m _, .inf _ => decide (m = 0)
    | _, _ => false
  if zeroInf then nanResult f true
  else if w.isNan || u.isNan || v.isNan then nanResult f snan
  else
    match u, v with
    | .fin n1 m1 e1, .fin n2 m2 e2 =>
      (match w with
       | .inf n => (f.signed n f.infCode, 0)
       | .fin n m e => roundSum f mode n m e (n1 != n2) (m1 * m2) (e1 + e2)
       | .nan s => nanResult f s)
    | _, _ =>
      let n := u.neg != v.neg
      (match w with
       | .inf k => if k = n then (f.signed n f.infCode, 0) else nanResult f true
       | _ => (f.signed n f.infCode, 0))

/-- x × 2^k; k beyond ±8192 gives the same result as ±8192 in every format. -/
def fScale (f : Fmt) (mode : RMode) (x : Nat) (k : Int) : Nat × Flags5 :=
  match f.decode x with
  | .nan s => nanResult f s
  | .inf n => (f.signed n f.infCode, 0)
  | .fin n m e => roundTo f mode false n m (e + max (-8192) (min 8192 k)) false

/-- x ÷ y (R110). -/
def fDivide (f : Fmt) (mode : RMode) (x y : Nat) : Nat × Flags5 :=
  match f.decode x, f.decode y with
  | .nan a, v => nanResult f (a || v.isSnan)
  | u, .nan b => nanResult f (b || u.isSnan)
  | .inf _, .inf _ => nanResult f true
  | .inf a, .fin b _ _ => (f.signed (a != b) f.infCode, 0)
  | .fin a _ _, .inf b => (f.signed (a != b) 0, 0)
  | .fin a m1 e1, .fin b m2 e2 =>
    if m2 = 0 then (if m1 = 0 then nanResult f true else (f.signed (a != b) f.infCode, fDZ))
    else
      let k := f.mb + 4 + bitLen m2
      roundTo f mode false (a != b) (m1 * 2 ^ k / m2) (e1 - e2 - k) (decide (m1 * 2 ^ k % m2 ≠ 0))

/-- The integer square root, bit by bit. -/
def isqrtFrom (n r : Nat) : Nat → Nat
  | 0 => r
  | i + 1 => if (r + 2 ^ i) * (r + 2 ^ i) ≤ n then isqrtFrom n (r + 2 ^ i) i else isqrtFrom n r i

/-- The integer square root. -/
def isqrt (n : Nat) : Nat := isqrtFrom n 0 (bitLen n / 2 + 1)

/-- √x (R110). -/
def fSqrt (f : Fmt) (mode : RMode) (x : Nat) : Nat × Flags5 :=
  match f.decode x with
  | .nan s => nanResult f s
  | .inf n => if n then nanResult f true else (f.infCode, 0)
  | .fin n m e =>
    if m = 0 then (f.signed n 0, 0)
    else if n then nanResult f true
    else
      let odd := decide (e % 2 ≠ 0)
      let m' := (if odd then 2 * m else m) * 4 ^ (f.mb + 4)
      let e' := if odd then e - 1 else e
      let r := isqrt m'
      roundTo f mode false false r (e' / 2 - (f.mb + 4 : Nat)) (decide (r * r ≠ m'))

/-- The order of numbers with −0 below +0 (R89); an infinity as a sign. -/
def fLess : FVal → FVal → Bool
  | .inf a, .inf b => a && !b
  | .inf a, _ => a
  | _, .inf b => !b
  | .fin n1 m1 e1, .fin n2 m2 e2 =>
    let s := exactSum n1 m1 e1 (!n2) m2 e2
    decide (s.1 < 0) || (decide (s.1 = 0) && n1 && !n2)
  | _, _ => false

/-- Minimum or maximum (R90): `number` selects minimumNumber and maximumNumber. -/
def fMinMax (f : Fmt) (isMax number : Bool) (x y : Nat) : Nat × Flags5 :=
  let u := f.decode x
  let v := f.decode y
  let fl := flagIf (u.isSnan || v.isSnan) fIV
  if u.isNan && v.isNan then (f.nan, fl)
  else if u.isNan then (if number then y % 2 ^ f.bits else f.nan, fl)
  else if v.isNan then (if number then x % 2 ^ f.bits else f.nan, fl)
  else if fLess u v = isMax then (y % 2 ^ f.bits, fl)
  else (x % 2 ^ f.bits, fl)

/-- |x|; a NaN becomes the canonical NaN without a flag (R89). -/
def fAbs (f : Fmt) (x : Nat) : Nat := if (f.decode x).isNan then f.nan else x % 2 ^ (f.bits - 1)

/-- −x; a NaN becomes the canonical NaN without a flag (R89). -/
def fNeg (f : Fmt) (x : Nat) : Nat :=
  if (f.decode x).isNan then f.nan else f.signed (x / 2 ^ (f.bits - 1) % 2 == 0) (x % 2 ^ (f.bits - 1))

/-- |x| with the sign bit of y (R106). -/
def fSgnj (f : Fmt) (x y : Nat) : Nat :=
  if (f.decode x).isNan then f.nan else f.signed (y / 2 ^ (f.bits - 1) % 2 == 1) (x % 2 ^ (f.bits - 1))

/-- The class mask (R108). -/
def fClass (f : Fmt) (x : Nat) : Nat :=
  let sub (m : Nat) : Bool := decide (m < 2 ^ f.mb)
  match f.decode x with
  | .nan s => if s then 2 ^ 8 else 2 ^ 9
  | .inf n => if n then 2 ^ 0 else 2 ^ 7
  | .fin n m _ =>
    if m = 0 then (if n then 2 ^ 3 else 2 ^ 4)
    else if sub m then (if n then 2 ^ 2 else 2 ^ 5)
    else (if n then 2 ^ 1 else 2 ^ 6)

/-- Rounding to an integral value in the same format, keeping the sign (R106). -/
def fRint (f : Fmt) (mode : RMode) (x : Nat) : Nat × Flags5 :=
  match f.decode x with
  | .nan s => nanResult f s
  | .inf n => (f.signed n f.infCode, 0)
  | .fin n m e =>
    if 0 ≤ e then (x % 2 ^ f.bits, 0)
    else
      let r := roundAt mode n m e 0 false
      ((roundTo f .rz false n r.1 0 false).1, flagIf r.2 fNX)

/-- The relation of two values: less, equal, greater, unordered (R107). -/
inductive FRel where
  | lt | eq | gt | un
deriving DecidableEq, Repr

/-- The comparison of two encodings (R107). -/
def fCompare (f : Fmt) (x y : Nat) : FRel :=
  let u := f.decode x
  let v := f.decode y
  if u.isNan || v.isNan then .un
  else if fLess u v then .lt
  else if fLess v u then .gt
  else .eq

/-! ### Conversions (R85, R91, R92) -/

/-- A decoded value to FP (R85, R92). -/
def valToFp (dst : Fmt) (mode : RMode) (sat : Bool) (v : FVal) : Nat × Flags5 :=
  match v with
  | .nan s => if dst.kind = .e2m1 then (0, fIV) else (dst.nan, flagIf s fIV)
  | .inf n =>
    (match dst.kind with
     | .ieee => (dst.signed n dst.infCode, 0)
     | .e4m3 => if sat then (dst.signed n dst.maxCode, fNX) else (dst.nan, fIV)
     | .e2m1 => (dst.signed n dst.maxCode, fNX))
  | .fin n m e => roundTo dst mode sat n m e false

/-- FP to FP. -/
def fpToFp (src dst : Fmt) (mode : RMode) (sat : Bool) (x : Nat) : Nat × Flags5 :=
  valToFp dst mode sat (src.decode x)

/-- An integer value delivered under the range rules of R91, as a w-bit pattern; `nx` when it was inexact. -/
def intRange (signed : Bool) (w : Nat) (sat : Bool) (v : Int) (nx : Bool) : Nat × Flags5 :=
  let lo : Int := if signed then -(2 ^ (w - 1) : Nat) else 0
  let hi : Int := if signed then (2 ^ (w - 1) : Nat) - 1 else (2 ^ w : Nat) - 1
  let enc (i : Int) : Nat := (i % (2 ^ w : Nat)).toNat
  if lo ≤ v ∧ v ≤ hi then (enc v, flagIf nx fNX)
  else if sat then (enc (if v < lo then lo else hi), fNX)
  else (if signed then 2 ^ (w - 1) else 2 ^ w - 1, fIV)

/-- A decoded value to an integer of w bits (R91). -/
def valToInt (signed : Bool) (w : Nat) (mode : RMode) (sat : Bool) (v : FVal) : Nat × Flags5 :=
  match v with
  | .nan _ => if sat then (0, fIV) else (if signed then 2 ^ (w - 1) else 2 ^ w - 1, fIV)
  | .inf n => intRange signed w sat (if n then -(2 ^ 70 : Nat) else (2 ^ 70 : Nat)) false
  | .fin n m e =>
    let r := if 0 ≤ e then (m * 2 ^ (min e 2000).toNat, false) else roundAt mode n m e 0 false
    intRange signed w sat (if n then -(r.1 : Int) else (r.1 : Int)) r.2

/-- FP to integer of w bits (R91). -/
def fpToInt (src : Fmt) (signed : Bool) (w : Nat) (mode : RMode) (sat : Bool) (x : Nat) : Nat × Flags5 :=
  valToInt signed w mode sat (src.decode x)

/-- Integer to FP (R92); zero converts to +0. -/
def intToFp (dst : Fmt) (mode : RMode) (v : Int) : Nat × Flags5 :=
  roundTo dst mode false (decide (v < 0)) v.natAbs 0 false

/-! ### Stochastic rounding (R87) -/

/-- Mix. -/
def mix64 (z : BitVec 64) : BitVec 64 :=
  let a := (z ^^^ (z >>> 30)) * 0xBF58476D1CE4E5B9#64
  let b := (a ^^^ (a >>> 27)) * 0x94D049BB133111EB#64
  b ^^^ (b >>> 31)

/-- SRBits(src, e), with the seed, launch id, SID and code offset. -/
def srBits (xseed : BitVec 64) (lid sid : Nat) (pcoff : BitVec 32) (src : BitVec 64) (e : Nat) : Nat :=
  let key := mix64 ((xseed ^^^ BitVec.ofNat 64 (lid * 2 ^ 32)) ^^^ BitVec.ofNat 64 sid)
  let c := (pcoff.setWidth 64 <<< 32) ||| BitVec.ofNat 64 (e * 65536)
  ((mix64 (mix64 (key ^^^ src) ^^^ c)).extractLsb' 32 32).toNat

end Sys2Proof.Machine
end

