-- ==== Sys2Proof/Syntax.lean ====
section
/-! DEFINITION. The instruction set as syntax: prefix words (R35 to R38), the second word of an L-format
instruction (R31), and one constructor of `Instr` per row of spec/opcode_table.json. The fields of an encoded
instruction are its raw bit fields; reserved values are kept, so that decode and encode lose no bit and the order of
decode faults (R43) is judged by the machine. The rows of the table that have no encoding are events: steps of the
package's other agents, whose arguments are the inputs the rule leaves to the environment. -/

namespace Sys2Proof

/-- A prefix word (R35): kind 0b00 IMMX (R36), 0b01 DST (R37), 0b10 PAGE (R38), each with its raw body. -/
inductive Prefix where
  | immx (v : BitVec 10)
  | dst (s : BitVec 6) (w : BitVec 4)
  | page (v : BitVec 10)
deriving DecidableEq, Repr

/-- The second word of an L-format instruction (R31): lookahead, scope, order, auxiliary field. -/
structure W1 where
  la : BitVec 4
  sc : BitVec 3
  od : BitVec 3
  aux : BitVec 6
deriving DecidableEq, Repr

/-- Where an uncorrectable error lies, or what consumes it (R414, R415): a core's running region, with the detail of
ECC and the clean cached line that failed, if one did; the checkpoint of a core; a park slot; a core's
checkpoint or park slot in a partition's shadow bank; bytes of a persistent region, of an accumulator image or of a queued message
there; a core's accumulator store or stream data, consumed by the running command; a contribution of GRED; a bulk copy; an
HBM or expander line; an L2 data entry; a published store of a core to a line (R202); a flit; die-wide state. -/
inductive ErrSite where
  | core (sid : Nat) (detail : BitVec 8) (line : Option Nat)
  | checkpoint (sid : Nat)
  | park (sid : Nat) (slot : BitVec 2)
  | shadow (part sid : Nat) (slot : Option (BitVec 2))
  | shadowBytes (part key n : Nat)
  | shadowAccum (part sid addr n : Nat)
  | shadowQueue (part sid : Nat) (ch : BitVec 6) (n : Nat)
  | accum (sid : Nat)
  | stream (sid : Nat)
  | gred (sid : Nat)
  | bulk (dk part ticket : Nat)
  | memory (line : Nat)
  | l2 (slice entry : Nat)
  | published (sid line : Nat)
  | flit (pkt idx : Nat)
  | die (die : Nat)
deriving DecidableEq, Repr

/-- What a packet of the deflection network transports (R322, R339): the read, a load or returning atomic, of a line by agent `sid`
(or by its engine, 8192 times the kind 1 matrix, 2 stream, 3 bulk above it), a status request of a core, the write of a line by a
published store or a no-return atomic, a barrier's, GRED's or VMAXX's collective, the data of a line, an operand panel, the
message at a place on the wire, a probe or its answer, the acknowledgement at a place of those on their way, a packet that stands at a
gate to enter the mesh there (R328, R340) or that a halt has withdrawn (R335), and the request to send a packet again (R334). Of a
collective or a panel `sid` is the member that sends it. -/
inductive Traffic where
  | read (sid line : Nat)
  | status (sid : Nat)
  | write (sid line : Nat)
  | collective (sid : Nat)
  | data (line : Nat)
  | panel (sid : Nat)
  | message (n : Nat)
  | probe (line : Nat)
  | ack (n : Nat)
  | forward (pkt : Nat)
  | resend (pkt : Nat)
deriving DecidableEq, Repr

/-- The instructions and events of spec/opcode_table.json, one constructor per row. -/
inductive Instr where
  | trap (px : List Prefix) (n : BitVec 8)
  | nop (px : List Prefix)
  | done (px : List Prefix)
  | commit (px : List Prefix)
  | yield (px : List Prefix)
  | ret (px : List Prefix)
  | eret (px : List Prefix)
  | lda (px : List Prefix) (s : BitVec 6)
  | sta (px : List Prefix) (s : BitVec 6)
  | add (px : List Prefix) (s : BitVec 6)
  | adc (px : List Prefix) (s : BitVec 6)
  | sub (px : List Prefix) (s : BitVec 6)
  | sbc (px : List Prefix) (s : BitVec 6)
  | rsb (px : List Prefix) (s : BitVec 6)
  | cmp (px : List Prefix) (s : BitVec 6)
  | and (px : List Prefix) (s : BitVec 6)
  | or (px : List Prefix) (s : BitVec 6)
  | xor (px : List Prefix) (s : BitVec 6)
  | andn (px : List Prefix) (s : BitVec 6)
  | tst (px : List Prefix) (s : BitVec 6)
  | shl (px : List Prefix) (s : BitVec 6)
  | shr (px : List Prefix) (s : BitVec 6)
  | sar (px : List Prefix) (s : BitVec 6)
  | rol (px : List Prefix) (s : BitVec 6)
  | ror (px : List Prefix) (s : BitVec 6)
  | mul (px : List Prefix) (s : BitVec 6)
  | mulh (px : List Prefix) (s : BitVec 6)
  | mulhn (px : List Prefix) (s : BitVec 6)
  | min (px : List Prefix) (s : BitVec 6)
  | max (px : List Prefix) (s : BitVec 6)
  | minn (px : List Prefix) (s : BitVec 6)
  | maxn (px : List Prefix) (s : BitVec 6)
  | neg (px : List Prefix) (s : BitVec 6)
  | not (px : List Prefix) (s : BitVec 6)
  | clz (px : List Prefix) (s : BitVec 6)
  | ctz (px : List Prefix) (s : BitVec 6)
  | popc (px : List Prefix) (s : BitVec 6)
  | brev (px : List Prefix) (s : BitVec 6)
  | bswp (px : List Prefix) (s : BitVec 6)
  | sext (px : List Prefix) (s : BitVec 6)
  | zext (px : List Prefix) (s : BitVec 6)
  | bfx (px : List Prefix) (s : BitVec 6)
  | bfi (px : List Prefix) (s : BitVec 6)
  | selz (px : List Prefix) (s : BitVec 6)
  | selnz (px : List Prefix) (s : BitVec 6)
  | mac (px : List Prefix) (s : BitVec 6)
  | xchg (px : List Prefix) (s : BitVec 6)
  | adds (px : List Prefix) (s : BitVec 6)
  | subs (px : List Prefix) (s : BitVec 6)
  | abs (px : List Prefix) (s : BitVec 6)
  | fadd (px : List Prefix) (s : BitVec 6) (t : BitVec 2)
  | fsub (px : List Prefix) (s : BitVec 6) (t : BitVec 2)
  | fmul (px : List Prefix) (s : BitVec 6) (t : BitVec 2)
  | ffma (px : List Prefix) (s : BitVec 6) (t : BitVec 2)
  | fscl (px : List Prefix) (s : BitVec 6) (t : BitVec 2)
  | frsub (px : List Prefix) (s : BitVec 6) (t : BitVec 2)
  | fmin (px : List Prefix) (s : BitVec 6) (t : BitVec 2)
  | fmax (px : List Prefix) (s : BitVec 6) (t : BitVec 2)
  | fcmp (px : List Prefix) (s : BitVec 6) (t : BitVec 2)
  | fabs (px : List Prefix) (s : BitVec 6) (t : BitVec 2)
  | fneg (px : List Prefix) (s : BitVec 6) (t : BitVec 2)
  | fclass (px : List Prefix) (s : BitVec 6) (t : BitVec 2)
  | frint (px : List Prefix) (s : BitVec 6) (t : BitVec 2)
  | fsgnj (px : List Prefix) (s : BitVec 6) (t : BitVec 2)
  | fminn (px : List Prefix) (s : BitVec 6) (t : BitVec 2)
  | fmaxn (px : List Prefix) (s : BitVec 6) (t : BitVec 2)
  | cvt (px : List Prefix) (s : BitVec 6) (d : BitVec 3) (c : BitVec 3)
  | ldi (px : List Prefix) (imm : BitVec 8)
  | addi (px : List Prefix) (imm : BitVec 8)
  | cmpi (px : List Prefix) (imm : BitVec 8)
  | andi (px : List Prefix) (imm : BitVec 8)
  | ori (px : List Prefix) (imm : BitVec 8)
  | xori (px : List Prefix) (imm : BitVec 8)
  | shli (px : List Prefix) (imm : BitVec 8)
  | shri (px : List Prefix) (imm : BitVec 8)
  | sari (px : List Prefix) (imm : BitVec 8)
  | muli (px : List Prefix) (imm : BitVec 8)
  | mfc (px : List Prefix) (imm : BitVec 8)
  | mtc (px : List Prefix) (imm : BitVec 8)
  | spres (px : List Prefix) (imm : BitVec 8)
  | sclr (px : List Prefix) (imm : BitVec 8)
  | pset (px : List Prefix) (pr : BitVec 3) (imm : BitVec 6)
  | pget (px : List Prefix) (pr : BitVec 3) (imm : BitVec 6)
  | padd (px : List Prefix) (pr : BitVec 3) (imm : BitVec 6)
  | pstep (px : List Prefix) (pr : BitVec 3) (imm : BitVec 6)
  | pmod (px : List Prefix) (pr : BitVec 3) (imm : BitVec 6)
  | plea (px : List Prefix) (pr : BitVec 3) (imm : BitVec 6)
  | pswp (px : List Prefix) (pr : BitVec 3) (imm : BitVec 6)
  | pcmp (px : List Prefix) (pr : BitVec 3) (imm : BitVec 6)
  | vfadd (px : List Prefix) (va : BitVec 2) (pp : BitVec 3) (m : Bool) (t : BitVec 2)
  | vfsub (px : List Prefix) (va : BitVec 2) (pp : BitVec 3) (m : Bool) (t : BitVec 2)
  | vfmul (px : List Prefix) (va : BitVec 2) (pp : BitVec 3) (m : Bool) (t : BitVec 2)
  | vfma (px : List Prefix) (va : BitVec 2) (pp : BitVec 3) (m : Bool) (t : BitVec 2)
  | vfscl (px : List Prefix) (va : BitVec 2) (pp : BitVec 3) (m : Bool) (t : BitVec 2)
  | vfrsub (px : List Prefix) (va : BitVec 2) (pp : BitVec 3) (m : Bool) (t : BitVec 2)
  | vfmin (px : List Prefix) (va : BitVec 2) (pp : BitVec 3) (m : Bool) (t : BitVec 2)
  | vfmax (px : List Prefix) (va : BitVec 2) (pp : BitVec 3) (m : Bool) (t : BitVec 2)
  | vfceq (px : List Prefix) (va : BitVec 2) (pp : BitVec 3) (m : Bool) (t : BitVec 2)
  | vfclt (px : List Prefix) (va : BitVec 2) (pp : BitVec 3) (m : Bool) (t : BitVec 2)
  | vfcle (px : List Prefix) (va : BitVec 2) (pp : BitVec 3) (m : Bool) (t : BitVec 2)
  | vfabs (px : List Prefix) (va : BitVec 2) (pp : BitVec 3) (m : Bool) (t : BitVec 2)
  | vfneg (px : List Prefix) (va : BitVec 2) (pp : BitVec 3) (m : Bool) (t : BitVec 2)
  | vfminn (px : List Prefix) (va : BitVec 2) (pp : BitVec 3) (m : Bool) (t : BitVec 2)
  | vfmaxn (px : List Prefix) (va : BitVec 2) (pp : BitVec 3) (m : Bool) (t : BitVec 2)
  | vfreds (px : List Prefix) (va : BitVec 2) (pp : BitVec 3) (m : Bool) (t : BitVec 2)
  | vld (px : List Prefix) (va : BitVec 2) (pp : BitVec 3) (m : Bool)
  | vst (px : List Prefix) (va : BitVec 2) (pp : BitVec 3) (m : Bool)
  | vbcstI64 (px : List Prefix) (va : BitVec 2) (pp : BitVec 3) (m : Bool)
  | vbcstI32 (px : List Prefix) (va : BitVec 2) (pp : BitVec 3) (m : Bool)
  | vbcstI16 (px : List Prefix) (va : BitVec 2) (pp : BitVec 3) (m : Bool)
  | vbcstI8 (px : List Prefix) (va : BitVec 2) (pp : BitVec 3) (m : Bool)
  | vmov (px : List Prefix) (va : BitVec 2) (pp : BitVec 3) (m : Bool)
  | vshuf (px : List Prefix) (va : BitVec 2) (pp : BitVec 3) (m : Bool)
  | vsel (px : List Prefix) (va : BitVec 2) (pp : BitVec 3) (m : Bool)
  | viadd (px : List Prefix) (va : BitVec 2) (pp : BitVec 3) (m : Bool) (t : BitVec 2)
  | visub (px : List Prefix) (va : BitVec 2) (pp : BitVec 3) (m : Bool) (t : BitVec 2)
  | vimul (px : List Prefix) (va : BitVec 2) (pp : BitVec 3) (m : Bool) (t : BitVec 2)
  | vimin (px : List Prefix) (va : BitVec 2) (pp : BitVec 3) (m : Bool) (t : BitVec 2)
  | vimax (px : List Prefix) (va : BitVec 2) (pp : BitVec 3) (m : Bool) (t : BitVec 2)
  | viminn (px : List Prefix) (va : BitVec 2) (pp : BitVec 3) (m : Bool) (t : BitVec 2)
  | vimaxn (px : List Prefix) (va : BitVec 2) (pp : BitVec 3) (m : Bool) (t : BitVec 2)
  | vand (px : List Prefix) (va : BitVec 2) (pp : BitVec 3) (m : Bool) (t : BitVec 2)
  | vor (px : List Prefix) (va : BitVec 2) (pp : BitVec 3) (m : Bool) (t : BitVec 2)
  | vxor (px : List Prefix) (va : BitVec 2) (pp : BitVec 3) (m : Bool) (t : BitVec 2)
  | vshl (px : List Prefix) (va : BitVec 2) (pp : BitVec 3) (m : Bool) (t : BitVec 2)
  | vshr (px : List Prefix) (va : BitVec 2) (pp : BitVec 3) (m : Bool) (t : BitVec 2)
  | br (px : List Prefix) (cc : BitVec 3) (off : BitVec 9)
  | jmp (px : List Prefix) (off : BitVec 11)
  | brl (px : List Prefix) (off : BitVec 11)
  | chen (px : List Prefix) (arg : BitVec 8)
  | chdis (px : List Prefix) (arg : BitVec 8)
  | chpend (px : List Prefix) (arg : BitVec 8)
  | chclr (px : List Prefix) (arg : BitVec 8)
  | chpri (px : List Prefix) (arg : BitVec 8)
  | jmps (px : List Prefix) (arg : BitVec 8)
  | brls (px : List Prefix) (arg : BitVec 8)
  | kand (px : List Prefix) (arg : BitVec 8)
  | kor (px : List Prefix) (arg : BitVec 8)
  | kxor (px : List Prefix) (arg : BitVec 8)
  | knot (px : List Prefix) (arg : BitVec 8)
  | kmov (px : List Prefix) (arg : BitVec 8)
  | kany (px : List Prefix) (arg : BitVec 8)
  | kall (px : List Prefix) (arg : BitVec 8)
  | kpop (px : List Prefix) (arg : BitVec 8)
  | rep (px : List Prefix) (arg : BitVec 8)
  | cmask (px : List Prefix) (arg : BitVec 8)
  | cunmask (px : List Prefix) (arg : BitVec 8)
  | kseti (px : List Prefix) (arg : BitVec 8)
  | ldg (px : List Prefix) (s : BitVec 6) (w1 : W1)
  | stg (px : List Prefix) (s : BitVec 6) (w1 : W1)
  | vldg (px : List Prefix) (s : BitVec 6) (w1 : W1)
  | vstg (px : List Prefix) (s : BitVec 6) (w1 : W1)
  | ldx (px : List Prefix) (s : BitVec 6) (w1 : W1)
  | stx (px : List Prefix) (s : BitVec 6) (w1 : W1)
  | stn (px : List Prefix) (s : BitVec 6) (w1 : W1)
  | pref (px : List Prefix) (s : BitVec 6) (w1 : W1)
  | amoadd (px : List Prefix) (s : BitVec 6) (w1 : W1)
  | amoand (px : List Prefix) (s : BitVec 6) (w1 : W1)
  | amoor (px : List Prefix) (s : BitVec 6) (w1 : W1)
  | amoxor (px : List Prefix) (s : BitVec 6) (w1 : W1)
  | amomin (px : List Prefix) (s : BitVec 6) (w1 : W1)
  | amomax (px : List Prefix) (s : BitVec 6) (w1 : W1)
  | amominn (px : List Prefix) (s : BitVec 6) (w1 : W1)
  | amomaxn (px : List Prefix) (s : BitVec 6) (w1 : W1)
  | amoswp (px : List Prefix) (s : BitVec 6) (w1 : W1)
  | amocas (px : List Prefix) (s : BitVec 6) (w1 : W1)
  | amofadd (px : List Prefix) (s : BitVec 6) (w1 : W1)
  | fence (px : List Prefix) (s : BitVec 6) (w1 : W1)
  | xfence (px : List Prefix) (s : BitVec 6) (w1 : W1)
  | tdecl (px : List Prefix) (s : BitVec 6) (w1 : W1)
  | tund (px : List Prefix) (s : BitVec 6) (w1 : W1)
  | tfwd (px : List Prefix) (s : BitVec 6) (w1 : W1)
  | twb (px : List Prefix) (s : BitVec 6) (w1 : W1)
  | tinv (px : List Prefix) (s : BitVec 6) (w1 : W1)
  | clwb (px : List Prefix) (s : BitVec 6) (w1 : W1)
  | clinv (px : List Prefix) (s : BitVec 6) (w1 : W1)
  | clfl (px : List Prefix) (s : BitVec 6) (w1 : W1)
  | sgo (px : List Prefix) (s : BitVec 6) (w1 : W1)
  | sbuf (px : List Prefix) (s : BitVec 6) (w1 : W1)
  | speek (px : List Prefix) (s : BitVec 6) (w1 : W1)
  | sfree (px : List Prefix) (s : BitVec 6) (w1 : W1)
  | scnt (px : List Prefix) (s : BitVec 6) (w1 : W1)
  | cpgo (px : List Prefix) (s : BitVec 6) (w1 : W1)
  | cpst (px : List Prefix) (s : BitVec 6) (w1 : W1)
  | mxgo (px : List Prefix) (s : BitVec 6) (w1 : W1)
  | mxrd (px : List Prefix) (s : BitVec 6) (w1 : W1)
  | mxwr (px : List Prefix) (s : BitVec 6) (w1 : W1)
  | mxst (px : List Prefix) (s : BitVec 6) (w1 : W1)
  | mxcfg (px : List Prefix) (s : BitVec 6) (w1 : W1)
  | mxmsk (px : List Prefix) (s : BitVec 6) (w1 : W1)
  | mxabt (px : List Prefix) (s : BitVec 6) (w1 : W1)
  | send (px : List Prefix) (s : BitVec 6) (w1 : W1)
  | bcast (px : List Prefix) (s : BitVec 6) (w1 : W1)
  | wrs (px : List Prefix) (s : BitVec 6) (w1 : W1)
  | psend (px : List Prefix) (s : BitVec 6) (w1 : W1)
  | launch (px : List Prefix) (s : BitVec 6) (w1 : W1)
  | trig (px : List Prefix) (s : BitVec 6) (w1 : W1)
  | bar (px : List Prefix) (s : BitVec 6) (w1 : W1)
  | svc (px : List Prefix) (s : BitVec 6) (w1 : W1)
  | hint (px : List Prefix) (s : BitVec 6) (w1 : W1)
  | gred (px : List Prefix) (s : BitVec 6) (w1 : W1)
  | vmaxx (px : List Prefix) (s : BitVec 6) (w1 : W1)
  | tlbi (px : List Prefix) (s : BitVec 6) (w1 : W1)
  | tlbsync (px : List Prefix) (s : BitVec 6) (w1 : W1)
  | probe (px : List Prefix) (s : BitVec 6) (w1 : W1)
  | pstop (px : List Prefix) (s : BitVec 6) (w1 : W1)
  | pgo (px : List Prefix) (s : BitVec 6) (w1 : W1)
  | cswap (px : List Prefix) (s : BitVec 6) (w1 : W1)
  | scrub (px : List Prefix) (s : BitVec 6) (w1 : W1)
  | exp2 (px : List Prefix) (s : BitVec 6) (w1 : W1)
  | log2 (px : List Prefix) (s : BitVec 6) (w1 : W1)
  | rcp (px : List Prefix) (s : BitVec 6) (w1 : W1)
  | rsq (px : List Prefix) (s : BitVec 6) (w1 : W1)
  | tanh (px : List Prefix) (s : BitVec 6) (w1 : W1)
  | sinp (px : List Prefix) (s : BitVec 6) (w1 : W1)
  | cosp (px : List Prefix) (s : BitVec 6) (w1 : W1)
  | rcps (px : List Prefix) (s : BitVec 6) (w1 : W1)
  | rsqs (px : List Prefix) (s : BitVec 6) (w1 : W1)
  | vexp2 (px : List Prefix) (s : BitVec 6) (w1 : W1)
  | vlog2 (px : List Prefix) (s : BitVec 6) (w1 : W1)
  | vrcp (px : List Prefix) (s : BitVec 6) (w1 : W1)
  | vrsq (px : List Prefix) (s : BitVec 6) (w1 : W1)
  | vtanh (px : List Prefix) (s : BitVec 6) (w1 : W1)
  | vcvt (px : List Prefix) (s : BitVec 6) (w1 : W1)
  | vqnt (px : List Prefix) (s : BitVec 6) (w1 : W1)
  | vdqnt (px : List Prefix) (s : BitVec 6) (w1 : W1)
  | xadd (px : List Prefix) (s : BitVec 6) (w1 : W1)
  | vxadd (px : List Prefix) (s : BitVec 6) (w1 : W1)
  | xrnd (px : List Prefix) (s : BitVec 6) (w1 : W1)
  | xmrg (px : List Prefix) (s : BitVec 6) (w1 : W1)
  | xclr (px : List Prefix) (s : BitVec 6) (w1 : W1)
  | fdiv (px : List Prefix) (s : BitVec 6) (w1 : W1)
  | fsqrt (px : List Prefix) (s : BitVec 6) (w1 : W1)
  | div (px : List Prefix) (s : BitVec 6) (w1 : W1)
  | divn (px : List Prefix) (s : BitVec 6) (w1 : W1)
  | rem (px : List Prefix) (s : BitVec 6) (w1 : W1)
  | remn (px : List Prefix) (s : BitVec 6) (w1 : W1)
  | vfdiv (px : List Prefix) (s : BitVec 6) (w1 : W1)
  | vfsqrt (px : List Prefix) (s : BitVec 6) (w1 : W1)
  | selection
  | longResult (sid : Nat)
  | instructionLimit (sid : Nat)
  | faultMessageRetry (n : Nat)
  | migrationRetry (sid : Nat) (slot : BitVec 2)
  | regionReply (n : Nat)
  | frameReturn (n : Nat)
  | agentReply (n : Nat)
  | uncorrectableError (site : ErrSite)
  | patrolScrub
  | fingerprintCompare (sid : Nat) (other : Word) (effect : Bool)
  | messageArrival (n : Nat) (down : Bool)
  | messageRetry (n : Nat) (down : Bool)
  | messageAck (sid : Nat)
  | wrsDeposit (n : Nat)
  | peerArrival (dst : BitVec 12) (src : BitVec 12) (seq : BitVec 16) (payload : List Word)
  | psendAck (n : Nat)
  | launchStart (num : Nat)
  | initialMessagePlacement (num : Nat)
  | quiescenceSweep (num : Nat)
  | hostChannelWrite (port : Nat) (part : Nat) (w : Nat) (off : Nat) (len : Nat) (dws : List Word)
  | hostChannelDelivery (port : Nat) (part : Nat) (w : Nat)
  | mxgoStart (sid : Nat)
  | gangFormation (sid : Nat)
  | gangTimeout (sid : Nat)
  | kStep (sid : Nat)
  | mxstPerform (sid : Nat)
  | mxwrPerform (sid : Nat)
  | mxcfgPerform (sid : Nat)
  | mxmskPerform (sid : Nat)
  | mxCompletion (sid : Nat)
  | gredStart (sid : Nat)
  | gredCompletion (sid : Nat)
  | gredTimeout (sid : Nat)
  | vmaxxCompletion (sid : Nat)
  | barrierCompletion (sid : Nat)
  | barrierTimeout (sid : Nat)
  | sbufPerform (sid : Nat)
  | sgoStart (sid : Nat)
  | streamSlot (sid : Nat)
  | bulkCopyTake (dk : Nat)
  | bulkCopyPiece (dk : Nat) (part : Nat) (ticket : Nat) (piece : Nat)
  | readShared (cl : Nat) (line : Nat)
  | readForOwnership (cl : Nat) (line : Nat)
  | upgrade (cl : Nat) (line : Nat)
  | writeBack (cl : Nat) (line : Nat)
  | cleanEvictionNotice (cl : Nat) (line : Nat)
  | probeAnswer (cl : Nat) (line : Nat) (inv : Bool)
  | tileGranuleRequest (cl : Nat) (line : Nat) (own : Bool)
  | lineGranuleWrite (line : Nat)
  | homeAtomic (line : Nat)
  | remoteWindowAccess (cl : Nat)
  | l2Fill (line : Nat) (part : Nat) (elig : Bool)
  | cxlMemRead (port : Nat) (line : Nat) (excl : Bool)
  | cxlMemWrite (port : Nat) (pa : Nat) (data : List Byte)
  | birsp (port : Nat) (line : Nat)
  | biconflict (port : Nat) (line : Nat) (excl : Bool)
  | snpinv (port : Nat) (line : Nat)
  | snpdata (port : Nat) (line : Nat)
  | snpcur (port : Nat) (line : Nat)
  | hostTimeout (sid : Nat) (line : Nat)
  | hostPostedWrite (port : Nat) (pa : Nat) (data : List Byte)
  | powerGate (cl : Nat)
  | packetAdmission (src : Nat) (dst : Nat) (what : Traffic) (cls : BitVec 3) (len : Nat) (charge : Nat)
  | flitArrival (die : Nat) (net : Nat) (x : Nat) (y : Nat) (ports : List Nat)
  | resendRequest (pkt : Nat)
  | starvationMark (pkt : Nat)
  | damperWindow
  | partialPacketTimeout (ep : Nat) (pkt : Nat)
  | ackTimeout (pkt : Nat)
  | sequenceGap (link : Nat) (seq : BitVec 12)
  | retrain (link : Nat) (ok : Bool)
  | rclsWrite (part : Nat) (c : BitVec 2) (v : Word)
  | ptrootWrite (who : Nat) (v : Word)
  | migcfgWrite (tile : Nat) (v : Word)
  | mgdAccess (write : Bool) (v : Word)
  | load (who : Nat)
  | registerWrite (agent : Nat) (off : Nat) (v : Word)
  | sensorSample (z : Nat) (s0 : Word) (s1 : Word)
  | valveAdjust (z : Nat) (v : BitVec 6)
  | flowLimitedLeave (z : Nat)
  | close (z : Nat)
  | purge (z : Nat)
  | verify (z : Nat)
  | verifyExpiry (z : Nat)
  | restoreComplete (z : Nat)
  | catWrite (agent : Nat) (z : Nat) (v : Word)
  | fncWrite (agent : Nat) (z : Nat)
  | msemRead (agent : Nat)
  | msemRelease (agent : Nat)
  | pmapWrite (agent : Nat) (part : Nat) (v : Word)
  | leaseWrite (agent : Nat) (part : Nat) (v : Word)
  | renew (port : Nat) (part : Nat)
  | leaseTick
  | leaseExpiry (part : Nat)
  | hostLinkDown (port : Nat) (hot : Bool)
  | flr (port : Nat) (part : Nat)
  | partitionResetScrub (part : Nat)
  | dieReset (die : Nat)
  | drainack (die : Nat) (link : Nat)
  | drainTimeout (die : Nat) (link : Nat)
  | pwrOk (flash : List (Nat × BitVec 8))
  | sysResetN
  | stageB1 (hold : Bool) (up0 : Bool) (up1 : Bool)
  | bstatHold
  | stageB2 (tables : List (Nat × Word)) (trained : Bool)
  | coolantPriming (z : Nat)
  | stageB3 (ports : BitVec 4) (expanders : List (Nat × Nat)) (peers : BitVec 32)
  | getVersion (port : Nat) (req : List Byte)
  | getCapabilities (port : Nat) (req : List Byte)
  | negotiateAlgorithms (port : Nat) (req : List Byte)
  | getDigests (port : Nat) (req : List Byte)
  | getCertificate (port : Nat) (req : List Byte)
  | challenge (port : Nat) (req : List Byte)
  | getMeasurements (port : Nat) (req : List Byte)
  | partitionHalt (part : Nat)
  | partitionResume (part : Nat)
  | scrubComplete (part : Nat)
  | spill (part : Nat)
  | fill (part : Nat)
  | vmaxxTimeout (sid : Nat)
  | expanderBisnp (line : Nat)
  | peerAccess (pa : Nat) (write : Bool) (data : List Byte)
  | powerDown
  | timeSlot (table : Nat) (slot : Nat)
  | ucieFlitArrival (link : Nat) (seq : BitVec 12)
deriving DecidableEq, Repr

end Sys2Proof
end

