-- ==== Sys2Proof/WellFormed.lean ====
section
/-! DEFINITION. Which terms of `Instr` are instructions: at most four prefix words (R35), a TRAP number other than 0
(R63: the word 0x0000 is the ZERO fault), a conversion between two different formats (R66). -/

namespace Sys2Proof

/-- The prefix words of an instruction; none for an event. -/
def Instr.prefixes : Instr → List Prefix
  | .trap px _ => px
  | .nop px => px
  | .done px => px
  | .commit px => px
  | .yield px => px
  | .ret px => px
  | .eret px => px
  | .lda px _ => px
  | .sta px _ => px
  | .add px _ => px
  | .adc px _ => px
  | .sub px _ => px
  | .sbc px _ => px
  | .rsb px _ => px
  | .cmp px _ => px
  | .and px _ => px
  | .or px _ => px
  | .xor px _ => px
  | .andn px _ => px
  | .tst px _ => px
  | .shl px _ => px
  | .shr px _ => px
  | .sar px _ => px
  | .rol px _ => px
  | .ror px _ => px
  | .mul px _ => px
  | .mulh px _ => px
  | .mulhn px _ => px
  | .min px _ => px
  | .max px _ => px
  | .minn px _ => px
  | .maxn px _ => px
  | .neg px _ => px
  | .not px _ => px
  | .clz px _ => px
  | .ctz px _ => px
  | .popc px _ => px
  | .brev px _ => px
  | .bswp px _ => px
  | .sext px _ => px
  | .zext px _ => px
  | .bfx px _ => px
  | .bfi px _ => px
  | .selz px _ => px
  | .selnz px _ => px
  | .mac px _ => px
  | .xchg px _ => px
  | .adds px _ => px
  | .subs px _ => px
  | .abs px _ => px
  | .fadd px _ _ => px
  | .fsub px _ _ => px
  | .fmul px _ _ => px
  | .ffma px _ _ => px
  | .fscl px _ _ => px
  | .frsub px _ _ => px
  | .fmin px _ _ => px
  | .fmax px _ _ => px
  | .fcmp px _ _ => px
  | .fabs px _ _ => px
  | .fneg px _ _ => px
  | .fclass px _ _ => px
  | .frint px _ _ => px
  | .fsgnj px _ _ => px
  | .fminn px _ _ => px
  | .fmaxn px _ _ => px
  | .cvt px _ _ _ => px
  | .ldi px _ => px
  | .addi px _ => px
  | .cmpi px _ => px
  | .andi px _ => px
  | .ori px _ => px
  | .xori px _ => px
  | .shli px _ => px
  | .shri px _ => px
  | .sari px _ => px
  | .muli px _ => px
  | .mfc px _ => px
  | .mtc px _ => px
  | .spres px _ => px
  | .sclr px _ => px
  | .pset px _ _ => px
  | .pget px _ _ => px
  | .padd px _ _ => px
  | .pstep px _ _ => px
  | .pmod px _ _ => px
  | .plea px _ _ => px
  | .pswp px _ _ => px
  | .pcmp px _ _ => px
  | .vfadd px _ _ _ _ => px
  | .vfsub px _ _ _ _ => px
  | .vfmul px _ _ _ _ => px
  | .vfma px _ _ _ _ => px
  | .vfscl px _ _ _ _ => px
  | .vfrsub px _ _ _ _ => px
  | .vfmin px _ _ _ _ => px
  | .vfmax px _ _ _ _ => px
  | .vfceq px _ _ _ _ => px
  | .vfclt px _ _ _ _ => px
  | .vfcle px _ _ _ _ => px
  | .vfabs px _ _ _ _ => px
  | .vfneg px _ _ _ _ => px
  | .vfminn px _ _ _ _ => px
  | .vfmaxn px _ _ _ _ => px
  | .vfreds px _ _ _ _ => px
  | .vld px _ _ _ => px
  | .vst px _ _ _ => px
  | .vbcstI64 px _ _ _ => px
  | .vbcstI32 px _ _ _ => px
  | .vbcstI16 px _ _ _ => px
  | .vbcstI8 px _ _ _ => px
  | .vmov px _ _ _ => px
  | .vshuf px _ _ _ => px
  | .vsel px _ _ _ => px
  | .viadd px _ _ _ _ => px
  | .visub px _ _ _ _ => px
  | .vimul px _ _ _ _ => px
  | .vimin px _ _ _ _ => px
  | .vimax px _ _ _ _ => px
  | .viminn px _ _ _ _ => px
  | .vimaxn px _ _ _ _ => px
  | .vand px _ _ _ _ => px
  | .vor px _ _ _ _ => px
  | .vxor px _ _ _ _ => px
  | .vshl px _ _ _ _ => px
  | .vshr px _ _ _ _ => px
  | .br px _ _ => px
  | .jmp px _ => px
  | .brl px _ => px
  | .chen px _ => px
  | .chdis px _ => px
  | .chpend px _ => px
  | .chclr px _ => px
  | .chpri px _ => px
  | .jmps px _ => px
  | .brls px _ => px
  | .kand px _ => px
  | .kor px _ => px
  | .kxor px _ => px
  | .knot px _ => px
  | .kmov px _ => px
  | .kany px _ => px
  | .kall px _ => px
  | .kpop px _ => px
  | .rep px _ => px
  | .cmask px _ => px
  | .cunmask px _ => px
  | .kseti px _ => px
  | .ldg px _ _ => px
  | .stg px _ _ => px
  | .vldg px _ _ => px
  | .vstg px _ _ => px
  | .ldx px _ _ => px
  | .stx px _ _ => px
  | .stn px _ _ => px
  | .pref px _ _ => px
  | .amoadd px _ _ => px
  | .amoand px _ _ => px
  | .amoor px _ _ => px
  | .amoxor px _ _ => px
  | .amomin px _ _ => px
  | .amomax px _ _ => px
  | .amominn px _ _ => px
  | .amomaxn px _ _ => px
  | .amoswp px _ _ => px
  | .amocas px _ _ => px
  | .amofadd px _ _ => px
  | .fence px _ _ => px
  | .xfence px _ _ => px
  | .tdecl px _ _ => px
  | .tund px _ _ => px
  | .tfwd px _ _ => px
  | .twb px _ _ => px
  | .tinv px _ _ => px
  | .clwb px _ _ => px
  | .clinv px _ _ => px
  | .clfl px _ _ => px
  | .sgo px _ _ => px
  | .sbuf px _ _ => px
  | .speek px _ _ => px
  | .sfree px _ _ => px
  | .scnt px _ _ => px
  | .cpgo px _ _ => px
  | .cpst px _ _ => px
  | .mxgo px _ _ => px
  | .mxrd px _ _ => px
  | .mxwr px _ _ => px
  | .mxst px _ _ => px
  | .mxcfg px _ _ => px
  | .mxmsk px _ _ => px
  | .mxabt px _ _ => px
  | .send px _ _ => px
  | .bcast px _ _ => px
  | .wrs px _ _ => px
  | .psend px _ _ => px
  | .launch px _ _ => px
  | .trig px _ _ => px
  | .bar px _ _ => px
  | .svc px _ _ => px
  | .hint px _ _ => px
  | .gred px _ _ => px
  | .vmaxx px _ _ => px
  | .tlbi px _ _ => px
  | .tlbsync px _ _ => px
  | .probe px _ _ => px
  | .pstop px _ _ => px
  | .pgo px _ _ => px
  | .cswap px _ _ => px
  | .scrub px _ _ => px
  | .exp2 px _ _ => px
  | .log2 px _ _ => px
  | .rcp px _ _ => px
  | .rsq px _ _ => px
  | .tanh px _ _ => px
  | .sinp px _ _ => px
  | .cosp px _ _ => px
  | .rcps px _ _ => px
  | .rsqs px _ _ => px
  | .vexp2 px _ _ => px
  | .vlog2 px _ _ => px
  | .vrcp px _ _ => px
  | .vrsq px _ _ => px
  | .vtanh px _ _ => px
  | .vcvt px _ _ => px
  | .vqnt px _ _ => px
  | .vdqnt px _ _ => px
  | .xadd px _ _ => px
  | .vxadd px _ _ => px
  | .xrnd px _ _ => px
  | .xmrg px _ _ => px
  | .xclr px _ _ => px
  | .fdiv px _ _ => px
  | .fsqrt px _ _ => px
  | .div px _ _ => px
  | .divn px _ _ => px
  | .rem px _ _ => px
  | .remn px _ _ => px
  | .vfdiv px _ _ => px
  | .vfsqrt px _ _ => px
  | .selection => []
  | .longResult _ => []
  | .instructionLimit _ => []
  | .faultMessageRetry _ => []
  | .migrationRetry _ _ => []
  | .regionReply _ => []
  | .frameReturn _ => []
  | .agentReply _ => []
  | .uncorrectableError _ => []
  | .patrolScrub => []
  | .fingerprintCompare _ _ _ => []
  | .messageArrival _ _ => []
  | .messageRetry _ _ => []
  | .messageAck _ => []
  | .wrsDeposit _ => []
  | .peerArrival _ _ _ _ => []
  | .psendAck _ => []
  | .launchStart _ => []
  | .initialMessagePlacement _ => []
  | .quiescenceSweep _ => []
  | .hostChannelWrite _ _ _ _ _ _ => []
  | .hostChannelDelivery _ _ _ => []
  | .mxgoStart _ => []
  | .gangFormation _ => []
  | .gangTimeout _ => []
  | .kStep _ => []
  | .mxstPerform _ => []
  | .mxwrPerform _ => []
  | .mxcfgPerform _ => []
  | .mxmskPerform _ => []
  | .mxCompletion _ => []
  | .gredStart _ => []
  | .gredCompletion _ => []
  | .gredTimeout _ => []
  | .vmaxxCompletion _ => []
  | .barrierCompletion _ => []
  | .barrierTimeout _ => []
  | .sbufPerform _ => []
  | .sgoStart _ => []
  | .streamSlot _ => []
  | .bulkCopyTake _ => []
  | .bulkCopyPiece _ _ _ _ => []
  | .readShared _ _ => []
  | .readForOwnership _ _ => []
  | .upgrade _ _ => []
  | .writeBack _ _ => []
  | .cleanEvictionNotice _ _ => []
  | .probeAnswer _ _ _ => []
  | .tileGranuleRequest _ _ _ => []
  | .lineGranuleWrite _ => []
  | .homeAtomic _ => []
  | .remoteWindowAccess _ => []
  | .l2Fill _ _ _ => []
  | .cxlMemRead _ _ _ => []
  | .cxlMemWrite _ _ _ => []
  | .birsp _ _ => []
  | .biconflict _ _ _ => []
  | .snpinv _ _ => []
  | .snpdata _ _ => []
  | .snpcur _ _ => []
  | .hostTimeout _ _ => []
  | .hostPostedWrite _ _ _ => []
  | .powerGate _ => []
  | .packetAdmission _ _ _ _ _ _ => []
  | .flitArrival _ _ _ _ _ => []
  | .resendRequest _ => []
  | .starvationMark _ => []
  | .damperWindow => []
  | .partialPacketTimeout _ _ => []
  | .ackTimeout _ => []
  | .sequenceGap _ _ => []
  | .retrain _ _ => []
  | .rclsWrite _ _ _ => []
  | .ptrootWrite _ _ => []
  | .migcfgWrite _ _ => []
  | .mgdAccess _ _ => []
  | .load _ => []
  | .registerWrite _ _ _ => []
  | .sensorSample _ _ _ => []
  | .valveAdjust _ _ => []
  | .flowLimitedLeave _ => []
  | .close _ => []
  | .purge _ => []
  | .verify _ => []
  | .verifyExpiry _ => []
  | .restoreComplete _ => []
  | .catWrite _ _ _ => []
  | .fncWrite _ _ => []
  | .msemRead _ => []
  | .msemRelease _ => []
  | .pmapWrite _ _ _ => []
  | .leaseWrite _ _ _ => []
  | .renew _ _ => []
  | .leaseTick => []
  | .leaseExpiry _ => []
  | .hostLinkDown _ _ => []
  | .flr _ _ => []
  | .partitionResetScrub _ => []
  | .dieReset _ => []
  | .drainack _ _ => []
  | .drainTimeout _ _ => []
  | .pwrOk _ => []
  | .sysResetN => []
  | .stageB1 _ _ _ => []
  | .bstatHold => []
  | .stageB2 _ _ => []
  | .coolantPriming _ => []
  | .stageB3 _ _ _ => []
  | .getVersion _ _ => []
  | .getCapabilities _ _ => []
  | .negotiateAlgorithms _ _ => []
  | .getDigests _ _ => []
  | .getCertificate _ _ => []
  | .challenge _ _ => []
  | .getMeasurements _ _ => []
  | .partitionHalt _ => []
  | .partitionResume _ => []
  | .scrubComplete _ => []
  | .spill _ => []
  | .fill _ => []
  | .vmaxxTimeout _ => []
  | .expanderBisnp _ => []
  | .peerAccess _ _ _ => []
  | .powerDown => []
  | .timeSlot _ _ => []
  | .ucieFlitArrival _ _ => []

/-- Whether a constructor is an event: a row of the table without an encoding. -/
def Instr.isEvent : Instr → Bool
  | .trap _ _ => false
  | .nop _ => false
  | .done _ => false
  | .commit _ => false
  | .yield _ => false
  | .ret _ => false
  | .eret _ => false
  | .lda _ _ => false
  | .sta _ _ => false
  | .add _ _ => false
  | .adc _ _ => false
  | .sub _ _ => false
  | .sbc _ _ => false
  | .rsb _ _ => false
  | .cmp _ _ => false
  | .and _ _ => false
  | .or _ _ => false
  | .xor _ _ => false
  | .andn _ _ => false
  | .tst _ _ => false
  | .shl _ _ => false
  | .shr _ _ => false
  | .sar _ _ => false
  | .rol _ _ => false
  | .ror _ _ => false
  | .mul _ _ => false
  | .mulh _ _ => false
  | .mulhn _ _ => false
  | .min _ _ => false
  | .max _ _ => false
  | .minn _ _ => false
  | .maxn _ _ => false
  | .neg _ _ => false
  | .not _ _ => false
  | .clz _ _ => false
  | .ctz _ _ => false
  | .popc _ _ => false
  | .brev _ _ => false
  | .bswp _ _ => false
  | .sext _ _ => false
  | .zext _ _ => false
  | .bfx _ _ => false
  | .bfi _ _ => false
  | .selz _ _ => false
  | .selnz _ _ => false
  | .mac _ _ => false
  | .xchg _ _ => false
  | .adds _ _ => false
  | .subs _ _ => false
  | .abs _ _ => false
  | .fadd _ _ _ => false
  | .fsub _ _ _ => false
  | .fmul _ _ _ => false
  | .ffma _ _ _ => false
  | .fscl _ _ _ => false
  | .frsub _ _ _ => false
  | .fmin _ _ _ => false
  | .fmax _ _ _ => false
  | .fcmp _ _ _ => false
  | .fabs _ _ _ => false
  | .fneg _ _ _ => false
  | .fclass _ _ _ => false
  | .frint _ _ _ => false
  | .fsgnj _ _ _ => false
  | .fminn _ _ _ => false
  | .fmaxn _ _ _ => false
  | .cvt _ _ _ _ => false
  | .ldi _ _ => false
  | .addi _ _ => false
  | .cmpi _ _ => false
  | .andi _ _ => false
  | .ori _ _ => false
  | .xori _ _ => false
  | .shli _ _ => false
  | .shri _ _ => false
  | .sari _ _ => false
  | .muli _ _ => false
  | .mfc _ _ => false
  | .mtc _ _ => false
  | .spres _ _ => false
  | .sclr _ _ => false
  | .pset _ _ _ => false
  | .pget _ _ _ => false
  | .padd _ _ _ => false
  | .pstep _ _ _ => false
  | .pmod _ _ _ => false
  | .plea _ _ _ => false
  | .pswp _ _ _ => false
  | .pcmp _ _ _ => false
  | .vfadd _ _ _ _ _ => false
  | .vfsub _ _ _ _ _ => false
  | .vfmul _ _ _ _ _ => false
  | .vfma _ _ _ _ _ => false
  | .vfscl _ _ _ _ _ => false
  | .vfrsub _ _ _ _ _ => false
  | .vfmin _ _ _ _ _ => false
  | .vfmax _ _ _ _ _ => false
  | .vfceq _ _ _ _ _ => false
  | .vfclt _ _ _ _ _ => false
  | .vfcle _ _ _ _ _ => false
  | .vfabs _ _ _ _ _ => false
  | .vfneg _ _ _ _ _ => false
  | .vfminn _ _ _ _ _ => false
  | .vfmaxn _ _ _ _ _ => false
  | .vfreds _ _ _ _ _ => false
  | .vld _ _ _ _ => false
  | .vst _ _ _ _ => false
  | .vbcstI64 _ _ _ _ => false
  | .vbcstI32 _ _ _ _ => false
  | .vbcstI16 _ _ _ _ => false
  | .vbcstI8 _ _ _ _ => false
  | .vmov _ _ _ _ => false
  | .vshuf _ _ _ _ => false
  | .vsel _ _ _ _ => false
  | .viadd _ _ _ _ _ => false
  | .visub _ _ _ _ _ => false
  | .vimul _ _ _ _ _ => false
  | .vimin _ _ _ _ _ => false
  | .vimax _ _ _ _ _ => false
  | .viminn _ _ _ _ _ => false
  | .vimaxn _ _ _ _ _ => false
  | .vand _ _ _ _ _ => false
  | .vor _ _ _ _ _ => false
  | .vxor _ _ _ _ _ => false
  | .vshl _ _ _ _ _ => false
  | .vshr _ _ _ _ _ => false
  | .br _ _ _ => false
  | .jmp _ _ => false
  | .brl _ _ => false
  | .chen _ _ => false
  | .chdis _ _ => false
  | .chpend _ _ => false
  | .chclr _ _ => false
  | .chpri _ _ => false
  | .jmps _ _ => false
  | .brls _ _ => false
  | .kand _ _ => false
  | .kor _ _ => false
  | .kxor _ _ => false
  | .knot _ _ => false
  | .kmov _ _ => false
  | .kany _ _ => false
  | .kall _ _ => false
  | .kpop _ _ => false
  | .rep _ _ => false
  | .cmask _ _ => false
  | .cunmask _ _ => false
  | .kseti _ _ => false
  | .ldg _ _ _ => false
  | .stg _ _ _ => false
  | .vldg _ _ _ => false
  | .vstg _ _ _ => false
  | .ldx _ _ _ => false
  | .stx _ _ _ => false
  | .stn _ _ _ => false
  | .pref _ _ _ => false
  | .amoadd _ _ _ => false
  | .amoand _ _ _ => false
  | .amoor _ _ _ => false
  | .amoxor _ _ _ => false
  | .amomin _ _ _ => false
  | .amomax _ _ _ => false
  | .amominn _ _ _ => false
  | .amomaxn _ _ _ => false
  | .amoswp _ _ _ => false
  | .amocas _ _ _ => false
  | .amofadd _ _ _ => false
  | .fence _ _ _ => false
  | .xfence _ _ _ => false
  | .tdecl _ _ _ => false
  | .tund _ _ _ => false
  | .tfwd _ _ _ => false
  | .twb _ _ _ => false
  | .tinv _ _ _ => false
  | .clwb _ _ _ => false
  | .clinv _ _ _ => false
  | .clfl _ _ _ => false
  | .sgo _ _ _ => false
  | .sbuf _ _ _ => false
  | .speek _ _ _ => false
  | .sfree _ _ _ => false
  | .scnt _ _ _ => false
  | .cpgo _ _ _ => false
  | .cpst _ _ _ => false
  | .mxgo _ _ _ => false
  | .mxrd _ _ _ => false
  | .mxwr _ _ _ => false
  | .mxst _ _ _ => false
  | .mxcfg _ _ _ => false
  | .mxmsk _ _ _ => false
  | .mxabt _ _ _ => false
  | .send _ _ _ => false
  | .bcast _ _ _ => false
  | .wrs _ _ _ => false
  | .psend _ _ _ => false
  | .launch _ _ _ => false
  | .trig _ _ _ => false
  | .bar _ _ _ => false
  | .svc _ _ _ => false
  | .hint _ _ _ => false
  | .gred _ _ _ => false
  | .vmaxx _ _ _ => false
  | .tlbi _ _ _ => false
  | .tlbsync _ _ _ => false
  | .probe _ _ _ => false
  | .pstop _ _ _ => false
  | .pgo _ _ _ => false
  | .cswap _ _ _ => false
  | .scrub _ _ _ => false
  | .exp2 _ _ _ => false
  | .log2 _ _ _ => false
  | .rcp _ _ _ => false
  | .rsq _ _ _ => false
  | .tanh _ _ _ => false
  | .sinp _ _ _ => false
  | .cosp _ _ _ => false
  | .rcps _ _ _ => false
  | .rsqs _ _ _ => false
  | .vexp2 _ _ _ => false
  | .vlog2 _ _ _ => false
  | .vrcp _ _ _ => false
  | .vrsq _ _ _ => false
  | .vtanh _ _ _ => false
  | .vcvt _ _ _ => false
  | .vqnt _ _ _ => false
  | .vdqnt _ _ _ => false
  | .xadd _ _ _ => false
  | .vxadd _ _ _ => false
  | .xrnd _ _ _ => false
  | .xmrg _ _ _ => false
  | .xclr _ _ _ => false
  | .fdiv _ _ _ => false
  | .fsqrt _ _ _ => false
  | .div _ _ _ => false
  | .divn _ _ _ => false
  | .rem _ _ _ => false
  | .remn _ _ _ => false
  | .vfdiv _ _ _ => false
  | .vfsqrt _ _ _ => false
  | .selection => true
  | .longResult _ => true
  | .instructionLimit _ => true
  | .faultMessageRetry _ => true
  | .migrationRetry _ _ => true
  | .regionReply _ => true
  | .frameReturn _ => true
  | .agentReply _ => true
  | .uncorrectableError _ => true
  | .patrolScrub => true
  | .fingerprintCompare _ _ _ => true
  | .messageArrival _ _ => true
  | .messageRetry _ _ => true
  | .messageAck _ => true
  | .wrsDeposit _ => true
  | .peerArrival _ _ _ _ => true
  | .psendAck _ => true
  | .launchStart _ => true
  | .initialMessagePlacement _ => true
  | .quiescenceSweep _ => true
  | .hostChannelWrite _ _ _ _ _ _ => true
  | .hostChannelDelivery _ _ _ => true
  | .mxgoStart _ => true
  | .gangFormation _ => true
  | .gangTimeout _ => true
  | .kStep _ => true
  | .mxstPerform _ => true
  | .mxwrPerform _ => true
  | .mxcfgPerform _ => true
  | .mxmskPerform _ => true
  | .mxCompletion _ => true
  | .gredStart _ => true
  | .gredCompletion _ => true
  | .gredTimeout _ => true
  | .vmaxxCompletion _ => true
  | .barrierCompletion _ => true
  | .barrierTimeout _ => true
  | .sbufPerform _ => true
  | .sgoStart _ => true
  | .streamSlot _ => true
  | .bulkCopyTake _ => true
  | .bulkCopyPiece _ _ _ _ => true
  | .readShared _ _ => true
  | .readForOwnership _ _ => true
  | .upgrade _ _ => true
  | .writeBack _ _ => true
  | .cleanEvictionNotice _ _ => true
  | .probeAnswer _ _ _ => true
  | .tileGranuleRequest _ _ _ => true
  | .lineGranuleWrite _ => true
  | .homeAtomic _ => true
  | .remoteWindowAccess _ => true
  | .l2Fill _ _ _ => true
  | .cxlMemRead _ _ _ => true
  | .cxlMemWrite _ _ _ => true
  | .birsp _ _ => true
  | .biconflict _ _ _ => true
  | .snpinv _ _ => true
  | .snpdata _ _ => true
  | .snpcur _ _ => true
  | .hostTimeout _ _ => true
  | .hostPostedWrite _ _ _ => true
  | .powerGate _ => true
  | .packetAdmission _ _ _ _ _ _ => true
  | .flitArrival _ _ _ _ _ => true
  | .resendRequest _ => true
  | .starvationMark _ => true
  | .damperWindow => true
  | .partialPacketTimeout _ _ => true
  | .ackTimeout _ => true
  | .sequenceGap _ _ => true
  | .retrain _ _ => true
  | .rclsWrite _ _ _ => true
  | .ptrootWrite _ _ => true
  | .migcfgWrite _ _ => true
  | .mgdAccess _ _ => true
  | .load _ => true
  | .registerWrite _ _ _ => true
  | .sensorSample _ _ _ => true
  | .valveAdjust _ _ => true
  | .flowLimitedLeave _ => true
  | .close _ => true
  | .purge _ => true
  | .verify _ => true
  | .verifyExpiry _ => true
  | .restoreComplete _ => true
  | .catWrite _ _ _ => true
  | .fncWrite _ _ => true
  | .msemRead _ => true
  | .msemRelease _ => true
  | .pmapWrite _ _ _ => true
  | .leaseWrite _ _ _ => true
  | .renew _ _ => true
  | .leaseTick => true
  | .leaseExpiry _ => true
  | .hostLinkDown _ _ => true
  | .flr _ _ => true
  | .partitionResetScrub _ => true
  | .dieReset _ => true
  | .drainack _ _ => true
  | .drainTimeout _ _ => true
  | .pwrOk _ => true
  | .sysResetN => true
  | .stageB1 _ _ _ => true
  | .bstatHold => true
  | .stageB2 _ _ => true
  | .coolantPriming _ => true
  | .stageB3 _ _ _ => true
  | .getVersion _ _ => true
  | .getCapabilities _ _ => true
  | .negotiateAlgorithms _ _ => true
  | .getDigests _ _ => true
  | .getCertificate _ _ => true
  | .challenge _ _ => true
  | .getMeasurements _ _ => true
  | .partitionHalt _ => true
  | .partitionResume _ => true
  | .scrubComplete _ => true
  | .spill _ => true
  | .fill _ => true
  | .vmaxxTimeout _ => true
  | .expanderBisnp _ => true
  | .peerAccess _ _ _ => true
  | .powerDown => true
  | .timeSlot _ _ => true
  | .ucieFlitArrival _ _ => true

/-- The field conditions that the opcode map puts on an encoding itself (R63, R66). -/
def Instr.fieldsOk : Instr → Bool
  | .trap _ n => n != 0#8
  | .cvt _ _ d c => d != c
  | _ => true

/-- The well-formedness check: what the encoder can write and the decoder reads back. -/
def Instr.wf (i : Instr) : Bool := decide (i.prefixes.length ≤ 4) && i.fieldsOk

end Sys2Proof
end

