-- ==== Sys2Proof/Decode.lean ====
section
/-! DEFINITION. The encoding of chapter 02 (R29 to R72): instruction words to `Instr`, rejecting by name, and the
encoder back. Decoding is free of context: it answers the first five rows of R43's order that depend on the words
alone; the reserved field values of rows 6 to 13 are kept in the instruction and judged in Machine/DecodeFaults.lean. -/

namespace Sys2Proof

/-- Why a word sequence is no instruction: the conditions 1 to 5 of R43 that the words alone decide. -/
inductive DecodeError where
  /-- The words end before the instruction does (R42, R43 order 1). -/
  | truncated
  /-- The base word is 0x0000 (R43 order 2). -/
  | zero
  /-- A fifth prefix word (R43 order 3). -/
  | fifthPrefix (w : Half)
  /-- A word of prefix kind 0b11 (R43 order 4). -/
  | prefixKind (w : Half)
  /-- An unassigned encoding (R41, R43 order 5). -/
  | unassigned (base : Half)
deriving DecidableEq, Repr

/-! ### Words of each format (R30, R31, R35) -/

/-- The word of a prefix (R35 to R38). -/
def Prefix.word : Prefix → Half
  | .immx v => (0xF#4 ++ 0#2) ++ v
  | .dst s w => ((0xF#4 ++ 1#2) ++ s) ++ w
  | .page v => (0xF#4 ++ 2#2) ++ v

/-- The prefix a word is, if it is one (R35: the words 0xF000 to 0xFBFF). -/
def Prefix.ofWord (w : Half) : Option Prefix :=
  if w.extractLsb' 12 4 = 0xF#4 then
    if w.extractLsb' 10 2 = 0#2 then some (.immx (w.extractLsb' 0 10))
    else if w.extractLsb' 10 2 = 1#2 then some (.dst (w.extractLsb' 4 6) (w.extractLsb' 0 4))
    else if w.extractLsb' 10 2 = 2#2 then some (.page (w.extractLsb' 0 10))
    else none
  else none

/-- Format A (R30). -/
def wordA (maj : BitVec 4) (s fn : BitVec 6) : Half := (maj ++ s) ++ fn
/-- Formats I, C and K (R30). -/
def wordI (maj op : BitVec 4) (imm : BitVec 8) : Half := (maj ++ op) ++ imm
/-- Format P (R30). -/
def wordP (pr op : BitVec 3) (imm : BitVec 6) : Half := ((0x5#4 ++ pr) ++ op) ++ imm
/-- Format V (R30). -/
def wordV (maj : BitVec 4) (va : BitVec 2) (pp : BitVec 3) (m : Bool) (fn : BitVec 6) : Half :=
  (((maj ++ va) ++ pp) ++ BitVec.ofBool m) ++ fn
/-- Format B (R30, R295). -/
def wordB (cc : BitVec 3) (off : BitVec 9) : Half := (0x8#4 ++ cc) ++ off
/-- Format J (R30, R297). -/
def wordJ (op : BitVec 1) (off : BitVec 11) : Half := (0x9#4 ++ op) ++ off
/-- Format L, word 0 (R30). -/
def wordL (maj : BitVec 4) (op s : BitVec 6) : Half := (maj ++ op) ++ s
/-- Format L, the second word (R31). -/
def W1.word (x : W1) : Half := ((x.la ++ x.sc) ++ x.od) ++ x.aux
/-- The fields of a second word (R31). -/
def W1.ofWord (w : Half) : W1 :=
  ⟨w.extractLsb' 12 4, w.extractLsb' 9 3, w.extractLsb' 6 3, w.extractLsb' 0 6⟩

/-! ### The encoder -/

/-- The words of an encoded instruction: prefixes, base word, second word. -/
structure Parts where
  px : List Prefix
  base : Half
  second : Option W1
deriving DecidableEq, Repr

/-- The parts of an instruction (R63 to R72); none for an event, which has no encoding. -/
def Instr.parts : Instr → Option Parts
  | .trap px n => some ⟨px, 0#8 ++ n, none⟩
  | .nop px => some ⟨px, 0x0100#16, none⟩
  | .done px => some ⟨px, 0x0101#16, none⟩
  | .commit px => some ⟨px, 0x0102#16, none⟩
  | .yield px => some ⟨px, 0x0103#16, none⟩
  | .ret px => some ⟨px, 0x0104#16, none⟩
  | .eret px => some ⟨px, 0x0105#16, none⟩
  | .lda px s => some ⟨px, wordA 1 s 0, none⟩
  | .sta px s => some ⟨px, wordA 1 s 1, none⟩
  | .add px s => some ⟨px, wordA 1 s 2, none⟩
  | .adc px s => some ⟨px, wordA 1 s 3, none⟩
  | .sub px s => some ⟨px, wordA 1 s 4, none⟩
  | .sbc px s => some ⟨px, wordA 1 s 5, none⟩
  | .rsb px s => some ⟨px, wordA 1 s 6, none⟩
  | .cmp px s => some ⟨px, wordA 1 s 7, none⟩
  | .and px s => some ⟨px, wordA 1 s 8, none⟩
  | .or px s => some ⟨px, wordA 1 s 9, none⟩
  | .xor px s => some ⟨px, wordA 1 s 10, none⟩
  | .andn px s => some ⟨px, wordA 1 s 11, none⟩
  | .tst px s => some ⟨px, wordA 1 s 12, none⟩
  | .shl px s => some ⟨px, wordA 1 s 13, none⟩
  | .shr px s => some ⟨px, wordA 1 s 14, none⟩
  | .sar px s => some ⟨px, wordA 1 s 15, none⟩
  | .rol px s => some ⟨px, wordA 1 s 16, none⟩
  | .ror px s => some ⟨px, wordA 1 s 17, none⟩
  | .mul px s => some ⟨px, wordA 1 s 18, none⟩
  | .mulh px s => some ⟨px, wordA 1 s 19, none⟩
  | .mulhn px s => some ⟨px, wordA 1 s 20, none⟩
  | .min px s => some ⟨px, wordA 1 s 25, none⟩
  | .max px s => some ⟨px, wordA 1 s 26, none⟩
  | .minn px s => some ⟨px, wordA 1 s 27, none⟩
  | .maxn px s => some ⟨px, wordA 1 s 28, none⟩
  | .neg px s => some ⟨px, wordA 1 s 29, none⟩
  | .not px s => some ⟨px, wordA 1 s 30, none⟩
  | .clz px s => some ⟨px, wordA 1 s 31, none⟩
  | .ctz px s => some ⟨px, wordA 1 s 32, none⟩
  | .popc px s => some ⟨px, wordA 1 s 33, none⟩
  | .brev px s => some ⟨px, wordA 1 s 34, none⟩
  | .bswp px s => some ⟨px, wordA 1 s 35, none⟩
  | .sext px s => some ⟨px, wordA 1 s 36, none⟩
  | .zext px s => some ⟨px, wordA 1 s 37, none⟩
  | .bfx px s => some ⟨px, wordA 1 s 38, none⟩
  | .bfi px s => some ⟨px, wordA 1 s 39, none⟩
  | .selz px s => some ⟨px, wordA 1 s 40, none⟩
  | .selnz px s => some ⟨px, wordA 1 s 41, none⟩
  | .mac px s => some ⟨px, wordA 1 s 42, none⟩
  | .xchg px s => some ⟨px, wordA 1 s 43, none⟩
  | .adds px s => some ⟨px, wordA 1 s 44, none⟩
  | .subs px s => some ⟨px, wordA 1 s 45, none⟩
  | .abs px s => some ⟨px, wordA 1 s 46, none⟩
  | .fadd px s t => some ⟨px, wordA 2 s (0#4 ++ t), none⟩
  | .fsub px s t => some ⟨px, wordA 2 s (1#4 ++ t), none⟩
  | .fmul px s t => some ⟨px, wordA 2 s (2#4 ++ t), none⟩
  | .ffma px s t => some ⟨px, wordA 2 s (3#4 ++ t), none⟩
  | .fscl px s t => some ⟨px, wordA 2 s (4#4 ++ t), none⟩
  | .frsub px s t => some ⟨px, wordA 2 s (5#4 ++ t), none⟩
  | .fmin px s t => some ⟨px, wordA 2 s (6#4 ++ t), none⟩
  | .fmax px s t => some ⟨px, wordA 2 s (7#4 ++ t), none⟩
  | .fcmp px s t => some ⟨px, wordA 2 s (8#4 ++ t), none⟩
  | .fabs px s t => some ⟨px, wordA 2 s (9#4 ++ t), none⟩
  | .fneg px s t => some ⟨px, wordA 2 s (10#4 ++ t), none⟩
  | .fclass px s t => some ⟨px, wordA 2 s (11#4 ++ t), none⟩
  | .frint px s t => some ⟨px, wordA 2 s (12#4 ++ t), none⟩
  | .fsgnj px s t => some ⟨px, wordA 2 s (13#4 ++ t), none⟩
  | .fminn px s t => some ⟨px, wordA 2 s (14#4 ++ t), none⟩
  | .fmaxn px s t => some ⟨px, wordA 2 s (15#4 ++ t), none⟩
  | .cvt px s d c => some ⟨px, wordA 3 s (d ++ c), none⟩
  | .ldi px imm => some ⟨px, wordI 4 0 imm, none⟩
  | .addi px imm => some ⟨px, wordI 4 1 imm, none⟩
  | .cmpi px imm => some ⟨px, wordI 4 2 imm, none⟩
  | .andi px imm => some ⟨px, wordI 4 3 imm, none⟩
  | .ori px imm => some ⟨px, wordI 4 4 imm, none⟩
  | .xori px imm => some ⟨px, wordI 4 5 imm, none⟩
  | .shli px imm => some ⟨px, wordI 4 6 imm, none⟩
  | .shri px imm => some ⟨px, wordI 4 7 imm, none⟩
  | .sari px imm => some ⟨px, wordI 4 8 imm, none⟩
  | .muli px imm => some ⟨px, wordI 4 9 imm, none⟩
  | .mfc px imm => some ⟨px, wordI 4 10 imm, none⟩
  | .mtc px imm => some ⟨px, wordI 4 11 imm, none⟩
  | .spres px imm => some ⟨px, wordI 4 12 imm, none⟩
  | .sclr px imm => some ⟨px, wordI 4 13 imm, none⟩
  | .pset px pr imm => some ⟨px, wordP pr 0 imm, none⟩
  | .pget px pr imm => some ⟨px, wordP pr 1 imm, none⟩
  | .padd px pr imm => some ⟨px, wordP pr 2 imm, none⟩
  | .pstep px pr imm => some ⟨px, wordP pr 3 imm, none⟩
  | .pmod px pr imm => some ⟨px, wordP pr 4 imm, none⟩
  | .plea px pr imm => some ⟨px, wordP pr 5 imm, none⟩
  | .pswp px pr imm => some ⟨px, wordP pr 6 imm, none⟩
  | .pcmp px pr imm => some ⟨px, wordP pr 7 imm, none⟩
  | .vfadd px va pp m t => some ⟨px, wordV 6 va pp m (0#4 ++ t), none⟩
  | .vfsub px va pp m t => some ⟨px, wordV 6 va pp m (1#4 ++ t), none⟩
  | .vfmul px va pp m t => some ⟨px, wordV 6 va pp m (2#4 ++ t), none⟩
  | .vfma px va pp m t => some ⟨px, wordV 6 va pp m (3#4 ++ t), none⟩
  | .vfscl px va pp m t => some ⟨px, wordV 6 va pp m (4#4 ++ t), none⟩
  | .vfrsub px va pp m t => some ⟨px, wordV 6 va pp m (5#4 ++ t), none⟩
  | .vfmin px va pp m t => some ⟨px, wordV 6 va pp m (6#4 ++ t), none⟩
  | .vfmax px va pp m t => some ⟨px, wordV 6 va pp m (7#4 ++ t), none⟩
  | .vfceq px va pp m t => some ⟨px, wordV 6 va pp m (8#4 ++ t), none⟩
  | .vfclt px va pp m t => some ⟨px, wordV 6 va pp m (9#4 ++ t), none⟩
  | .vfcle px va pp m t => some ⟨px, wordV 6 va pp m (10#4 ++ t), none⟩
  | .vfabs px va pp m t => some ⟨px, wordV 6 va pp m (11#4 ++ t), none⟩
  | .vfneg px va pp m t => some ⟨px, wordV 6 va pp m (12#4 ++ t), none⟩
  | .vfminn px va pp m t => some ⟨px, wordV 6 va pp m (13#4 ++ t), none⟩
  | .vfmaxn px va pp m t => some ⟨px, wordV 6 va pp m (14#4 ++ t), none⟩
  | .vfreds px va pp m t => some ⟨px, wordV 6 va pp m (15#4 ++ t), none⟩
  | .vld px va pp m => some ⟨px, wordV 7 va pp m 0, none⟩
  | .vst px va pp m => some ⟨px, wordV 7 va pp m 1, none⟩
  | .vbcstI64 px va pp m => some ⟨px, wordV 7 va pp m 2, none⟩
  | .vbcstI32 px va pp m => some ⟨px, wordV 7 va pp m 3, none⟩
  | .vbcstI16 px va pp m => some ⟨px, wordV 7 va pp m 4, none⟩
  | .vbcstI8 px va pp m => some ⟨px, wordV 7 va pp m 5, none⟩
  | .vmov px va pp m => some ⟨px, wordV 7 va pp m 6, none⟩
  | .vshuf px va pp m => some ⟨px, wordV 7 va pp m 7, none⟩
  | .vsel px va pp m => some ⟨px, wordV 7 va pp m 8, none⟩
  | .viadd px va pp m t => some ⟨px, wordV 7 va pp m (4#4 ++ t), none⟩
  | .visub px va pp m t => some ⟨px, wordV 7 va pp m (5#4 ++ t), none⟩
  | .vimul px va pp m t => some ⟨px, wordV 7 va pp m (6#4 ++ t), none⟩
  | .vimin px va pp m t => some ⟨px, wordV 7 va pp m (7#4 ++ t), none⟩
  | .vimax px va pp m t => some ⟨px, wordV 7 va pp m (8#4 ++ t), none⟩
  | .viminn px va pp m t => some ⟨px, wordV 7 va pp m (9#4 ++ t), none⟩
  | .vimaxn px va pp m t => some ⟨px, wordV 7 va pp m (10#4 ++ t), none⟩
  | .vand px va pp m t => some ⟨px, wordV 7 va pp m (11#4 ++ t), none⟩
  | .vor px va pp m t => some ⟨px, wordV 7 va pp m (12#4 ++ t), none⟩
  | .vxor px va pp m t => some ⟨px, wordV 7 va pp m (13#4 ++ t), none⟩
  | .vshl px va pp m t => some ⟨px, wordV 7 va pp m (14#4 ++ t), none⟩
  | .vshr px va pp m t => some ⟨px, wordV 7 va pp m (15#4 ++ t), none⟩
  | .br px cc off => some ⟨px, wordB cc off, none⟩
  | .jmp px off => some ⟨px, wordJ 0 off, none⟩
  | .brl px off => some ⟨px, wordJ 1 off, none⟩
  | .chen px arg => some ⟨px, wordI 0xA 0 arg, none⟩
  | .chdis px arg => some ⟨px, wordI 0xA 1 arg, none⟩
  | .chpend px arg => some ⟨px, wordI 0xA 2 arg, none⟩
  | .chclr px arg => some ⟨px, wordI 0xA 3 arg, none⟩
  | .chpri px arg => some ⟨px, wordI 0xA 4 arg, none⟩
  | .jmps px arg => some ⟨px, wordI 0xA 5 arg, none⟩
  | .brls px arg => some ⟨px, wordI 0xA 6 arg, none⟩
  | .kand px arg => some ⟨px, wordI 0xB 0 arg, none⟩
  | .kor px arg => some ⟨px, wordI 0xB 1 arg, none⟩
  | .kxor px arg => some ⟨px, wordI 0xB 2 arg, none⟩
  | .knot px arg => some ⟨px, wordI 0xB 3 arg, none⟩
  | .kmov px arg => some ⟨px, wordI 0xB 4 arg, none⟩
  | .kany px arg => some ⟨px, wordI 0xB 5 arg, none⟩
  | .kall px arg => some ⟨px, wordI 0xB 6 arg, none⟩
  | .kpop px arg => some ⟨px, wordI 0xB 7 arg, none⟩
  | .rep px arg => some ⟨px, wordI 0xB 8 arg, none⟩
  | .cmask px arg => some ⟨px, wordI 0xB 9 arg, none⟩
  | .cunmask px arg => some ⟨px, wordI 0xB 10 arg, none⟩
  | .kseti px arg => some ⟨px, wordI 0xB 11 arg, none⟩
  | .ldg px s w1 => some ⟨px, wordL 0xC 0 s, some w1⟩
  | .stg px s w1 => some ⟨px, wordL 0xC 1 s, some w1⟩
  | .vldg px s w1 => some ⟨px, wordL 0xC 2 s, some w1⟩
  | .vstg px s w1 => some ⟨px, wordL 0xC 3 s, some w1⟩
  | .ldx px s w1 => some ⟨px, wordL 0xC 4 s, some w1⟩
  | .stx px s w1 => some ⟨px, wordL 0xC 5 s, some w1⟩
  | .stn px s w1 => some ⟨px, wordL 0xC 6 s, some w1⟩
  | .pref px s w1 => some ⟨px, wordL 0xC 7 s, some w1⟩
  | .amoadd px s w1 => some ⟨px, wordL 0xC 8 s, some w1⟩
  | .amoand px s w1 => some ⟨px, wordL 0xC 9 s, some w1⟩
  | .amoor px s w1 => some ⟨px, wordL 0xC 10 s, some w1⟩
  | .amoxor px s w1 => some ⟨px, wordL 0xC 11 s, some w1⟩
  | .amomin px s w1 => some ⟨px, wordL 0xC 12 s, some w1⟩
  | .amomax px s w1 => some ⟨px, wordL 0xC 13 s, some w1⟩
  | .amominn px s w1 => some ⟨px, wordL 0xC 14 s, some w1⟩
  | .amomaxn px s w1 => some ⟨px, wordL 0xC 15 s, some w1⟩
  | .amoswp px s w1 => some ⟨px, wordL 0xC 16 s, some w1⟩
  | .amocas px s w1 => some ⟨px, wordL 0xC 17 s, some w1⟩
  | .amofadd px s w1 => some ⟨px, wordL 0xC 18 s, some w1⟩
  | .fence px s w1 => some ⟨px, wordL 0xC 20 s, some w1⟩
  | .xfence px s w1 => some ⟨px, wordL 0xC 21 s, some w1⟩
  | .tdecl px s w1 => some ⟨px, wordL 0xC 22 s, some w1⟩
  | .tund px s w1 => some ⟨px, wordL 0xC 23 s, some w1⟩
  | .tfwd px s w1 => some ⟨px, wordL 0xC 24 s, some w1⟩
  | .twb px s w1 => some ⟨px, wordL 0xC 25 s, some w1⟩
  | .tinv px s w1 => some ⟨px, wordL 0xC 26 s, some w1⟩
  | .clwb px s w1 => some ⟨px, wordL 0xC 27 s, some w1⟩
  | .clinv px s w1 => some ⟨px, wordL 0xC 28 s, some w1⟩
  | .clfl px s w1 => some ⟨px, wordL 0xC 29 s, some w1⟩
  | .sgo px s w1 => some ⟨px, wordL 0xC 30 s, some w1⟩
  | .sbuf px s w1 => some ⟨px, wordL 0xC 31 s, some w1⟩
  | .speek px s w1 => some ⟨px, wordL 0xC 32 s, some w1⟩
  | .sfree px s w1 => some ⟨px, wordL 0xC 33 s, some w1⟩
  | .scnt px s w1 => some ⟨px, wordL 0xC 34 s, some w1⟩
  | .cpgo px s w1 => some ⟨px, wordL 0xC 35 s, some w1⟩
  | .cpst px s w1 => some ⟨px, wordL 0xC 36 s, some w1⟩
  | .mxgo px s w1 => some ⟨px, wordL 0xD 0 s, some w1⟩
  | .mxrd px s w1 => some ⟨px, wordL 0xD 1 s, some w1⟩
  | .mxwr px s w1 => some ⟨px, wordL 0xD 2 s, some w1⟩
  | .mxst px s w1 => some ⟨px, wordL 0xD 3 s, some w1⟩
  | .mxcfg px s w1 => some ⟨px, wordL 0xD 4 s, some w1⟩
  | .mxmsk px s w1 => some ⟨px, wordL 0xD 5 s, some w1⟩
  | .mxabt px s w1 => some ⟨px, wordL 0xD 6 s, some w1⟩
  | .send px s w1 => some ⟨px, wordL 0xD 8 s, some w1⟩
  | .bcast px s w1 => some ⟨px, wordL 0xD 9 s, some w1⟩
  | .wrs px s w1 => some ⟨px, wordL 0xD 10 s, some w1⟩
  | .psend px s w1 => some ⟨px, wordL 0xD 11 s, some w1⟩
  | .launch px s w1 => some ⟨px, wordL 0xD 12 s, some w1⟩
  | .trig px s w1 => some ⟨px, wordL 0xD 13 s, some w1⟩
  | .bar px s w1 => some ⟨px, wordL 0xD 14 s, some w1⟩
  | .svc px s w1 => some ⟨px, wordL 0xD 15 s, some w1⟩
  | .hint px s w1 => some ⟨px, wordL 0xD 16 s, some w1⟩
  | .gred px s w1 => some ⟨px, wordL 0xD 17 s, some w1⟩
  | .vmaxx px s w1 => some ⟨px, wordL 0xD 18 s, some w1⟩
  | .tlbi px s w1 => some ⟨px, wordL 0xD 32 s, some w1⟩
  | .tlbsync px s w1 => some ⟨px, wordL 0xD 33 s, some w1⟩
  | .probe px s w1 => some ⟨px, wordL 0xD 34 s, some w1⟩
  | .pstop px s w1 => some ⟨px, wordL 0xD 35 s, some w1⟩
  | .pgo px s w1 => some ⟨px, wordL 0xD 36 s, some w1⟩
  | .cswap px s w1 => some ⟨px, wordL 0xD 37 s, some w1⟩
  | .scrub px s w1 => some ⟨px, wordL 0xD 38 s, some w1⟩
  | .exp2 px s w1 => some ⟨px, wordL 0xE 0 s, some w1⟩
  | .log2 px s w1 => some ⟨px, wordL 0xE 1 s, some w1⟩
  | .rcp px s w1 => some ⟨px, wordL 0xE 2 s, some w1⟩
  | .rsq px s w1 => some ⟨px, wordL 0xE 3 s, some w1⟩
  | .tanh px s w1 => some ⟨px, wordL 0xE 4 s, some w1⟩
  | .sinp px s w1 => some ⟨px, wordL 0xE 5 s, some w1⟩
  | .cosp px s w1 => some ⟨px, wordL 0xE 6 s, some w1⟩
  | .rcps px s w1 => some ⟨px, wordL 0xE 7 s, some w1⟩
  | .rsqs px s w1 => some ⟨px, wordL 0xE 8 s, some w1⟩
  | .vexp2 px s w1 => some ⟨px, wordL 0xE 9 s, some w1⟩
  | .vlog2 px s w1 => some ⟨px, wordL 0xE 10 s, some w1⟩
  | .vrcp px s w1 => some ⟨px, wordL 0xE 11 s, some w1⟩
  | .vrsq px s w1 => some ⟨px, wordL 0xE 12 s, some w1⟩
  | .vtanh px s w1 => some ⟨px, wordL 0xE 13 s, some w1⟩
  | .vcvt px s w1 => some ⟨px, wordL 0xE 14 s, some w1⟩
  | .vqnt px s w1 => some ⟨px, wordL 0xE 15 s, some w1⟩
  | .vdqnt px s w1 => some ⟨px, wordL 0xE 16 s, some w1⟩
  | .xadd px s w1 => some ⟨px, wordL 0xE 17 s, some w1⟩
  | .vxadd px s w1 => some ⟨px, wordL 0xE 18 s, some w1⟩
  | .xrnd px s w1 => some ⟨px, wordL 0xE 19 s, some w1⟩
  | .xmrg px s w1 => some ⟨px, wordL 0xE 20 s, some w1⟩
  | .xclr px s w1 => some ⟨px, wordL 0xE 21 s, some w1⟩
  | .fdiv px s w1 => some ⟨px, wordL 0xE 22 s, some w1⟩
  | .fsqrt px s w1 => some ⟨px, wordL 0xE 23 s, some w1⟩
  | .div px s w1 => some ⟨px, wordL 0xE 24 s, some w1⟩
  | .divn px s w1 => some ⟨px, wordL 0xE 25 s, some w1⟩
  | .rem px s w1 => some ⟨px, wordL 0xE 26 s, some w1⟩
  | .remn px s w1 => some ⟨px, wordL 0xE 27 s, some w1⟩
  | .vfdiv px s w1 => some ⟨px, wordL 0xE 28 s, some w1⟩
  | .vfsqrt px s w1 => some ⟨px, wordL 0xE 29 s, some w1⟩
  | .selection => none
  | .longResult _ => none
  | .instructionLimit _ => none
  | .faultMessageRetry _ => none
  | .migrationRetry _ _ => none
  | .regionReply _ => none
  | .frameReturn _ => none
  | .agentReply _ => none
  | .uncorrectableError _ => none
  | .patrolScrub => none
  | .fingerprintCompare _ _ _ => none
  | .messageArrival _ _ => none
  | .messageRetry _ _ => none
  | .messageAck _ => none
  | .wrsDeposit _ => none
  | .peerArrival _ _ _ _ => none
  | .psendAck _ => none
  | .launchStart _ => none
  | .initialMessagePlacement _ => none
  | .quiescenceSweep _ => none
  | .hostChannelWrite _ _ _ _ _ _ => none
  | .hostChannelDelivery _ _ _ => none
  | .mxgoStart _ => none
  | .gangFormation _ => none
  | .gangTimeout _ => none
  | .kStep _ => none
  | .mxstPerform _ => none
  | .mxwrPerform _ => none
  | .mxcfgPerform _ => none
  | .mxmskPerform _ => none
  | .mxCompletion _ => none
  | .gredStart _ => none
  | .gredCompletion _ => none
  | .gredTimeout _ => none
  | .vmaxxCompletion _ => none
  | .barrierCompletion _ => none
  | .barrierTimeout _ => none
  | .sbufPerform _ => none
  | .sgoStart _ => none
  | .streamSlot _ => none
  | .bulkCopyTake _ => none
  | .bulkCopyPiece _ _ _ _ => none
  | .readShared _ _ => none
  | .readForOwnership _ _ => none
  | .upgrade _ _ => none
  | .writeBack _ _ => none
  | .cleanEvictionNotice _ _ => none
  | .probeAnswer _ _ _ => none
  | .tileGranuleRequest _ _ _ => none
  | .lineGranuleWrite _ => none
  | .homeAtomic _ => none
  | .remoteWindowAccess _ => none
  | .l2Fill _ _ _ => none
  | .cxlMemRead _ _ _ => none
  | .cxlMemWrite _ _ _ => none
  | .birsp _ _ => none
  | .biconflict _ _ _ => none
  | .snpinv _ _ => none
  | .snpdata _ _ => none
  | .snpcur _ _ => none
  | .hostTimeout _ _ => none
  | .hostPostedWrite _ _ _ => none
  | .powerGate _ => none
  | .packetAdmission _ _ _ _ _ _ => none
  | .flitArrival _ _ _ _ _ => none
  | .resendRequest _ => none
  | .starvationMark _ => none
  | .damperWindow => none
  | .partialPacketTimeout _ _ => none
  | .ackTimeout _ => none
  | .sequenceGap _ _ => none
  | .retrain _ _ => none
  | .rclsWrite _ _ _ => none
  | .ptrootWrite _ _ => none
  | .migcfgWrite _ _ => none
  | .mgdAccess _ _ => none
  | .load _ => none
  | .registerWrite _ _ _ => none
  | .sensorSample _ _ _ => none
  | .valveAdjust _ _ => none
  | .flowLimitedLeave _ => none
  | .close _ => none
  | .purge _ => none
  | .verify _ => none
  | .verifyExpiry _ => none
  | .restoreComplete _ => none
  | .catWrite _ _ _ => none
  | .fncWrite _ _ => none
  | .msemRead _ => none
  | .msemRelease _ => none
  | .pmapWrite _ _ _ => none
  | .leaseWrite _ _ _ => none
  | .renew _ _ => none
  | .leaseTick => none
  | .leaseExpiry _ => none
  | .hostLinkDown _ _ => none
  | .flr _ _ => none
  | .partitionResetScrub _ => none
  | .dieReset _ => none
  | .drainack _ _ => none
  | .drainTimeout _ _ => none
  | .pwrOk _ => none
  | .sysResetN => none
  | .stageB1 _ _ _ => none
  | .bstatHold => none
  | .stageB2 _ _ => none
  | .coolantPriming _ => none
  | .stageB3 _ _ _ => none
  | .getVersion _ _ => none
  | .getCapabilities _ _ => none
  | .negotiateAlgorithms _ _ => none
  | .getDigests _ _ => none
  | .getCertificate _ _ => none
  | .challenge _ _ => none
  | .getMeasurements _ _ => none
  | .partitionHalt _ => none
  | .partitionResume _ => none
  | .scrubComplete _ => none
  | .spill _ => none
  | .fill _ => none
  | .vmaxxTimeout _ => none
  | .expanderBisnp _ => none
  | .peerAccess _ _ _ => none
  | .powerDown => none
  | .timeSlot _ _ => none
  | .ucieFlitArrival _ _ => none

/-- The words of the parts, in address order (R29). -/
def Parts.words (p : Parts) : List Half :=
  p.px.map Prefix.word ++ p.base :: (p.second.map W1.word).toList

/-- The second word of an instruction above its base word, as M6 of a fault message holds them (R398). -/
def Instr.siteWords (i : Instr) : BitVec 32 :=
  match i.parts with
  | some p => (match p.second with | some w => w.word | none => 0) ++ p.base
  | none => 0

/-- The words of a well-formed instruction, in address order; none for an event. -/
def encode (i : Instr) : List Half :=
  match i.parts with
  | some p => p.words
  | none => []

/-- The length of an instruction in bytes (R29). -/
def Instr.bytes (i : Instr) : Nat := 2 * (encode i).length

/-! ### The decoder -/

/-- MAJ 0x0 (R63), the word 0x0000 apart. -/
def decodeZ (px : List Prefix) (n : BitVec 12) : Option Instr :=
  if n.extractLsb' 8 4 = 0#4 then some (.trap px (n.extractLsb' 0 8))
  else if n = 0x100#12 then some (.nop px)
  else if n = 0x101#12 then some (.done px)
  else if n = 0x102#12 then some (.commit px)
  else if n = 0x103#12 then some (.yield px)
  else if n = 0x104#12 then some (.ret px)
  else if n = 0x105#12 then some (.eret px)
  else none

/-- MAJ 0x1 (R64). -/
def decodeInt (px : List Prefix) (s fn : BitVec 6) : Option Instr :=
  match fn.toNat with
  | 0 => some (.lda px s)
  | 1 => some (.sta px s)
  | 2 => some (.add px s)
  | 3 => some (.adc px s)
  | 4 => some (.sub px s)
  | 5 => some (.sbc px s)
  | 6 => some (.rsb px s)
  | 7 => some (.cmp px s)
  | 8 => some (.and px s)
  | 9 => some (.or px s)
  | 10 => some (.xor px s)
  | 11 => some (.andn px s)
  | 12 => some (.tst px s)
  | 13 => some (.shl px s)
  | 14 => some (.shr px s)
  | 15 => some (.sar px s)
  | 16 => some (.rol px s)
  | 17 => some (.ror px s)
  | 18 => some (.mul px s)
  | 19 => some (.mulh px s)
  | 20 => some (.mulhn px s)
  | 25 => some (.min px s)
  | 26 => some (.max px s)
  | 27 => some (.minn px s)
  | 28 => some (.maxn px s)
  | 29 => some (.neg px s)
  | 30 => some (.not px s)
  | 31 => some (.clz px s)
  | 32 => some (.ctz px s)
  | 33 => some (.popc px s)
  | 34 => some (.brev px s)
  | 35 => some (.bswp px s)
  | 36 => some (.sext px s)
  | 37 => some (.zext px s)
  | 38 => some (.bfx px s)
  | 39 => some (.bfi px s)
  | 40 => some (.selz px s)
  | 41 => some (.selnz px s)
  | 42 => some (.mac px s)
  | 43 => some (.xchg px s)
  | 44 => some (.adds px s)
  | 45 => some (.subs px s)
  | 46 => some (.abs px s)
  | _ => none

/-- MAJ 0x2 (R65). -/
def decodeFp (px : List Prefix) (s : BitVec 6) (op : BitVec 4) (t : BitVec 2) : Option Instr :=
  match op.toNat with
  | 0 => some (.fadd px s t)
  | 1 => some (.fsub px s t)
  | 2 => some (.fmul px s t)
  | 3 => some (.ffma px s t)
  | 4 => some (.fscl px s t)
  | 5 => some (.frsub px s t)
  | 6 => some (.fmin px s t)
  | 7 => some (.fmax px s t)
  | 8 => some (.fcmp px s t)
  | 9 => some (.fabs px s t)
  | 10 => some (.fneg px s t)
  | 11 => some (.fclass px s t)
  | 12 => some (.frint px s t)
  | 13 => some (.fsgnj px s t)
  | 14 => some (.fminn px s t)
  | 15 => some (.fmaxn px s t)
  | _ => none

/-- MAJ 0x3 (R66): the codes with dst = src are unassigned. -/
def decodeCvt (px : List Prefix) (s : BitVec 6) (d c : BitVec 3) : Option Instr :=
  if d = c then none else some (.cvt px s d c)

/-- MAJ 0x4 (R67). -/
def decodeImm (px : List Prefix) (op : BitVec 4) (imm : BitVec 8) : Option Instr :=
  match op.toNat with
  | 0 => some (.ldi px imm)
  | 1 => some (.addi px imm)
  | 2 => some (.cmpi px imm)
  | 3 => some (.andi px imm)
  | 4 => some (.ori px imm)
  | 5 => some (.xori px imm)
  | 6 => some (.shli px imm)
  | 7 => some (.shri px imm)
  | 8 => some (.sari px imm)
  | 9 => some (.muli px imm)
  | 10 => some (.mfc px imm)
  | 11 => some (.mtc px imm)
  | 12 => some (.spres px imm)
  | 13 => some (.sclr px imm)
  | _ => none

/-- MAJ 0x5 (R67). -/
def decodePtr (px : List Prefix) (pr op : BitVec 3) (imm : BitVec 6) : Option Instr :=
  match op.toNat with
  | 0 => some (.pset px pr imm)
  | 1 => some (.pget px pr imm)
  | 2 => some (.padd px pr imm)
  | 3 => some (.pstep px pr imm)
  | 4 => some (.pmod px pr imm)
  | 5 => some (.plea px pr imm)
  | 6 => some (.pswp px pr imm)
  | 7 => some (.pcmp px pr imm)
  | _ => none

/-- MAJ 0x6 (R65). -/
def decodeVfp (px : List Prefix) (va : BitVec 2) (pp : BitVec 3) (m : Bool) (op : BitVec 4) (t : BitVec 2) : Option Instr :=
  match op.toNat with
  | 0 => some (.vfadd px va pp m t)
  | 1 => some (.vfsub px va pp m t)
  | 2 => some (.vfmul px va pp m t)
  | 3 => some (.vfma px va pp m t)
  | 4 => some (.vfscl px va pp m t)
  | 5 => some (.vfrsub px va pp m t)
  | 6 => some (.vfmin px va pp m t)
  | 7 => some (.vfmax px va pp m t)
  | 8 => some (.vfceq px va pp m t)
  | 9 => some (.vfclt px va pp m t)
  | 10 => some (.vfcle px va pp m t)
  | 11 => some (.vfabs px va pp m t)
  | 12 => some (.vfneg px va pp m t)
  | 13 => some (.vfminn px va pp m t)
  | 14 => some (.vfmaxn px va pp m t)
  | 15 => some (.vfreds px va pp m t)
  | _ => none

/-- MAJ 0x7, FN 0 to 15 (R68). -/
def decodeVmove (px : List Prefix) (va : BitVec 2) (pp : BitVec 3) (m : Bool) (fn : BitVec 6) : Option Instr :=
  match fn.toNat with
  | 0 => some (.vld px va pp m)
  | 1 => some (.vst px va pp m)
  | 2 => some (.vbcstI64 px va pp m)
  | 3 => some (.vbcstI32 px va pp m)
  | 4 => some (.vbcstI16 px va pp m)
  | 5 => some (.vbcstI8 px va pp m)
  | 6 => some (.vmov px va pp m)
  | 7 => some (.vshuf px va pp m)
  | 8 => some (.vsel px va pp m)
  | _ => none

/-- MAJ 0x7, FN 16 to 63 (R68). -/
def decodeVint (px : List Prefix) (va : BitVec 2) (pp : BitVec 3) (m : Bool) (op : BitVec 4) (t : BitVec 2) : Option Instr :=
  match op.toNat with
  | 4 => some (.viadd px va pp m t)
  | 5 => some (.visub px va pp m t)
  | 6 => some (.vimul px va pp m t)
  | 7 => some (.vimin px va pp m t)
  | 8 => some (.vimax px va pp m t)
  | 9 => some (.viminn px va pp m t)
  | 10 => some (.vimaxn px va pp m t)
  | 11 => some (.vand px va pp m t)
  | 12 => some (.vor px va pp m t)
  | 13 => some (.vxor px va pp m t)
  | 14 => some (.vshl px va pp m t)
  | 15 => some (.vshr px va pp m t)
  | _ => none

/-- MAJ 0x7 (R68). -/
def decodeVec (px : List Prefix) (va : BitVec 2) (pp : BitVec 3) (m : Bool) (fn : BitVec 6) : Option Instr :=
  if fn.extractLsb' 4 2 = 0#2 then decodeVmove px va pp m fn
  else decodeVint px va pp m (fn.extractLsb' 2 4) (fn.extractLsb' 0 2)

/-- MAJ 0xA (R69). -/
def decodeChan (px : List Prefix) (op : BitVec 4) (arg : BitVec 8) : Option Instr :=
  match op.toNat with
  | 0 => some (.chen px arg)
  | 1 => some (.chdis px arg)
  | 2 => some (.chpend px arg)
  | 3 => some (.chclr px arg)
  | 4 => some (.chpri px arg)
  | 5 => some (.jmps px arg)
  | 6 => some (.brls px arg)
  | _ => none

/-- MAJ 0xB (R69). -/
def decodeMask (px : List Prefix) (op : BitVec 4) (arg : BitVec 8) : Option Instr :=
  match op.toNat with
  | 0 => some (.kand px arg)
  | 1 => some (.kor px arg)
  | 2 => some (.kxor px arg)
  | 3 => some (.knot px arg)
  | 4 => some (.kmov px arg)
  | 5 => some (.kany px arg)
  | 6 => some (.kall px arg)
  | 7 => some (.kpop px arg)
  | 8 => some (.rep px arg)
  | 9 => some (.cmask px arg)
  | 10 => some (.cunmask px arg)
  | 11 => some (.kseti px arg)
  | _ => none

/-- MAJ 0xC (R70). -/
def decodeMem (px : List Prefix) (op s : BitVec 6) (w1 : W1) : Option Instr :=
  match op.toNat with
  | 0 => some (.ldg px s w1)
  | 1 => some (.stg px s w1)
  | 2 => some (.vldg px s w1)
  | 3 => some (.vstg px s w1)
  | 4 => some (.ldx px s w1)
  | 5 => some (.stx px s w1)
  | 6 => some (.stn px s w1)
  | 7 => some (.pref px s w1)
  | 8 => some (.amoadd px s w1)
  | 9 => some (.amoand px s w1)
  | 10 => some (.amoor px s w1)
  | 11 => some (.amoxor px s w1)
  | 12 => some (.amomin px s w1)
  | 13 => some (.amomax px s w1)
  | 14 => some (.amominn px s w1)
  | 15 => some (.amomaxn px s w1)
  | 16 => some (.amoswp px s w1)
  | 17 => some (.amocas px s w1)
  | 18 => some (.amofadd px s w1)
  | 20 => some (.fence px s w1)
  | 21 => some (.xfence px s w1)
  | 22 => some (.tdecl px s w1)
  | 23 => some (.tund px s w1)
  | 24 => some (.tfwd px s w1)
  | 25 => some (.twb px s w1)
  | 26 => some (.tinv px s w1)
  | 27 => some (.clwb px s w1)
  | 28 => some (.clinv px s w1)
  | 29 => some (.clfl px s w1)
  | 30 => some (.sgo px s w1)
  | 31 => some (.sbuf px s w1)
  | 32 => some (.speek px s w1)
  | 33 => some (.sfree px s w1)
  | 34 => some (.scnt px s w1)
  | 35 => some (.cpgo px s w1)
  | 36 => some (.cpst px s w1)
  | _ => none

/-- MAJ 0xD (R71). -/
def decodeSys (px : List Prefix) (op s : BitVec 6) (w1 : W1) : Option Instr :=
  match op.toNat with
  | 0 => some (.mxgo px s w1)
  | 1 => some (.mxrd px s w1)
  | 2 => some (.mxwr px s w1)
  | 3 => some (.mxst px s w1)
  | 4 => some (.mxcfg px s w1)
  | 5 => some (.mxmsk px s w1)
  | 6 => some (.mxabt px s w1)
  | 8 => some (.send px s w1)
  | 9 => some (.bcast px s w1)
  | 10 => some (.wrs px s w1)
  | 11 => some (.psend px s w1)
  | 12 => some (.launch px s w1)
  | 13 => some (.trig px s w1)
  | 14 => some (.bar px s w1)
  | 15 => some (.svc px s w1)
  | 16 => some (.hint px s w1)
  | 17 => some (.gred px s w1)
  | 18 => some (.vmaxx px s w1)
  | 32 => some (.tlbi px s w1)
  | 33 => some (.tlbsync px s w1)
  | 34 => some (.probe px s w1)
  | 35 => some (.pstop px s w1)
  | 36 => some (.pgo px s w1)
  | 37 => some (.cswap px s w1)
  | 38 => some (.scrub px s w1)
  | _ => none

/-- MAJ 0xE (R72). -/
def decodeLongOp (px : List Prefix) (op s : BitVec 6) (w1 : W1) : Option Instr :=
  match op.toNat with
  | 0 => some (.exp2 px s w1)
  | 1 => some (.log2 px s w1)
  | 2 => some (.rcp px s w1)
  | 3 => some (.rsq px s w1)
  | 4 => some (.tanh px s w1)
  | 5 => some (.sinp px s w1)
  | 6 => some (.cosp px s w1)
  | 7 => some (.rcps px s w1)
  | 8 => some (.rsqs px s w1)
  | 9 => some (.vexp2 px s w1)
  | 10 => some (.vlog2 px s w1)
  | 11 => some (.vrcp px s w1)
  | 12 => some (.vrsq px s w1)
  | 13 => some (.vtanh px s w1)
  | 14 => some (.vcvt px s w1)
  | 15 => some (.vqnt px s w1)
  | 16 => some (.vdqnt px s w1)
  | 17 => some (.xadd px s w1)
  | 18 => some (.vxadd px s w1)
  | 19 => some (.xrnd px s w1)
  | 20 => some (.xmrg px s w1)
  | 21 => some (.xclr px s w1)
  | 22 => some (.fdiv px s w1)
  | 23 => some (.fsqrt px s w1)
  | 24 => some (.div px s w1)
  | 25 => some (.divn px s w1)
  | 26 => some (.rem px s w1)
  | 27 => some (.remn px s w1)
  | 28 => some (.vfdiv px s w1)
  | 29 => some (.vfsqrt px s w1)
  | _ => none

/-- The instruction of a one-word base (MAJ 0x0 to 0xB, R30). -/
def decodeShort (px : List Prefix) (w : Half) : Option Instr :=
  match (w.extractLsb' 12 4).toNat with
  | 0 => decodeZ px (w.extractLsb' 0 12)
  | 1 => decodeInt px (w.extractLsb' 6 6) (w.extractLsb' 0 6)
  | 2 => decodeFp px (w.extractLsb' 6 6) (w.extractLsb' 2 4) (w.extractLsb' 0 2)
  | 3 => decodeCvt px (w.extractLsb' 6 6) (w.extractLsb' 3 3) (w.extractLsb' 0 3)
  | 4 => decodeImm px (w.extractLsb' 8 4) (w.extractLsb' 0 8)
  | 5 => decodePtr px (w.extractLsb' 9 3) (w.extractLsb' 6 3) (w.extractLsb' 0 6)
  | 6 => decodeVfp px (w.extractLsb' 10 2) (w.extractLsb' 7 3) (w.getLsbD 6) (w.extractLsb' 2 4) (w.extractLsb' 0 2)
  | 7 => decodeVec px (w.extractLsb' 10 2) (w.extractLsb' 7 3) (w.getLsbD 6) (w.extractLsb' 0 6)
  | 8 => some (.br px (w.extractLsb' 9 3) (w.extractLsb' 0 9))
  | 9 => if w.getLsbD 11 then some (.brl px (w.extractLsb' 0 11)) else some (.jmp px (w.extractLsb' 0 11))
  | 10 => decodeChan px (w.extractLsb' 8 4) (w.extractLsb' 0 8)
  | 11 => decodeMask px (w.extractLsb' 8 4) (w.extractLsb' 0 8)
  | _ => none

/-- The instruction of a two-word base (MAJ 0xC to 0xE, R30, R31). -/
def decodeLong (px : List Prefix) (w : Half) (w1 : W1) : Option Instr :=
  match (w.extractLsb' 12 4).toNat with
  | 12 => decodeMem px (w.extractLsb' 6 6) (w.extractLsb' 0 6) w1
  | 13 => decodeSys px (w.extractLsb' 6 6) (w.extractLsb' 0 6) w1
  | 14 => decodeLongOp px (w.extractLsb' 6 6) (w.extractLsb' 0 6) w1
  | _ => none

/-- Whether a base word has a second word (R29). -/
def isLong (w : Half) : Bool :=
  w.extractLsb' 12 4 = 0xC#4 || w.extractLsb' 12 4 = 0xD#4 || w.extractLsb' 12 4 = 0xE#4

/-- The instruction whose base word is `w`, with the words that follow it. -/
def decodeBase (px : List Prefix) (w : Half) (rest : List Half) : Except DecodeError (Instr × List Half) :=
  if w = 0#16 then .error .zero
  else if isLong w then
    match rest with
    | [] => .error .truncated
    | w1 :: rest' =>
      match decodeLong px w (W1.ofWord w1) with
      | some i => .ok (i, rest')
      | none => .error (.unassigned w)
  else
    match decodeShort px w with
    | some i => .ok (i, rest)
    | none => .error (.unassigned w)

/-- Decoding with the prefixes already read (R35: a fifth prefix is refused when it is fetched). -/
def decodeFrom (px : List Prefix) : List Half → Except DecodeError (Instr × List Half)
  | [] => .error .truncated
  | w :: rest =>
    match Prefix.ofWord w with
    | some p => if px.length = 4 then .error (.fifthPrefix w) else decodeFrom (px ++ [p]) rest
    | none => if w.extractLsb' 12 4 = 0xF#4 then .error (.prefixKind w) else decodeBase px w rest

/-- The first instruction of a sequence of words, and the words after it. -/
def decode (ws : List Half) : Except DecodeError (Instr × List Half) := decodeFrom [] ws

/-- The words that an opcode-table number of `nbits` bits stands for. The table numbers a two-word row with its first
word in bits 31..16; a number whose low half is the base word of a two-word instruction while its high half is none
is read with the first word low (log 5). The bits above `nbits` are zero words. -/
def tableWords (nbits w : Nat) : List Half :=
  let lo := BitVec.ofNat 16 w
  let hi := BitVec.ofNat 16 (w / 65536)
  if nbits ≤ 16 then [lo, 0#16]
  else if isLong hi then [hi, lo]
  else [lo, hi]

/-- The instruction the decoder reads from an opcode-table number. -/
def decodeTableWord (nbits w : Nat) : Option Instr :=
  match decode (tableWords nbits w) with
  | .ok (i, _) => some i
  | .error _ => none

end Sys2Proof
end

