-- ==== Sys2Proof/Config.lean ====
section
/-! DEFINITION. What an implementation fixes and the spec leaves open: opaque constants, so that nothing in Lean can
evaluate them or prove a value of them. Free values that may differ from one use to the next are applied to the
model's own counter `State.freeCtr` (log 7). -/

namespace Sys2Proof.Config

/-- A free Boolean: a choice that the spec leaves to the device (R5), for the n-th use (log 7). -/
opaque freeBit : Nat → Bool

/-- A free doubleword: a value that the spec leaves open, for the n-th use (log 7). -/
opaque freeWord : Nat → Word

/-- The low-order bits of a special function's exact result when the interval evaluation of the model does not decide
the rounding (R161): the function number and the operand (log 21). -/
opaque specialResult : Nat → BitVec 64 → BitVec 64

/-- The 256-bit domain key of a dedup domain, drawn at random at the n-th draw (R244; log 22). -/
opaque domainKey : Nat → BitVec 256

/-- The set of an L2 slice that a line maps to (R242 gives the number of sets, not the index; log 22). -/
opaque l2Set : Nat → Nat

/-- The Bildaholt root digest in the sluice die's mask ROM (R425; log 23). -/
opaque rootDigest : BitVec 256

/-- ML-DSA-65.Verify with an empty context (R425; log 23): public key, message, signature. -/
opaque mldsaVerify : List Byte → List Byte → List Byte → Bool

/-- The key of the sluice die's physically unclonable function (R429; log 23). -/
opaque pufKey : List Byte

/-- The bytes of an SPDM answer, whose form the spec leaves to the SPDM standard (R429; log 23): request code, request,
identity seed, what is measured, byte number. Byte 0 stands for the answer's length. -/
opaque spdmByte : Nat → List Byte → List Byte → List Word → Nat → Byte

/-- What the body of an accepted image gives, whose layout the spec leaves open (R424, R428; log 23): BSTAT.HOLD at reset, the
PMAP, CAT, QUOTA and slot-table doublewords by their offset in the management space, and the identity certificate. -/
opaque imageHold : List Byte → Bool

opaque imageTables : List Byte → List (Nat × Word)

opaque imageCert : List Byte → List Byte

end Sys2Proof.Config
end

