-- ==== Sys2Proof/Machine/State.lean ====
section
/-! DEFINITION. The state of the package as plain data: every register, memory, queue and table the spec names, and
the model's own inputs (the agenda, log 2; the counter of free values, log 7). Reset follows R16 and R423. -/

namespace Sys2Proof.Machine

/-! ### Why a step stops -/

/-- The stops of the machine that are no refusal. Every fault of the spec (R395) is a next state, so none is raised
for one. -/
inductive Fault where
  /-- Raised by the turn of a core whose polder die is held in reset (R422, R423, R426, R427): it runs nothing. Safe. -/
  | inReset
deriving DecidableEq, Repr

/-- Why a turn has no meaning. -/
inductive Refusal where
  /-- An instruction of this mnemonic that has no meaning yet. Safe. -/
  | notModelled (mnemonic : String)
  /-- The agenda names an event that cannot take place in this state: its enabling condition in the spec does not
  hold. Raised by the events' meanings only. Safe: the run stops and nothing is claimed of it. -/
  | notEnabled (event : String)
deriving DecidableEq, Repr

/-! ### Memory -/

/-- Memory contents: addresses strictly rising, no entry equal to what an unlisted address reads as (log 1). -/
abbrev Memory := List Host.Cell

/-! ### The small core and the service core -/

/-- The repetition state (R50, R52, R405). -/
structure Rep where
  /-- A repetition body is running. -/
  act : Bool
  /-- Iterations still to execute, the current one included (log 11). -/
  left : BitVec 40
  /-- Body length minus 1. -/
  b1 : BitVec 3
  /-- Slot stride. -/
  str : BitVec 3
  /-- Iteration number modulo 32. -/
  iter : BitVec 5
  /-- Position in the body. -/
  pos : BitVec 3
  /-- Address of the REP's first word. -/
  addr : Word
  /-- Address of the body's first word; none when only `addr` is known (after ERET). -/
  body : Option Word
deriving DecidableEq, Repr

/-- A commit checkpoint (R17, R282). -/
structure Ckpt where
  a : Word
  flg : Word
  p : Vector Word 8
  m : Vector Word 24
  pres : BitVec 24
  pc : Word
  rep : Rep
deriving DecidableEq, Repr

/-- Where a result of a long instruction lands (R45). -/
inductive Target where
  | a
  | flg
  | pres
  | p (n : BitVec 3)
  | k (n : BitVec 2)
  | m (n : BitVec 5)
  /-- A vector register; the write's mask names its bytes. -/
  | va (n : BitVec 2)
  /-- Scratchpad at a local address; the write's mask names the bytes. -/
  | mem (ea : BitVec 24)
deriving DecidableEq, Repr

/-- One write of a long instruction: the target, the nibbles written (two mask bits a byte), the value. -/
structure LongWrite where
  target : Target
  mask : BitVec 128
  value : Vec
deriving DecidableEq, Repr

/-- An outstanding long result (R45, R46). -/
structure LongRes where
  /-- Window instructions still to issue. -/
  left : Nat
  writes : List LongWrite
  /-- Sticky flags IV, DZ, OF, UF, NX to OR into FLG (bits 8 to 4). -/
  sticky : BitVec 5
  /-- Which of Z, N, C, V (bits 3 to 0) land, and their values. -/
  zncvMask : BitVec 4
  zncv : BitVec 4
  /-- Its writes that later results which have landed have replaced, in part or whole (R47). -/
  lost : List LongWrite
deriving DecidableEq, Repr

/-- Atomic operations (R209, R211). -/
inductive AmoOp where
  | add | and | or | xor
  | min | max | minn | maxn
  | fmin | fmax
  | swp | cas
  | fadd
deriving DecidableEq, Repr

/-- An atomic request: operation, width in bytes, operand, expected value (AMOCAS), rounding mode and format of
AMOFADD (mode coded as FLG.RM; BF selects bf16 at 16 bits). -/
structure Amo where
  op : AmoOp
  bytes : Nat
  arg : BitVec 128
  expect : BitVec 128
  mode : BitVec 3
  bf : Bool
deriving DecidableEq, Repr

/-- What a global buffer entry does (R203). -/
inductive GKind where
  /-- Plain bytes under a byte mask; `home` marks STX (R205). -/
  | bytes (mask : BitVec 16) (data : BitVec 128) (home : Bool)
  /-- STN: the nibbles of one byte (byte offset 0 to 15 in the block, nibble mask, data). -/
  | nibble (off : BitVec 4) (mask : BitVec 2) (data : Byte)
  /-- A no-return atomic at a byte offset of the block. -/
  | amo (off : BitVec 4) (op : Amo)
deriving DecidableEq, Repr

/-- What a translated or remote access reaches. -/
inductive Place where
  /-- A physical address (R358). -/
  | phys (pa : Nat)
  /-- An offset in another cluster's store through the remote window (R25). -/
  | remote (cluster : Nat) (off : Nat)
deriving DecidableEq, Repr

/-- A global-store entry (R203): a naturally aligned 16-byte block, with the virtual addresses its stores were translated from
(R374) and the scope and order of the newest store in it. -/
structure GEntry where
  vas : List Word
  place : Place
  kind : GKind
  od : BitVec 3
  sc : BitVec 3
  /-- The page's dedup-eligible bit (R243). -/
  dd : Bool
deriving DecidableEq, Repr

/-- A persistent-write entry (R97): a local 16-byte block with a nibble mask, or a no-return atomic. -/
inductive PKind where
  | bytes (mask : BitVec 32) (data : BitVec 128)
  | amo (off : BitVec 4) (op : Amo)
deriving DecidableEq, Repr

/-- What an outgoing message is (R305, R310, R311, R312). -/
inductive SendKind where
  | send
  | bcast
  | wrs
  | psend
deriving DecidableEq, Repr

/-- A buffered message (R309 to R312): the destinations as agent SIDs, the channel, class and payload. -/
structure MsgEntry where
  kind : SendKind
  /-- Receivers, in core-id order for a BCAST; the peer core for a PSEND. -/
  dests : List Nat
  ch : BitVec 6
  cls : BitVec 3
  payload : List Word
  /-- The destination word, for QFULL and LINK notices (R312, R398). -/
  word : Word
deriving DecidableEq, Repr

/-- One entry of the region buffer, in program order (R281). -/
inductive BufEntry where
  | glob (g : GEntry)
  | pers (blk : BitVec 24) (k : PKind)
  | msg (e : MsgEntry)
  /-- No store and no entry of R281: the loads, and the stores performed at once, that follow are held until what stands before it has
  been performed (R170, R171; log 76). -/
  | fence (loads stores : Bool)
deriving DecidableEq, Repr

/-- A receive-slot record (R18). -/
structure SlotSave where
  n : BitVec 5
  /-- The value and presence bit that a discard gives back: those of the first write, or of a deposit since (R18). -/
  value : Word
  pres : Bool
deriving DecidableEq, Repr

/-- A queued message (R273, R306). -/
structure Msg where
  hdr : Word
  payload : List Word
  /-- Source endpoint on the network (R177). -/
  src : Nat
  /-- Bound by ordered delivery (R177). -/
  bound : Bool
  /-- Damaged in a shadow bank (R413). -/
  bad : Bool
deriving DecidableEq, Repr

/-- One channel's handler-table and selection state (R264, R274, R275). -/
structure Chan where
  entry : BitVec 28
  pri : BitVec 3
  ord : Bool
  preset : BitVec 24
  epri : BitVec 3
  pass : BitVec 8
  bare : Bool
  queue : List Msg
deriving DecidableEq, Repr

/-- The state of a park slot (R279, R397, R404). -/
inductive ParkSt where
  | free
  | parked
  | resumed
  | migrated
  /-- Waiting for a migration frame (R403). -/
  | waiting
deriving DecidableEq, Repr

/-- A park slot (R397): the region, its channel, the fault word and the fault message's other doublewords. -/
structure Park where
  st : ParkSt
  gen : BitVec 6
  ck : Ckpt
  chan : BitVec 6
  fword : BitVec 32
  /-- M1 to M3, M4 (first word) and M6 (words) of the fault message. -/
  info : List Word
  /-- What `rerun` and `mismOnce` were for the region, which has not committed (R415, R419). -/
  rerun : Bool
  mismOnce : Bool
deriving DecidableEq, Repr

/-- A core's place in the launch it runs (R260, R261, R288, R289). -/
structure Seat where
  lid : BitVec 16
  x0 : BitVec 5
  y0 : BitVec 5
  w1 : BitVec 5
  h1 : BitVec 5
  rx : BitVec 5
  ry : BitVec 5
  code : Word
  clen : BitVec 16
  pcls : BitVec 2
deriving DecidableEq, Repr

/-- A cached translation (R368): partition, first byte and size of the page, the leaf. -/
structure Tlb where
  part : Nat
  va : Nat
  size : Nat
  leaf : Word
deriving DecidableEq, Repr

/-- A cached page-table pointer (R368): partition, the level of its entry, the first byte of that entry's range, and the
table it names. -/
structure Wptr where
  part : Nat
  level : Nat
  va : Nat
  table : Nat
deriving DecidableEq, Repr

/-- A line of an instruction cache (R28, R374): partition, virtual line number, the bytes as they were fetched. -/
structure ILine where
  part : Nat
  line : Nat
  data : BitVec 1024
deriving DecidableEq, Repr

/-- One activation's start or restart state that pre-emption keeps (R407). -/
structure Inter where
  ck : Ckpt
  chan : BitVec 6
  /-- What `rerun` and `mismOnce` were for the region, which has not committed (R415, R419). -/
  rerun : Bool
  mismOnce : Bool
deriving DecidableEq, Repr

/-- The registers of a core (R16). -/
structure Regs where
  a : Word
  flg : Word
  p : Vector Word 8
  m : Vector Word 32
  pres : BitVec 32
  va : Vector Vec 4
  k : Vector Word 4
deriving DecidableEq, Repr

/-- The control registers a core holds (R288, R301, R402). -/
structure Ctl where
  chen : BitVec 64
  cmask : BitVec 8
  rmode : Word
  xseed : Word
  fcode : BitVec 32
  mism : BitVec 16
  migcfg : Word
  migbusy : Word
  scode : Word
  shtab : Word
  mga : Word
deriving DecidableEq, Repr

/-- A stream buffer (R221, R222). -/
structure SBuf where
  cfg : Bool
  dir : Bool
  en : Bool
  ch : BitVec 6
  head : Nat
  tail : Nat
  free : Nat
  filled : Nat
  slots : Nat
  /-- Slot size in bytes. -/
  slotBytes : Nat
  base : Nat
  lid : BitVec 16
deriving DecidableEq, Repr

/-- A captured SGO: the record and shape doublewords and the launch id (R223). -/
structure SgoCmd where
  record : List Word
  shape : List Word
  lid : BitVec 16
  /-- Slots completed. -/
  done : Nat
  /-- Base word and second word of the SGO (R395, R398). -/
  words : BitVec 32
deriving DecidableEq, Repr

/-- A queued stream command (R222, R223). -/
inductive SeCmd where
  | sbuf (b : BitVec 3) (d : Word) (lid : BitVec 16)
  | sgo (c : SgoCmd)
deriving DecidableEq, Repr

/-- The stream engine (R221 to R226). -/
structure Se where
  bufs : Vector SBuf 8
  queue : List SeCmd
  cur : Option SgoCmd
  susp : Bool
deriving DecidableEq, Repr

/-! ### Matrix engine, vector unit, barriers (chapters 5, 6, 11) -/

/-- A captured MXGO or MXST: record, slots of the sources, launch id, PCOFF and seed of SR (R122, R124, R127, R141). -/
structure MxCmd where
  /-- MXST. -/
  st : Bool
  dws : List Word
  /-- Slots of the A source, or of the MXST destination. -/
  capA : List Word
  capB : List Word
  lid : BitVec 16
  pcoff : Word
  xseed : Word
  /-- Base word and second word of the instruction that commanded it (R395, R398). -/
  words : BitVec 32
deriving DecidableEq, Repr

/-- An entry of the matrix engine's queue (R122). -/
inductive MxEntry where
  | cmd (c : MxCmd)
  | wr (tile row col : Nat) (wide : Bool) (v : Word)
  | cfg (code : BitVec 2)
  | msk (k : BitVec 2) (row col : BitVec 128)
deriving DecidableEq, Repr

/-- The running command: steps or rows completed, flags, whether it waits for its formation (R134), is suspended
(R137), must end at its next boundary (R146), or has ended and owes its completion (R139, R408). -/
structure MxRun where
  cmd : MxCmd
  done : Nat
  sticky : BitVec 5
  forming : Bool
  susp : Bool
  abort : Bool
  ended : Option (BitVec 8)
deriving DecidableEq, Repr

/-- The matrix engine (R118 to R122). -/
structure Mx where
  cfg : BitVec 2
  /-- The 64 KiB accumulator store, and its poisoned bytes (R413). -/
  acc : Memory
  bad : List Nat
  steps : Vector (BitVec 32) 4
  sf : BitVec 5
  row : Vector (BitVec 128) 4
  col : Vector (BitVec 128) 4
  queue : List MxEntry
  run : Option MxRun
deriving DecidableEq, Repr

/-- An entry of the vector unit's queue (R154, R156). -/
inductive VuCmd where
  | gred (dws : List Word) (lid : BitVec 16)
  | vmaxx (tag : BitVec 16) (gwl : BitVec 4) (prec : BitVec 2) (m : Word) (ch : BitVec 6) (lid : BitVec 16)
deriving DecidableEq, Repr

/-- The vector unit: its queue, the head being performed, and the contribution a started GRED has read (R154). -/
structure Vu where
  queue : List VuCmd
  started : Option (List Word)
deriving DecidableEq, Repr

/-- An entry of the barrier queue (R316). -/
structure BarCmd where
  tag : BitVec 16
  gwl : BitVec 4
  ghl : BitVec 4
  ch : BitVec 6
  lid : BitVec 16
deriving DecidableEq, Repr

/-- What an instruction has captured before it waits for a place in a queue (R122, R141, R154, R316). -/
inductive Captured where
  | mx (e : MxEntry)
  | se (e : SeCmd)
  | vu (e : VuCmd)
  | bar (e : BarCmd)
deriving DecidableEq, Repr

/-- A small core or a service core. -/
structure Core where
  r : Regs
  ctl : Ctl
  /-- Address of the next instruction's first word (R29). -/
  pc : Word
  /-- The PC was reached by a control transfer, a start or a restart (R395, RUNOFF info). -/
  xfer : Bool
  rep : Rep
  long : List LongRes
  /-- Channel of the running activation. -/
  act : Option (BitVec 6)
  ck : Ckpt
  buf : List BufEntry
  rsave : List SlotSave
  /-- Instructions executed in the region (R52). -/
  icount : Nat
  /-- An uncorrectable error was already consumed in this region (R415). -/
  rerun : Bool
  /-- A fingerprint mismatch occurred in this region (R419). -/
  mismOnce : Bool
  chans : Vector Chan 64
  rr : BitVec 6
  parks : Vector Park 4
  inter : Option Inter
  seat : Option Seat
  /-- TRIG executed in the launch (R315). -/
  triggered : Bool
  /-- Next SEQ per destination SID and channel (R306). -/
  seqCnt : List ((Nat × BitVec 6) × BitVec 16)
  /-- Next SEQ to queue per source and channel, and messages held ahead of their turn (R177). -/
  ordNext : List ((Nat × BitVec 6) × BitVec 16)
  ordHeld : List (BitVec 6 × Msg)
  /-- Published message entries not yet acknowledged: entry number and acknowledgements owed (R281, R310). -/
  held : List (Nat × Nat)
  nextEntry : Nat
  /-- A double fault stopped this service core (R401). -/
  stopped : Bool
  /-- A service core's migration frames in use: frame, owner SID, token (R404, R406). -/
  frames : List (Nat × (Nat × BitVec 8))
  /-- TLBIs issued and not complete (R375): their numbers. -/
  tlbi : List Nat
  itlb : List Tlb
  dtlb : List Tlb
  /-- Translations that its matrix engine's and its stream engine's current command holds (R368). -/
  mtlb : List Tlb
  setlb : List Tlb
  /-- Its instruction cache, newest first (R28, R374). -/
  icache : List ILine
  /-- Lines that hold global stores of this core made in an L1 since its last XFENCE (R181, R215). -/
  wrote : List Nat
  /-- Lines whose publication has failed, with the FCODE cause: the stores of the region to them are dropped (R202). -/
  doomed : List (Nat × BitVec 8)
  se : Se
  mx : Mx
  vu : Vu
  bars : List BarCmd
  /-- The entry of the instruction at the program counter while it waits for a place in its queue (R122, R154). -/
  capt : Option Captured
  /-- The KIND 2 message of a suspended engine command, by AGENT (2 matrix, 3 stream), with its LID (R371, R412). -/
  engMsg : List (Nat × (BitVec 16 × List Word))
deriving DecidableEq, Repr

/-! ### Formations (R134, R135, R154, R156, R316) -/

/-- What a formation gathers. -/
inductive FormKind where
  | mx | gred | vmaxx | bar
deriving DecidableEq, Repr

/-- An operand panel of one K step that its supplier has read (R135): the B side or the A side, the supplier's row or
column of the gang, the step, element bits and scale bytes. -/
structure Panel where
  b : Bool
  idx : Nat
  step : Nat
  elems : List Nat
  scales : List Nat
deriving DecidableEq, Repr

/-- A formation: the gang by the SID of its origin core and its shape, the members that have joined, the fields in which its
first member's record must agree with the others' and whether one has not (R134), the partition's running time since the first
arrival, as cycles until `start` and the running time then, and the panels under way once it has formed. -/
structure Form where
  kind : FormKind
  part : Nat
  origin : Nat
  gwl : Nat
  ghl : Nat
  members : List Nat
  agree : List Nat
  broken : Bool
  spent : Nat
  start : Nat
  formed : Bool
  panels : List Panel
deriving DecidableEq, Repr

/-! ### Network (chapter 12) -/

/-- Where a packet's travelling copy is (R325, R328, R338, R340): it has flits to enter or in the mesh toward its exit; it is whole
at a trunk of a die; it waits at its destination's gate to enter the mesh there; it waits for a link's or arbiter's slot; it stands
in a link's window; its receiver has it; it has been withdrawn by a halt (R335). -/
inductive Leg where
  | mesh
  | trunk (die : Nat)
  | gate
  | port
  | link
  | done
  | out
deriving DecidableEq, Repr

/-- A packet admitted at an endpoint and not yet acknowledged (R322, R323, R331, R338). Endpoints are die · 512 +
router number for a cluster interface, die · 512 + 256 + tile (ty · 4 + tx) for a service block, 2048 + n for dike die n, and 2060
for the sluice die. -/
structure Pkt where
  id : Nat
  load : Traffic
  net : Nat
  /-- The partition of the tiles it travels in now, and the one whose slots it is charged to (R328). -/
  part : Nat
  home : Nat
  cls : BitVec 3
  /-- Its source and its destination; the endpoints by which it enters and leaves the mesh that it is in now. -/
  src : Nat
  dst : Nat
  ent : Nat
  hop : Nat
  /-- The tie-break value of its source (R323). -/
  srcVal : Nat
  seq : Nat
  len : Nat
  /-- Flits that have entered the mesh. -/
  entered : Nat
  admitted : Nat
  resends : Nat
  leg : Leg
  /-- Its receiver has had it: what comes again is a duplicate (R338). -/
  got : Bool
  /-- The partition whose source keeps its copy, and that partition's running time when the source last sent it (R337, R338). -/
  copy : Nat
  sent : Nat
  /-- Its source's copy is in a context apart from the live one (R409): what travels is a copy alone. -/
  apart : Bool
deriving DecidableEq, Repr

/-- A flit in flight: its packet and index, the router it reaches and the cycle in which it reaches it, its injection
stamp (R323 to R325). -/
structure Flit where
  pkt : Nat
  idx : Nat
  x : Nat
  y : Nat
  due : Nat
  stamp : BitVec 16
deriving DecidableEq, Repr

/-- A reassembly entry (R334): endpoint, network, packet, the flits held with their stamps, its partition's running time when the
first came, whether it is the reserved entry. -/
structure Asm where
  ep : Nat
  net : Nat
  pkt : Nat
  got : List (Nat × BitVec 16)
  first : Nat
  last : Bool
deriving DecidableEq, Repr

/-- A resend request of an endpoint (R334, R338): the packet, the PRB packet that carries the request, if the agenda shows one (log
39), and whether that has come to the source. -/
structure Ask where
  pkt : Nat
  via : Option Nat
  came : Bool
deriving DecidableEq, Repr

/-- One direction of a UCIe link (R342, R343): next sequence number, the window of unacknowledged flits with their
packets, what the receiver has had, the flits on the link in the order in which they were sent, failed retrains in a row, down, and
held down by a missing DRAINACK (R422). -/
structure Link where
  tx : BitVec 12
  window : List (BitVec 12 × List Nat)
  rx : BitVec 12
  ahead : List (BitVec 12)
  flight : List (BitVec 12)
  fails : Nat
  down : Bool
  held : Bool
deriving DecidableEq, Repr

/-- The meshes, gates and links. -/
structure Net where
  pkts : List Pkt
  flits : List Flit
  asms : List Asm
  /-- Reservations: endpoint, network, packet, in the order of their requests (R334). -/
  resv : List (Nat × Nat × Nat)
  /-- Resend requests that no source has answered, in their order. -/
  asks : List Ask
  /-- Requests for lines whose answers are due: line, the partition that made it, the endpoint that sent it (R328). -/
  reqs : List (Nat × Nat × Nat)
  /-- Packets whose waiting flit keeps a starvation mark up: partition, network, packet (R333). -/
  starve : List (Nat × Nat × Nat)
  /-- Whole packets that wait for a link or an arbiter, oldest first: slot table, the partition charged, packet (R340, R344). -/
  gates : List (Nat × Nat × Nat)
  next : Nat
  /-- The cycle at which the damper window under way began (R332). -/
  window : Nat
  links : List (Nat × Link)
  /-- Slot-table bytes, key table · 128 + slot (R344). -/
  slots : List (Nat × Byte)
  /-- The cycle in which routers last moved, and the routers that have moved in it, by network · 1024 + cluster (R325). -/
  ranAt : Nat
  ran : List Nat
deriving DecidableEq, Repr

/-! ### Messages on their way -/

/-- What a published message is (R273, R284, R398). -/
inductive WKind where
  /-- A SEND message or a BCAST copy. -/
  | msg
  /-- A WRS deposit to receive slot 24 + t (R311). -/
  | wrs (t : BitVec 3)
  /-- A PSEND to a fabric package's partition (R312). -/
  | psend (pkg part : Nat)
  /-- A fault message (R398). -/
  | fault
  /-- The return of a migrated checkpoint by ERET (R406). -/
  | ret (token : BitVec 8)
  /-- An initial message of a launch (R271). -/
  | initial
  /-- A completion, notice or host-channel entry: never dropped (R273). -/
  | note
deriving DecidableEq, Repr

/-- How a published message travels: the channel of classes 4 to 7 before its offset, until the first flit is ejected (R346); the
packet that carries it, if the agenda shows one (log 39), and whether that is complete at its receiver. -/
structure Trip where
  raw : Option (BitVec 6)
  pkt : Option Nat
  came : Bool
deriving DecidableEq, Repr

/-- A message that no packet of the agenda carries. -/
def Trip.direct : Trip := ⟨none, none, false⟩

/-- An acknowledgement on its way (R281, R338): the sending agent and its message entry, the receiver and the channel, the
retained packet it releases, and the packet that carries it, if the agenda shows one; of a message, the header and the destination
word, for LINK (R339). -/
structure Ack where
  sid : Nat
  entry : Option Nat
  dst : Nat
  ch : BitVec 6
  pkt : Option Nat
  via : Option Nat
  hdr : Word
  word : Word
deriving DecidableEq, Repr

/-- A published message that its receiver has not taken (R273, R281). -/
structure Wire where
  kind : WKind
  /-- Source endpoint: a SID, or 8192 + die for a sequencer, 8448 for the sluice die, 8704 + n for dike die n. -/
  src : Nat
  /-- Destination SID. -/
  dst : Nat
  /-- The channel delivered on (R330). -/
  ch : BitVec 6
  hdr : Word
  payload : List Word
  /-- The destination word, for QFULL and LINK (R398). -/
  word : Word
  /-- The message entry it occupies at its source (R281). -/
  entry : Option Nat
  /-- Refusals so far, and the cycle before which it is not retried (R273). -/
  tries : Nat
  next : Nat
  trip : Trip
deriving DecidableEq, Repr

/-! ### Clusters, launches, partitions -/

/-- A persistent region as laid out (R264, R265). -/
structure PRegion where
  base : Nat
  size : Nat
  shr : Bool
deriving DecidableEq, Repr

/-- MOESI state of a line in a cluster L1 (R233). -/
inductive Moesi where
  | m | o | e | s
deriving DecidableEq, Repr

/-- A cluster: store configuration, layout, L1, damper (R22, R26, R233, R260, R265, R332). -/
structure Cluster where
  spsz : BitVec 3
  regions : List PRegion
  /-- Queue depths log2 for channel 0, 1 to 55, 56 to 63; none before any launch (R26). -/
  qd : Option (Nat × Nat × Nat)
  /-- Partition and LID of the launch that occupies it (R260). -/
  owner : Option (Nat × BitVec 16)
  l1 : List (Nat × Moesi)
  gated : Bool
  damp : BitVec 4
  /-- Flits routed and deflected by its router in the window under way (R332). -/
  routed : Nat
  deflected : Nat
deriving DecidableEq, Repr

/-- A waiting or running launch (R262 to R271, R285). -/
structure Launch where
  /-- Acceptance number. -/
  num : Nat
  die : Nat
  part : Nat
  lid : BitVec 16
  dws : List Word
  image : List Word
  regions : List PRegion
  /-- SID of its issuer, which its initial messages carry as SRC (R271). -/
  issuer : Nat
  running : Bool
  /-- Acceptance numbers of the producers that were waiting or running when it was accepted (R269). -/
  deps : List Nat
  /-- Initial messages placed. -/
  placed : Nat
  /-- Placement is paused on a translation fault (R266), or will place no more (R372). -/
  paused : Bool
  noMore : Bool
  /-- The sums the first phase of a sweep has gathered (R285). -/
  sweep : Option (Nat × Nat × Nat)
  /-- Base word and second word of the LAUNCH that offered it (R395, R398). -/
  words : BitVec 32
deriving DecidableEq, Repr

/-- The counts of one interface for one launch id (R284). -/
structure Counts where
  s : Nat
  rv : Nat
  n : Nat
deriving DecidableEq, Repr

/-- A context apart from the live one (R409): cores by SID, cluster layouts, the bytes of persistent regions, the
sequencer's launches, formations and counts, and at the cluster interfaces the packets that they keep, their reassembly entries and
reservations (R335), the messages not yet delivered and the acknowledgements due; and the bulk copy commands that wait for the
context, by dike die and sequence number (R230). -/
structure Ctx where
  cores : List (Nat × Core)
  clusters : List (Nat × Cluster)
  spad : Memory
  /-- The poisoned ones among these bytes (R413). -/
  bad : List Nat
  launches : List Launch
  forms : List Form
  counts : List (Nat × Counts)
  pkts : List Pkt
  asms : List Asm
  resv : List (Nat × Nat × Nat)
  wire : List Wire
  acks : List Ack
  bulks : List (Nat × Nat)
deriving DecidableEq, Repr

/-- A partition action under way (R392, R410). -/
inductive Action where
  | pstop | pgo | scrub
  /-- SPILL or FILL with the physical addresses of the area's 4 KiB frames, as translated at acceptance. -/
  | spill (frames : List Nat)
  | fill (frames : List Nat)
deriving DecidableEq, Repr

/-- The steps of a partition reset that other agents see (R420, R480). -/
inductive ResetSt where
  | none
  /-- Steps 1 to 4 done or under way: deliveries meet R480. -/
  | draining
deriving DecidableEq, Repr

/-- A partition (R379 to R392, R409, R420). -/
structure Part where
  pmap : Word
  lease : Word
  quota : Word
  ptroot : Word
  rcls : Vector Word 4
  /-- Halted by PSTOP (R392). -/
  halted : Bool
  /-- Zones whose spillway sequence has suspended it (R354). -/
  cooled : List Nat
  /-- When the present halt began, and the cycles halted before it (R134). -/
  haltFrom : Nat
  haltSum : Nat
  /-- Selection has stopped for a PSTOP under way (R407). -/
  stopping : Bool
  /-- The action under way and its issuers with their channels (R392). -/
  action : Option Action
  askers : List (Nat × BitVec 6)
  /-- The context of its shadow banks (R409). -/
  shadow : Option Ctx
  /-- A context has arrived by XCHG or FILL since the last PGO (R412). -/
  arrived : Bool
  reset : ResetSt
  /-- SHARES, UNSHARES, COLLS, SATUR (R250). -/
  dedup : Vector Word 4
deriving DecidableEq, Repr

/-! ### Directory, tiles and L2 (chapter 9) -/

/-- The state of a directory record or tile entry (R234, R240). -/
inductive DirSt where
  | di | ds | dx | dd
deriving DecidableEq, Repr

/-- A directory record (R234, R235): DO is `dd`. Sharers are exact pointers, or the coarse vector. -/
structure DirRec where
  st : DirSt
  owner : Nat
  exact : List Nat
  coarse : Option (BitVec 64)
  h0 : Bool
  h1 : Bool
  hx : Bool
deriving DecidableEq, Repr

/-- A declared tile (R216, R239, R240): its partition, base line, the index of its entry in the slice of that line, its lines
in order, and the entry's state, owner and sharers, encoded as a line's record is. -/
structure Tile where
  part : Nat
  base : Nat
  slot : Nat
  lines : List Nat
  dir : DirRec
deriving DecidableEq, Repr

/-- A tag of an L2 slice (R242, R245): `ent` is its data entry, none for ZERO. -/
structure L2Tag where
  slice : Nat
  line : Nat
  part : Nat
  dom : Nat
  ent : Option Nat
  dirty : Bool
  elig : Bool
  bad : Bool
deriving DecidableEq, Repr

/-- A data entry (R242). -/
structure L2Ent where
  slice : Nat
  id : Nat
  hash : BitVec 64
  count : Nat
  dom : Nat
  data : BitVec 1024
deriving DecidableEq, Repr

/-- The L2 slices: tags newest first, entries, and candidate buckets keyed slice · 2^18 + bucket (R244). -/
structure L2 where
  tags : List L2Tag
  ents : List L2Ent
  cands : List (Nat × List Nat)
  next : Nat
  /-- Key draws of each domain so far (R244). -/
  draws : List (Nat × Nat)
deriving DecidableEq, Repr

/-- Whose request waits for a back-invalidate (R253). -/
inductive Asker where
  /-- An instruction of an agent, or the publication of its region. -/
  | core (sid : Nat)
  /-- The running command of an agent's matrix or stream engine. -/
  | matrix (sid : Nat)
  | stream (sid : Nat)
  /-- A bulk copy command by its dike die, partition and sequence number. -/
  | bulk (dk part seq : Nat)
  /-- A cache, a host, a peer or the management. -/
  | other
deriving DecidableEq, Repr

/-- A back-invalidate that hosts have not answered (R253): the line, the ports asked, those that owe a BIRsp, whether it is a
BISnpInv, and whose request waits for it. The line's record keeps its host bits until the last answer. -/
structure Snoop where
  line : Nat
  asked : List Nat
  ports : List Nat
  inv : Bool
  asker : Asker
deriving DecidableEq, Repr

/-- A line operation that a core has left to the homes, not acknowledged yet (R215, R220): what it does, its line, the core. -/
structure LineOp where
  kind : Fin 4
  line : Nat
  sid : Nat
deriving DecidableEq, Repr

/-! ### Bulk copy (R228 to R232) -/

/-- A part that a command whose completion is no release has written and that memory does not show yet (R180): its piece, the
physical address, the value. -/
structure LatePart where
  piece : Nat
  addr : Nat
  value : BitVec 128
deriving DecidableEq, Repr

/-- A bulk copy command: dike die, partition, sequence number (the ticket), issuer, record, pieces done, bytes written;
whether an engine has it, whether it is paused on the translation of a piece, and the status once it has ended. -/
structure Bulk where
  dk : Nat
  part : Nat
  seq : Nat
  sid : Nat
  lid : BitVec 16
  dws : List Word
  taken : Bool
  paused : Bool
  pieces : List Nat
  written : Nat
  status : Option (BitVec 8)
  /-- Base word and second word of the CPGO (R395, R398). -/
  words : BitVec 32
  /-- Its context is swapped out: it waits on the dike die (R230). -/
  away : Bool
  /-- Written, but not performed yet (R180; log 79). -/
  late : List LatePart
deriving DecidableEq, Repr

/-! ### Coolant (chapter 13) -/

/-- The state of a zone's spillway sequence (R354). -/
inductive Spill where
  | none
  | suspend
  | close
  | purge (n : Nat)
  | verify (n : Nat)
  | restore (n : Nat)
deriving DecidableEq, Repr

/-- A coolant zone (R347 to R355): its CAT entry's PRIV fields, valve, fence, state, sensors, and the controller's
counts of samples. -/
structure Zone where
  /-- VMAX, OWN, SHR, PART, ALLOT, TJMAX, TTGT in their places; every other bit zero. -/
  cat : Word
  valve : BitVec 6
  fnc : Bool
  st : BitVec 3
  sens0 : Word
  sens1 : Word
  spill : Spill
  /-- The cycle at which the state of the sequence was entered. -/
  since : Nat
  /-- Every sample of this VERIFY or priming has been good. -/
  good : Bool
  /-- Samples in a row with flow below 30 %, below 70 %, with DRY, with the outlet too hot, and with the recovery
  conditions. -/
  low30 : Nat
  low70 : Nat
  dry : Nat
  hot : Nat
  well : Nat
  /-- The last ten samples, newest first: ZSENS1 and TIN. -/
  past : List (Word × BitVec 8)
  /-- Writes to VMAX and TTGT that wait for the sequence's end. -/
  later : Option Word
deriving DecidableEq, Repr

/-- The bring-up stage of the package (R423, R426). -/
inductive Stage where
  /-- Rails, PWR_OK or SYS_RESET_N not yet given: everything in reset (R423). -/
  | off
  | b0
  | b1
  | b2
  | b3
deriving DecidableEq, Repr

/-! ### The sluice die (chapters 15, 17) -/

/-- A host-channel window: queued messages and dropped writes (R286). -/
structure HWin where
  fifo : List (List Word)
  drops : BitVec 32
deriving DecidableEq, Repr

/-- The sluice die: semaphore and status, host links, windows keyed (port · 128 + partition) · 4 + w, MSI-X tables and
pending bits keyed (port · 128 + partition) · 2048 + vector, MSI-X writes sent, VHB, peer routes keyed
partition · 64 + r, BSTAT, the flash, the image in use, SPDM answers and die resets. -/
structure Sluice where
  busy : Bool
  holder : BitVec 2
  deny : BitVec 32
  mst : BitVec 3
  up : Vector Bool 2
  wins : List (Nat × HWin)
  /-- Table entry of a vector: two doublewords as the host wrote them. -/
  msix : List (Nat × (Word × Word))
  pba : List Nat
  /-- MSI-X writes sent, oldest first: port and vector key. -/
  msi : List (Nat × Nat)
  vhb : List (Nat × BitVec 2)
  proutes : List (Nat × Word)
  hold : Bool
  fail : BitVec 4
  slot : Bool
  flash : Memory
  /-- Rails ramped and PWR_OK given, and when (R423). -/
  pwrOk : Option Nat
  /-- The coolant priming of B2 has begun, and when; the zones judged (R426). -/
  priming : Option Nat
  judged : List Nat
  /-- Dies that come up after a reset of their own, and since when their zones are primed (R422, R426). -/
  primes : List (Nat × Nat)
  /-- Whether the identity could be derived (R429). -/
  identity : Bool
  /-- SPDM answers: port, request code, answer bytes. -/
  spdm : List (Nat × Nat × List Byte)
  /-- Partitions whose REM the last tick took to 0, their leases not yet passed on or lapsed (R388). -/
  expiring : List Nat
  /-- Dies in reset, with the partners whose DRAINACK they hold (R422). -/
  dieReset : List (Nat × List Nat)
  /-- Sequence counters of the package's own messages: completions, windows, lease notices, sensor traps. -/
  seqs : List (Nat × BitVec 16)
  /-- The agent that did not win the last tie for the management space (R385). -/
  msemLost : Option Nat
  /-- Host requests that the sluice die holds while a die resets, and those it has answered with Completer Abort, by port and line
  (R421). -/
  hostHeld : List (Nat × Nat)
  hostAborts : List (Nat × Nat)
deriving DecidableEq, Repr

/-! ### Turns -/

/-- What moves in a turn (log 2). -/
inductive Mover where
  /-- The core of this SID executes an instruction or selects. -/
  | core (sid : Nat)
  /-- An event of the opcode table takes place. -/
  | event (e : Instr)
  /-- A lease expires, as a part of the tick that took its REM to 0 (R388). -/
  | expiry (part : Nat)
deriving DecidableEq, Repr

/-- One turn of the agenda: the cycles that pass before it (log 48), and what moves (log 2). -/
structure Turn where
  dt : Nat
  mover : Mover
deriving DecidableEq, Repr

/-- The package. -/
structure State where
  /-- The agent that moves, and its SID (R87). -/
  core : Core
  focus : Nat
  /-- Every other agent by SID; an unlisted one is at core reset. -/
  others : List (Nat × Core)
  agenda : List Turn
  /-- Core-clock cycles since the package left reset. -/
  now : Nat
  /-- The small cores that have moved in this cycle (R98). -/
  moved : List Nat
  /-- The agents in whose receive slots a deposit has landed in this cycle (R19). -/
  deposited : List Nat
  /-- The cycle of each polder die's last reset (R288, CYC). -/
  dieBase : Vector Nat 4
  /-- The model's own counter of free values (log 7). -/
  freeCtr : Nat
  /-- The coherent contents of physical memory, by 52-bit address (R164, R358). -/
  mem : Memory
  /-- The home's copy: differs from `mem` on lines a cluster L1 holds dirty (R181). -/
  home : Memory
  /-- Poisoned bytes (R414, R415, R259): line number, and a bit for each of its bytes. -/
  poison : List (Nat × BitVec 128)
  /-- Cluster stores: cluster number · 2^24 + local address (R22). -/
  spad : Memory
  /-- Poisoned bytes of the cluster stores, by key (R413). -/
  badStore : List Nat
  /-- Service-core local stores: tile form · 2^24 + local address (R28). -/
  lstore : Memory
  clusters : List (Nat × Cluster)
  /-- The data caches of the service cores by tile form (R28, R233). -/
  dcaches : List (Nat × List (Nat × Moesi))
  parts : List (Nat × Part)
  /-- The partition of each tile by tile form (R379); unlisted tiles belong to none. -/
  tilePart : List (Nat × Nat)
  stlb : List (Nat × Tlb)
  /-- The walk caches of the tiles, and the bulk copy translation caches of the dike dies (R368). -/
  wcache : List (Nat × Wptr)
  btlb : List (Nat × Tlb)
  /-- Published messages not yet taken, oldest first. -/
  wire : List Wire
  /-- Counts by interface and launch (R284): interface · 2^23 + partition · 2^16 + LID. -/
  counts : List (Nat × Counts)
  /-- Acknowledgements on their way (R281). -/
  acks : List Ack
  forms : List Form
  launches : List Launch
  nextLaunch : Nat
  bulks : List Bulk
  /-- Last ticket per dike die · 128 + partition (R229). -/
  tickets : List (Nat × BitVec 32)
  dir : List (Nat × DirRec)
  tiles : List Tile
  l2 : L2
  snoops : List Snoop
  /-- CLWB (0), CLINV (1), CLFL (2) and XFENCE write-backs (3) that wait at the homes for hosts' answers (R215, R220, R253). -/
  lineOps : List LineOp
  net : Net
  zones : List (Nat × Zone)
  sluice : Sluice
  /-- Spilled images: partition, the image's bytes by their offset in the area, the context (R410). -/
  spills : List (Nat × Memory × Ctx)
  /-- Memory expanders present: number and size in bytes (R358, R363). -/
  expanders : List (Nat × Nat)
  /-- Fabric packages the fabric reports reachable (R363). -/
  peers : BitVec 32
  /-- The protocol of each host port: 0 PCIe, 1 CXL with 68-byte flits, 2 CXL with CXL.cache (R212, R366). -/
  ports : Vector (BitVec 2) 2
  stage : Stage
deriving DecidableEq, Repr

/-! ### Reset values (R16, R18, R26, R221; log 6, log 8) -/

/-- No repetition (R405: every field zero). -/
def Rep.idle : Rep := ⟨false, 0, 0, 0, 0, 0, 0, none⟩

/-- The empty checkpoint. -/
def Ckpt.zero : Ckpt := ⟨0, 0, Vector.replicate 8 0, Vector.replicate 24 0, 0, 0, Rep.idle⟩

/-- Registers at core reset (R16). -/
def Regs.zero : Regs :=
  ⟨0, 0, Vector.replicate 8 0, Vector.replicate 32 0, 0, Vector.replicate 4 0, Vector.replicate 4 0⟩

/-- Control registers at core reset (R16, R288, R403, R482; MGA by log 8). -/
def Ctl.zero : Ctl := ⟨0, 0, 0, 0, 0, 0, 0, 0, 0, 0, 0⟩

/-- A channel with an entry of zeros (R482) and no pend. -/
def Chan.zero : Chan := ⟨0, 0, false, 0, 0, 0, false, []⟩

/-- A free park slot of generation 0 (R397). -/
def Park.none : Park := ⟨.free, 0, Ckpt.zero, 0, 0, [], false, false⟩

/-- An unconfigured stream buffer (R221). -/
def SBuf.zero : SBuf := ⟨false, false, false, 0, 0, 0, 0, 0, 0, 0, 0, 0⟩

/-- The stream engine at core reset (R221). -/
def Se.zero : Se := ⟨Vector.replicate 8 SBuf.zero, [], none, false⟩

/-- The matrix engine at core reset (R118). -/
def Mx.zero : Mx :=
  ⟨0, [], [], Vector.replicate 4 0, 0, Vector.replicate 4 0, Vector.replicate 4 0, [], none⟩

/-- A core at core reset (R16). -/
def Core.zero : Core where
  r := Regs.zero
  ctl := Ctl.zero
  pc := 0
  xfer := false
  rep := Rep.idle
  long := []
  act := none
  ck := Ckpt.zero
  buf := []
  rsave := []
  icount := 0
  rerun := false
  mismOnce := false
  chans := Vector.replicate 64 Chan.zero
  rr := 0
  parks := Vector.replicate 4 Park.none
  inter := none
  seat := none
  triggered := false
  seqCnt := []
  ordNext := []
  ordHeld := []
  held := []
  nextEntry := 0
  stopped := false
  frames := []
  tlbi := []
  itlb := []
  dtlb := []
  mtlb := []
  setlb := []
  icache := []
  wrote := []
  doomed := []
  se := Se.zero
  mx := Mx.zero
  vu := ⟨[], none⟩
  bars := []
  capt := none
  engMsg := []

/-- A directory record with no copy (R234). -/
def DirRec.zero : DirRec := ⟨.di, 0, [], none, false, false, false⟩

/-- A cluster that no launch has occupied (R26). -/
def Cluster.zero : Cluster := ⟨0, [], none, none, [], false, 0, 0, 0⟩

/-- A partition entry at reset (R380, R387, R360; QUOTA by log 8). -/
def Part.zero : Part :=
  ⟨0, 0, 0, 0, Vector.replicate 4 0, false, [], 0, 0, false, none, [], none, false, .none, Vector.replicate 4 0⟩

/-- A link direction at reset (R342). -/
def Link.zero : Link := ⟨0, [], 0, [], [], 0, false, false⟩

/-- The meshes with nothing in flight, and slot tables of zeros (R344). -/
def Net.zero : Net := ⟨[], [], [], [], [], [], [], [], 0, 0, [], [], 0, []⟩

/-- A zone at reset (R348, R351). -/
def Zone.zero : Zone := ⟨0, 0, false, 0, 0, 0, .none, 0, false, 0, 0, 0, 0, 0, [], none⟩

/-- The sluice die at reset (R384 to R386, R428): no host link is up, nothing is in the flash (log 6). -/
def Sluice.zero : Sluice :=
  ⟨false, 0, 0, 0, Vector.replicate 2 false, [], [], [], [], [], [], false, 0, false, [], none, none, [], [], false, [], [], [], [],
    none, [], []⟩

/-- The package in reset (R423, log 6): every agent at core reset, memory with nothing listed, no turn waiting. -/
def State.reset : State where
  core := Core.zero
  focus := 0
  others := []
  agenda := []
  now := 0
  moved := []
  deposited := []
  dieBase := Vector.replicate 4 0
  freeCtr := 0
  mem := []
  home := []
  poison := []
  spad := []
  badStore := []
  lstore := []
  clusters := []
  dcaches := []
  parts := []
  tilePart := []
  stlb := []
  wcache := []
  btlb := []
  wire := []
  counts := []
  acks := []
  forms := []
  launches := []
  nextLaunch := 0
  bulks := []
  tickets := []
  dir := []
  tiles := []
  l2 := ⟨[], [], [], 0, []⟩
  snoops := []
  lineOps := []
  net := Net.zero
  zones := []
  sluice := Sluice.zero
  spills := []
  expanders := []
  peers := 0
  ports := Vector.replicate 2 0
  stage := .off

end Sys2Proof.Machine
end

