-- ==== Sys2Proof/Machine/Tables.lean ====
section
/-! DEFINITION. Tables keyed by a number, memories, and the names of cores, clusters and tiles (R13, R14, R87). -/

namespace Sys2Proof.Machine

/-! ### Tables: lists of (key, value) with rising keys -/

/-- The value at a key, or the default. -/
def getAt {α : Type} (d : α) : List (Nat × α) → Nat → α
  | [], _ => d
  | (k, v) :: t, n => if n = k then v else getAt d t n

/-- The value at a key, if listed. -/
def findAt {α : Type} : List (Nat × α) → Nat → Option α
  | [], _ => none
  | (k, v) :: t, n => if n = k then some v else findAt t n

/-- The table with a value set at a key. -/
def setAt {α : Type} : List (Nat × α) → Nat → α → List (Nat × α)
  | [], n, x => [(n, x)]
  | (k, v) :: t, n, x =>
    if n < k then (n, x) :: (k, v) :: t
    else if n = k then (n, x) :: t
    else (k, v) :: setAt t n x

/-- The table without a key. -/
def dropAt {α : Type} (l : List (Nat × α)) (n : Nat) : List (Nat × α) := l.filter (fun e => e.1 != n)

/-! ### Memory (log 1) -/

/-- One byte: an unlisted byte reads as 0 (log 1). -/
def Memory.read : Memory → Nat → Byte
  | [], _ => 0
  | (k, b) :: t, a => if a = k then b else if a < k then 0 else Memory.read t a

/-- Writing one byte; a byte of 0 is not listed. -/
def Memory.write : Memory → Nat → Byte → Memory
  | [], a, b => if b = 0 then [] else [(a, b)]
  | (k, c) :: t, a, b =>
    if a < k then (if b = 0 then (k, c) :: t else (a, b) :: (k, c) :: t)
    else if a = k then (if b = 0 then t else (a, b) :: t)
    else (k, c) :: Memory.write t a b

/-- The canonical form: addresses strictly rising, no byte of 0. -/
def Memory.wf : Memory → Bool
  | [] => true
  | [(_, b)] => b != 0
  | (k, b) :: (k', b') :: t => decide (k < k') && b != 0 && Memory.wf ((k', b') :: t)

/-- Little-endian read of `n` bytes (R6). -/
def Memory.readLE (m : Memory) (a : Nat) : Nat → Nat
  | 0 => 0
  | n + 1 => (m.read a).toNat + 256 * Memory.readLE m (a + 1) n

/-- Little-endian write of `n` bytes (R6). -/
def Memory.writeLE (m : Memory) (a : Nat) : Nat → Nat → Memory
  | 0, _ => m
  | n + 1, v => Memory.writeLE (m.write a (BitVec.ofNat 8 v)) (a + 1) n (v / 256)

/-- Little-endian write of the bytes among `n` whose mask bit is set. -/
def Memory.writeMask (m : Memory) (a : Nat) : Nat → Nat → Nat → Memory
  | 0, _, _ => m
  | n + 1, mask, v =>
    Memory.writeMask (if mask % 2 = 1 then m.write a (BitVec.ofNat 8 v) else m) (a + 1) n (mask / 2) (v / 256)

/-- A doubleword read. -/
def Memory.read64 (m : Memory) (a : Nat) : Word := BitVec.ofNat 64 (m.readLE a 8)

/-- `n` doublewords from an address. -/
def Memory.readDws (m : Memory) (a : Nat) : Nat → List Word
  | 0 => []
  | n + 1 => m.read64 a :: Memory.readDws m (a + 8) n

/-! ### Names (R13, R14, R87, R278) -/

/-- Whether a SID names a service core (R87: bit 12). -/
def isSvc (sid : Nat) : Bool := decide (sid / 4096 = 1)
/-- The polder die of an agent. -/
def dieOf (sid : Nat) : Nat := if isSvc sid then sid % 4096 / 32 else sid / 1024
/-- Column x and row y of a small core. -/
def xOf (sid : Nat) : Nat := sid % 32
/-- Row y of a small core. -/
def yOf (sid : Nat) : Nat := sid / 32 % 32
/-- Core id from die, x and y (R13). -/
def coreId (d x y : Nat) : Nat := d * 1024 + y * 32 + x
/-- Tile form (d << 5) OR (ty << 2) OR tx of an agent (R278). -/
def tileOf (sid : Nat) : Nat :=
  if isSvc sid then sid % 4096 else (dieOf sid) * 32 + (yOf sid / 4) * 4 + xOf sid / 8
/-- SID of a tile's service core (R87). -/
def svcOf (tile : Nat) : Nat := 4096 + tile
/-- The south-west core of a tile (R278). -/
def swCore (tile : Nat) : Nat := coreId (tile / 32) (tile % 4 * 8) (tile / 4 % 8 * 4)
/-- The number of a small core's cluster: (d, cx, cy) as d·256 + cy·16 + cx (R13). -/
def clusterOf (sid : Nat) : Nat := dieOf sid * 256 + (yOf sid / 2) * 16 + xOf sid / 2
/-- The tile form of a cluster. -/
def tileOfCluster (c : Nat) : Nat := c / 256 * 32 + (c / 16 % 16 / 2) * 4 + c % 16 / 4
/-- The coolant zone of a tile (R13). -/
def zoneOfTile (t : Nat) : Nat := t / 32 * 8 + (t / 4 % 8 / 2) * 2 + t % 4 / 2
/-- The core id an agent's messages carry as SRC (R278). -/
def srcId (sid : Nat) : Nat := if isSvc sid then swCore (tileOf sid) else sid

/-! ### Agents, clusters, partitions -/

/-- The record of an agent. -/
def State.coreAt (s : State) (sid : Nat) : Core :=
  if sid = s.focus then s.core else getAt Core.zero s.others sid

/-- The state with an agent's record replaced. -/
def State.setCore (s : State) (sid : Nat) (c : Core) : State :=
  if sid = s.focus then { s with core := c } else { s with others := setAt s.others sid c }

/-- The state with another agent in focus (log 2). -/
def State.focusOn (s : State) (sid : Nat) : State :=
  if sid = s.focus then s
  else { s with core := s.coreAt sid, focus := sid, others := dropAt (setAt s.others s.focus s.core) sid }

/-- A cluster's record. -/
def State.cluster (s : State) (c : Nat) : Cluster := getAt Cluster.zero s.clusters c

/-- The state with a cluster's record replaced. -/
def State.setCluster (s : State) (c : Nat) (x : Cluster) : State := { s with clusters := setAt s.clusters c x }

/-- A partition's record. -/
def State.part (s : State) (p : Nat) : Part := getAt Part.zero s.parts p

/-- The state with a partition's record replaced. -/
def State.setPart (s : State) (p : Nat) (x : Part) : State := { s with parts := setAt s.parts p x }

/-- The partition of a tile (R379). -/
def State.partOfTile (s : State) (t : Nat) : Option Nat := findAt s.tilePart t

/-- The partition of an agent; a tile of no partition reads as partition 0 in PID (log 12). -/
def State.partOf (s : State) (sid : Nat) : Nat := (s.partOfTile (tileOf sid)).getD 0

/-- Whether the agent in focus is a service core. -/
def State.svc (s : State) : Bool := isSvc s.focus

/-- Whether a polder die runs: in B3, or die 0 in B1 (R426, R427), neither in reset nor coming up after one (R422). -/
def State.dieRuns (s : State) (d : Nat) : Bool :=
  (decide (s.stage = .b3) || (decide (s.stage = .b1) && decide (d = 0))) && (findAt s.sluice.dieReset d).isNone && (findAt s.sluice.primes d).isNone

/-- The privileged state (R402): every service core, no small core. -/
def State.priv (s : State) : Bool := s.svc

/-! ### Poison (R202, R259, R414, R415) -/

/-- Whether one of `n` bytes at a physical address is poisoned. -/
def State.poisoned (s : State) (pa n : Nat) : Bool :=
  !s.poison.isEmpty && (List.range n).any fun i => (getAt 0 s.poison ((pa + i) / 128)).getLsbD ((pa + i) % 128)

/-- A whole line poisoned. -/
def State.poisonLine (s : State) (line : Nat) : State := { s with poison := setAt s.poison line (BitVec.allOnes 128) }

/-- The poison of one byte lifted by a write that replaces it whole. -/
def liftByte (l : List (Nat × BitVec 128)) (a : Nat) : List (Nat × BitVec 128) :=
  match findAt l (a / 128) with
  | none => l
  | some m =>
    let m' := m &&& ~~~(BitVec.ofNat 128 (2 ^ (a % 128)))
    if m' = 0 then dropAt l (a / 128) else setAt l (a / 128) m'

/-- The poison lifted from the bytes a masked write of `n` bytes replaces (R259). -/
def State.liftPoison (s : State) (pa n mask : Nat) : State :=
  if s.poison.isEmpty then s
  else { s with poison := (List.range n).foldl (fun l i => if mask / 2 ^ i % 2 = 1 then liftByte l (pa + i) else l) s.poison }

/-- Whether one of `n` bytes of a cluster store is poisoned (R413). -/
def State.storeBad (s : State) (a n : Nat) : Bool := s.badStore.any fun k => decide (a ≤ k ∧ k < a + n)

/-- The poison lifted from those among `n` bytes of a cluster store that a write has replaced whole. -/
def State.healStore (s : State) (a n : Nat) (whole : Nat → Bool) : State :=
  { s with badStore := s.badStore.filter fun k => !(decide (a ≤ k ∧ k < a + n) && whole (k - a)) }

/-- A masked write of `n` bytes of a cluster store. -/
def State.putStore (s : State) (a n mask v : Nat) : State :=
  ({ s with spad := s.spad.writeMask a n mask v } : State).healStore a n mask.testBit

/-- A write of `n` whole bytes of a cluster store. -/
def State.putWhole (s : State) (a n v : Nat) : State :=
  ({ s with spad := s.spad.writeLE a n v } : State).healStore a n fun _ => true

/-! ### Small vectors -/

/-- Slot n. -/
def Regs.slot (r : Regs) (n : BitVec 5) : Word := r.m[n.toNat]'n.isLt
/-- Pointer register p. -/
def Regs.ptr (r : Regs) (n : BitVec 3) : Word := r.p[n.toNat]'n.isLt
/-- Mask register k. -/
def Regs.mask (r : Regs) (n : BitVec 2) : Word := r.k[n.toNat]'n.isLt
/-- Vector register VA. -/
def Regs.vec (r : Regs) (n : BitVec 2) : Vec := r.va[n.toNat]'n.isLt
/-- Channel c's state. -/
def Core.chan (c : Core) (n : BitVec 6) : Chan := c.chans[n.toNat]'n.isLt
/-- Park slot. -/
def Core.park (c : Core) (n : BitVec 2) : Park := c.parks[n.toNat]'n.isLt

end Sys2Proof.Machine
end

