-- ==== Sys2Proof/Machine/Directory.lean ====
section
/-! DEFINITION. The caches that the directory tracks, directory records (R234 to R236), declared tiles (R238 to R241), host
copies (R253) and homes (R233, R359). -/

namespace Sys2Proof.Machine

/-- The 128-byte line of a physical address. -/
def lineOf (pa : Nat) : Nat := pa / 128

/-! ### Homes (R233, R359) -/

/-- H(q): the sum of six 4-bit digits. -/
def digitSum (q : Nat) : Nat := (List.range 6).foldl (fun a i => a + q / 16 ^ i % 16) 0

/-- The dike die of a frame of a pool interleaved over `n` dies. -/
def frameDie (n f : Nat) : Nat := (f % n + digitSum (f / n)) % n

/-- The stack offset of the frame that holds an HBM address: the local pools lie above the 32 GiB of the global pool; a frame
elsewhere has none (R359). -/
def stackOffset (pa : Nat) : Option Nat :=
  if pa < 0x6000000000 then some (pa / 4096 / 12 * 4096)
  else if 0x8000000000 ≤ pa ∧ pa < 0x10000000000 then some (0x800000000 + (pa - 0x8000000000) % 0x2000000000 / 4096 / 3 * 4096)
  else none

/-- The dike die that is home to a line (R233, R359). -/
def homeOfLine (line : Nat) : Nat :=
  let pa := line * 128
  if pa < 0x6000000000 then frameDie 12 (pa / 4096)
  else if pa < 0x1000000000000 then
    let d := (pa - 0x8000000000) / 0x2000000000 % 4
    3 * d + frameDie 3 ((pa - 0x8000000000) % 0x2000000000 / 4096)
  else if pa < 0x2000000000000 then frameDie 12 ((pa - 0x1000000000000) % 0x10000000000 / 4096)
  else line % 12

/-- A line of this package's HBM or of an expander: one that an L2 slice can hold with its home as memory. -/
def deviceLine (line : Nat) : Bool := decide (line * 128 < 0x2000000000000)

/-! ### Caches (R233)

A cache is named by its cluster's number, or by 1024 + t for the data cache of the service core of tile t. -/

/-- The data cache of the service core of a tile (R28, R233; log 34). -/
def svcCache (tile : Nat) : Nat := 1024 + tile

/-- The cluster by which the directory names a cache: a service core's is its tile's lower-left cluster. -/
def dirName (k : Nat) : Nat := if k < 1024 then k else clusterOf (swCore (k - 1024))

/-- The lines of a cache with their states. -/
def State.cacheLines (s : State) (k : Nat) : List (Nat × Moesi) :=
  if k < 1024 then (s.cluster k).l1 else getAt [] s.dcaches (k - 1024)

/-- The state of a line in a cache. -/
def State.l1At (s : State) (k line : Nat) : Option Moesi := findAt (s.cacheLines k) line

/-- A cluster whose interface takes a line for one of its caches is not power-gated (R256). -/
def State.wake (s : State) (cl : Nat) : State :=
  if (s.cluster cl).gated then s.setCluster cl { s.cluster cl with gated := false } else s

/-- The lines of a cache replaced; `takes` marks that it takes a line. -/
def State.setCache (s : State) (k : Nat) (l : List (Nat × Moesi)) (takes : Bool) : State :=
  let s1 := if takes then s.wake (dirName k) else s
  if k < 1024 then s1.setCluster k { s1.cluster k with l1 := l }
  else { s1 with dcaches := setAt s1.dcaches (k - 1024) l }

/-- The state of a line set or removed in a cache. -/
def State.setL1 (s : State) (k line : Nat) (st : Option Moesi) : State :=
  match st with
  | some x => s.setCache k (setAt (s.cacheLines k) line x) true
  | none => s.setCache k (dropAt (s.cacheLines k) line) false

/-- The caches that hold a line. -/
def State.holders (s : State) (line : Nat) : List Nat :=
  ((s.clusters.filter fun e => (findAt e.2.l1 line).isSome).map (·.1)) ++
    ((s.dcaches.filter fun e => (findAt e.2 line).isSome).map fun e => svcCache e.1)

/-- Whether a cache holds a line dirty (M or O). -/
def State.dirtyIn (s : State) (k line : Nat) : Bool := s.l1At k line == some .m || s.l1At k line == some .o

/-- Whether some cache holds the line dirty. -/
def State.lineDirty (s : State) (line : Nat) : Bool := (s.holders line).any fun k => s.dirtyIn k line

/-- The other caches of a cache's directory name that hold a line: its interface settles between the two (R233). -/
def State.mates (s : State) (k line : Nat) : List Nat :=
  (s.holders line).filter fun j => decide (j ≠ k ∧ dirName j = dirName k)

/-- Copying `n` bytes from one memory to another. -/
def copyBytes (src dst : Memory) (a : Nat) : Nat → Memory
  | 0 => dst
  | n + 1 => copyBytes src (dst.write a (src.read a)) (a + 1) n

/-! ### Directory records (R234 to R236) -/

/-- The directory record of a line. -/
def State.dirRec (s : State) (line : Nat) : DirRec := getAt DirRec.zero s.dir line

/-- A directory record replaced. -/
def State.setDir (s : State) (line : Nat) (r : DirRec) : State :=
  { s with dir := if r = DirRec.zero then dropAt s.dir line else setAt s.dir line r }

/-- The bit of a cluster in the coarse vector (R235): blocks of 4 × 4 clusters. -/
def coarseBit (cl : Nat) : Nat := 16 * (cl / 256) + 4 * (cl / 16 % 16 / 4) + cl % 16 / 4

/-- A sharer recorded: exact up to four, the coarse vector from the fifth on (R235). -/
def DirRec.addSharer (r : DirRec) (cl : Nat) : DirRec :=
  match r.coarse with
  | some v => { r with coarse := some (v ||| BitVec.ofNat 64 (2 ^ coarseBit cl)) }
  | none =>
    if r.exact.contains cl then r
    else if r.exact.length < 4 then { r with exact := r.exact ++ [cl] }
    else { r with
      exact := []
      coarse := some ((r.exact ++ [cl]).foldl (fun v c => v ||| BitVec.ofNat 64 (2 ^ coarseBit c)) 0) }

/-- Whether a record names a cluster as a sharer. -/
def DirRec.names (r : DirRec) (cl : Nat) : Bool :=
  r.exact.contains cl || (match r.coarse with | some v => v.getLsbD (coarseBit cl) | none => false)

/-- No cluster copy. -/
def DirRec.empty (r : DirRec) : DirRec := { r with st := .di, owner := 0, exact := [], coarse := none }

/-- One owner. -/
def DirRec.own (r : DirRec) (cl : Nat) : DirRec := { r with st := .dx, owner := cl, exact := [], coarse := none }

/-- A read shared by a cluster (R236); `dirty` says whether the owner holds the line dirty. -/
def DirRec.share (r : DirRec) (cl : Nat) (dirty : Bool) : DirRec :=
  match r.st with
  | .di => if r.h0 || r.h1 then { r with st := .ds, exact := [cl], coarse := none } else r.own cl
  | .ds => r.addSharer cl
  | .dx =>
    if r.owner = cl then r
    else if dirty then { r with st := .dd, exact := [cl], coarse := none }
    else { r with st := .ds, owner := 0, exact := [r.owner, cl], coarse := none }
  | .dd =>
    if r.owner = cl then r
    else if dirty then r.addSharer cl
    else { (r.addSharer r.owner).addSharer cl with st := .ds, owner := 0 }

/-- A cluster leaves a record by a write-back or an eviction notice (R235, R236). -/
def DirRec.leave (r : DirRec) (cl : Nat) : DirRec :=
  let none? := r.coarse.isNone && r.exact.isEmpty
  if (r.st = .dx ∨ r.st = .dd) ∧ r.owner = cl then
    (if none? then r.empty else { r with st := .ds, owner := 0 })
  else if r.coarse.isSome then r
  else
    let e := r.exact.filter (· ≠ cl)
    if r.st = .ds ∧ e.isEmpty then r.empty else { r with exact := e }

/-- The owner's dirty copy has been cleaned where it is (R219, CLWB). -/
def DirRec.clean (r : DirRec) : DirRec :=
  match r.st with
  | .dd => { r.addSharer r.owner with st := .ds, owner := 0 }
  | _ => r

/-- The owner has been downgraded for a reader that takes no copy (R236, R241). -/
def DirRec.lower (r : DirRec) (dirty : Bool) : DirRec :=
  if r.st = .dx then
    (if dirty then { r with st := .dd } else { r with st := .ds, owner := 0, exact := [r.owner], coarse := none })
  else r

/-- Every copy is clean and shared. -/
def DirRec.shared (r : DirRec) : DirRec :=
  match r.st with
  | .dx => { r with st := .ds, owner := 0, exact := [r.owner], coarse := none }
  | .dd => { r.addSharer r.owner with st := .ds, owner := 0 }
  | _ => r

/-! ### Declared tiles (R216, R238 to R241) -/

/-- The declared tile a line lies in. -/
def State.tileAt (s : State) (line : Nat) : Option Tile := s.tiles.find? fun t => t.lines.contains line

/-- T and the tile reference of a line's record (R234, R239): the slice and the index of its tile's entry. -/
def State.tileRef (s : State) (line : Nat) : Option (Nat × Nat) := (s.tileAt line).map fun t => (homeOfLine t.base, t.slot)

/-- The first free index among the tile entries of a slice (R216: 16,384 entries). -/
def State.freeSlot (s : State) (slice : Nat) : Option Nat :=
  (List.range 16384).find? fun i => !(s.tiles.any fun t => decide (homeOfLine t.base = slice ∧ t.slot = i))

/-- The lines that move as one unit with a line: its declared tile's, or itself (R240, R241). -/
def State.unitOf (s : State) (line : Nat) : List Nat :=
  match s.tileAt line with
  | some t => t.lines
  | none => [line]

/-- The tile at whose granule a cache's request for a line is made: that of its own partition, and no service core's (R238). -/
def State.tileGrain (s : State) (k line : Nat) : Option Tile :=
  match s.tileAt line with
  | some t => if k < 1024 ∧ s.partOfTile (tileOfCluster k) = some t.part then some t else none
  | none => none

/-- Whether a cache's request for a line is a line-granule request for a tile's line (R238). It is served without a copy
(log 54). -/
def State.foreign (s : State) (k line : Nat) : Bool := (s.tileAt line).isSome && (s.tileGrain k line).isNone

/-- A tile entry replaced. -/
def State.setTile (s : State) (t : Tile) : State :=
  { s with tiles := s.tiles.map fun x => if x.base = t.base then t else x }

/-- The tile entry of a line updated, if the line lies in a tile. -/
def State.updTile (s : State) (line : Nat) (f : DirRec → DirRec) : State :=
  match s.tileAt line with
  | some t => s.setTile { t with dir := f t.dir }
  | none => s

/-- The record that covers a line's copies updated: its tile's entry, or its own record (R234, R240). -/
def State.updDir (s : State) (line : Nat) (f : DirRec → DirRec) : State :=
  if (s.tileAt line).isSome then s.updTile line f else s.setDir line (f (s.dirRec line))

/-- A line's record takes its tile's state, owner and sharers; its host bits stay (R241). -/
def DirRec.fromTile (r d : DirRec) : DirRec := { d with h0 := r.h0, h1 := r.h1, hx := r.hx }

/-! ### Hosts (R253) -/

/-- Whether hosts cache a line. -/
def State.hostHas (s : State) (line : Nat) : Bool := (s.dirRec line).h0 || (s.dirRec line).h1

/-- A port's bit of a record. -/
def DirRec.hostBit (r : DirRec) (port : Nat) : Bool := if port = 0 then r.h0 else r.h1

/-- A port's bit set. -/
def DirRec.setHost (r : DirRec) (port : Nat) (b : Bool) : DirRec := if port = 0 then { r with h0 := b } else { r with h1 := b }

/-- Whether a line's transaction is open: hosts owe answers (R237, R253). -/
def State.snooped (s : State) (line : Nat) : Bool := s.snoops.any fun x => decide (x.line = line)

/-- Whether a request for a line must wait for hosts: while a transaction is open, before a device write to a line that hosts
cache (`inv`), and before a read of a line that a host holds exclusive (R253). -/
def State.hostStop (s : State) (line : Nat) (inv : Bool) : Bool :=
  s.snooped line || (if inv then s.hostHas line else (s.dirRec line).hx)

/-- The first line of several requests that must wait for hosts. -/
def State.hostBlock (s : State) (l : List (Nat × Bool)) : Option (Nat × Bool) := l.find? fun x => s.hostStop x.1 x.2

/-- The back-invalidate of a line sent to the ports that cache it, all but one that asks itself (R253). -/
def State.snoopBut (s : State) (skip : Option Nat) (line : Nat) (inv : Bool) (who : Asker) : State :=
  let ports := [0, 1].filter fun h => (s.dirRec line).hostBit h && decide (some h ≠ skip)
  if s.snooped line || ports.isEmpty then s else { s with snoops := s.snoops ++ [⟨line, ports, ports, inv, who⟩] }

/-- The back-invalidate of a line sent to every port that caches it (R253). -/
def State.startSnoop (s : State) (line : Nat) (inv : Bool) (who : Asker) : State := s.snoopBut none line inv who

/-- A record after the last BIRsp of a snoop (R253). -/
def DirRec.answered (r : DirRec) (x : Snoop) : DirRec :=
  if x.inv then { x.asked.foldl (fun q h => q.setHost h false) r with hx := false } else { r with hx := false }

/-- The lines of a unit whose write-back hosts must be asked for first (R253). -/
def State.unitStops (s : State) (line : Nat) : List (Nat × Bool) :=
  ((s.unitOf line).filter fun l => s.lineDirty l || s.snooped l).map fun l => (l, true)

end Sys2Proof.Machine
end

