-- ==== Sys2Proof/Machine/Keccak.lean ====
section
/-! DEFINITION. The Keccak functions the spec names: KMAC128 (R244) and SHAKE256 (R425, R429), on bytes. -/

namespace Sys2Proof.Machine

/-- Rotation offsets of rho, lane x + 5y. -/
def keccakRot : List Nat :=
  [0, 1, 62, 28, 27, 36, 44, 6, 55, 20, 3, 10, 43, 25, 39, 41, 45, 15, 21, 8, 18, 2, 61, 56, 14]

/-- Round constants of iota. -/
def keccakRc : List Word :=
  [0x1, 0x8082, 0x800000000000808a, 0x8000000080008000,
   0x808b, 0x80000001, 0x8000000080008081, 0x8000000000008009,
   0x8a, 0x88, 0x80008009, 0x8000000a,
   0x8000808b, 0x800000000000008b, 0x8000000000008089, 0x8000000000008003,
   0x8000000000008002, 0x8000000000000080, 0x800a, 0x800000008000000a,
   0x8000000080008081, 0x8000000000008080, 0x80000001, 0x8000000080008008]

/-- Lane (x, y) of a state of 25 lanes. -/
def lane (a : List Word) (x y : Nat) : Word := a.getD (x % 5 + 5 * (y % 5)) 0

/-- One round of Keccak-f[1600]. -/
def keccakRound (a : List Word) (rc : Word) : List Word :=
  let c := (List.range 5).map fun x => lane a x 0 ^^^ lane a x 1 ^^^ lane a x 2 ^^^ lane a x 3 ^^^ lane a x 4
  let d := (List.range 5).map fun x => c.getD ((x + 4) % 5) 0 ^^^ (c.getD ((x + 1) % 5) 0).rotateLeft 1
  let t := (List.range 25).map fun i => (a.getD i 0) ^^^ (d.getD (i % 5) 0)
  let b := (List.range 25).map fun i =>
    -- lane (x, y) of b comes from lane (x + 3y, x) of t
    let x := i % 5
    let y := i / 5
    let j := (x + 3 * y) % 5 + 5 * x
    (t.getD j 0).rotateLeft (keccakRot.getD j 0)
  let e := (List.range 25).map fun i =>
    let x := i % 5
    let y := i / 5
    lane b x y ^^^ (~~~(lane b (x + 1) y) &&& lane b (x + 2) y)
  match e with
  | [] => []
  | h :: r => (h ^^^ rc) :: r

/-- Keccak-f[1600]. -/
def keccakF (a : List Word) : List Word := keccakRc.foldl keccakRound a

/-- The little-endian doubleword of up to eight bytes. -/
def bytesWord (l : List Byte) : Word := BitVec.ofNat 64 (l.foldr (fun b acc => b.toNat + 256 * acc) 0)

/-- The eight bytes of a doubleword, lowest first. -/
def wordBytes (w : Word) : List Byte := (List.range 8).map fun i => w.extractLsb' (8 * i) 8

/-- A block of `rate` bytes absorbed. -/
def absorbBlock (rate : Nat) (a : List Word) (block : List Byte) : List Word :=
  keccakF ((List.range 25).map fun i =>
    if i < rate / 8 then a.getD i 0 ^^^ bytesWord ((block.drop (8 * i)).take 8) else a.getD i 0)

/-- Blocks absorbed in turn. -/
def absorb (rate : Nat) (a : List Word) (msg : List Byte) : Nat → List Word
  | 0 => a
  | n + 1 => absorb rate (absorbBlock rate a (msg.take rate)) (msg.drop rate) n

/-- The message padded to whole blocks: the suffix bits and the final 1. -/
def keccakPad (rate : Nat) (suffix : Byte) (msg : List Byte) : List Byte :=
  let z := rate - 1 - msg.length % rate
  if z = 0 then msg ++ [suffix ||| 0x80] else msg ++ [suffix] ++ List.replicate (z - 1) 0 ++ [0x80]

/-- The first `n` output bytes, n at most the rate. -/
def keccak (rate : Nat) (suffix : Byte) (msg : List Byte) (n : Nat) : List Byte :=
  let p := keccakPad rate suffix msg
  ((absorb rate (List.replicate 25 0) p (p.length / rate)).flatMap wordBytes).take n

/-- SHAKE256 (FIPS 202), at most 136 bytes. -/
def shake256 (msg : List Byte) (n : Nat) : List Byte := keccak 136 0x1F msg n

/-- The bytes of a number, most significant first, at least one. -/
def beBytes (n : Nat) : List Byte :=
  let l := (List.range 8).map fun i => BitVec.ofNat 8 (n / 256 ^ (7 - i))
  match l.dropWhile (· == 0) with
  | [] => [0]
  | t => t

/-- left_encode of SP 800-185. -/
def leftEncode (n : Nat) : List Byte := BitVec.ofNat 8 (beBytes n).length :: beBytes n

/-- right_encode. -/
def rightEncode (n : Nat) : List Byte := beBytes n ++ [BitVec.ofNat 8 (beBytes n).length]

/-- encode_string. -/
def encodeString (l : List Byte) : List Byte := leftEncode (8 * l.length) ++ l

/-- bytepad. -/
def bytepad (w : Nat) (l : List Byte) : List Byte :=
  let z := leftEncode w ++ l
  z ++ List.replicate ((w - z.length % w) % w) 0

/-- KMAC128 with an empty customisation string (R244), `n` output bytes. -/
def kmac128 (key msg : List Byte) (n : Nat) : List Byte :=
  keccak 168 0x04
    (bytepad 168 (encodeString [0x4B, 0x4D, 0x41, 0x43] ++ encodeString []) ++
      bytepad 168 (encodeString key) ++ msg ++ rightEncode (8 * n)) n

end Sys2Proof.Machine
end

