-- ==== Sys2Proof/Machine/L2.lean ====
section
/-! DEFINITION. The deduplicating L2 (R242 to R251): tags, data entries, hashes, candidates, quotas and counters. None of it
changes a value (R186). -/

namespace Sys2Proof.Machine

/-! ### Domains, quotas, counters -/

/-- The dedup domain of a partition (R380: DOM). -/
def State.domOf (s : State) (p : Nat) : Nat := ((s.part p).pmap.extractLsb' 53 8).toNat

/-- The domain's key (R244; log 22). -/
def State.domKey (s : State) (d : Nat) : BitVec 256 := Config.domainKey (d * 4294967296 + getAt 0 s.l2.draws d)

/-- A new key drawn for a domain (R244). -/
def State.redraw (s : State) (d : Nat) : State :=
  { s with l2 := { s.l2 with draws := setAt s.l2.draws d (getAt 0 s.l2.draws d + 1) } }

/-- Tag quota per slice of a partition (R384). -/
def State.tagQuota (s : State) (p : Nat) : Nat := ((s.part p).quota.extractLsb' 0 32).toNat
/-- Data-entry quota per slice of a partition. -/
def State.dataQuota (s : State) (p : Nat) : Nat := ((s.part p).quota.extractLsb' 32 32).toNat

/-- One of SHARES, UNSHARES, COLLS, SATUR counted (R250). -/
def State.countDedup (s : State) (p : Nat) (i : Fin 4) : State :=
  let x := s.part p
  s.setPart p { x with dedup := x.dedup.set i.val (x.dedup[i.val] + 1) }

/-- The bytes of a line at its home. -/
def State.homeLine (s : State) (line : Nat) : BitVec 1024 := BitVec.ofNat 1024 (s.home.readLE (line * 128) 128)

/-- The bytes of a bit vector, lowest first. -/
def bytesOf (w : Nat) (v : Nat) : List Byte := (List.range w).map fun i => BitVec.ofNat 8 (v / 256 ^ i)

/-- The hash of a content under a domain's key (R244). -/
def State.hashOf (s : State) (d : Nat) (data : BitVec 1024) : BitVec 64 :=
  bytesWord (kmac128 (bytesOf 32 (s.domKey d).toNat) (bytesOf 128 data.toNat) 8)

/-- Whether a cached translation of a partition maps a line through a leaf with the dedup-eligible bit (R243). -/
def State.ddOf (s : State) (p line : Nat) : Bool :=
  s.stlb.any fun e =>
    let base := (e.2.leaf.extractLsb' 12 40).toNat * 4096
    let base' := if e.2.leaf.getLsbD 56 then base / 65536 * 65536 else base
    decide (e.2.part = p ∧ base' ≤ line * 128 ∧ line * 128 < base' + e.2.size) && e.2.leaf.getLsbD 55

/-! ### Tags and entries -/

/-- The tag of a line. -/
def State.tagOf (s : State) (line : Nat) : Option L2Tag := s.l2.tags.find? fun t => decide (t.line = line)

/-- A data entry. -/
def State.entOf (s : State) (e : Nat) : Option L2Ent := s.l2.ents.find? fun x => decide (x.id = e)

/-- The tag of a line replaced by a newest one, or removed. -/
def State.putTag (s : State) (line : Nat) (t : Option L2Tag) : State :=
  let rest := s.l2.tags.filter fun x => decide (x.line ≠ line)
  { s with l2 := { s.l2 with tags := match t with | some x => x :: rest | none => rest } }

/-- A data entry's reference count changed; freed at 0, with its place among the candidates (R245). -/
def State.bumpEnt (s : State) (e : Nat) (f : Nat → Nat) : State :=
  let ents := (s.l2.ents.map fun x => if x.id = e then { x with count := f x.count } else x).filter fun x => decide (x.count ≠ 0)
  let gone := !(ents.any fun x => decide (x.id = e))
  { s with l2 := { s.l2 with
      ents := ents
      cands := if gone then s.l2.cands.map fun b => (b.1, b.2.filter (· ≠ e)) else s.l2.cands } }

/-- Release of what a tag holds. -/
def State.release (s : State) (t : L2Tag) : State :=
  match t.ent with
  | some e => s.bumpEnt e (· - 1)
  | none => s

/-- The bucket of a hash in a slice. -/
def bucketOf (slice : Nat) (h : BitVec 64) : Nat := slice * 262144 + h.toNat % 262144

/-- An entry put among the candidates of its bucket of four; which one it displaces is free. -/
def State.addCand (s : State) (slice : Nat) (h : BitVec 64) (e : Nat) : State :=
  let k := bucketOf slice h
  let b := (getAt [] s.l2.cands k).filter (· ≠ e)
  let n := (Config.freeWord s.freeCtr).toNat % 4
  let b' := if b.length < 4 then b ++ [e] else (b.take n ++ b.drop (n + 1)) ++ [e]
  { s with freeCtr := s.freeCtr + 1, l2 := { s.l2 with cands := setAt s.l2.cands k b' } }

/-- Candidates of a content: those of its domain and hash. -/
def State.candsOf (s : State) (slice dom : Nat) (h : BitVec 64) : List L2Ent :=
  (getAt [] s.l2.cands (bucketOf slice h)).filterMap fun e =>
    match s.entOf e with
    | some x => if x.dom = dom ∧ x.hash = h then some x else none
    | none => none

/-- A partition's tags in a slice. -/
def State.tagsIn (s : State) (slice p : Nat) : List L2Tag :=
  s.l2.tags.filter fun t => decide (t.slice = slice ∧ t.part = p)

/-- A partition's data entries in a slice: one for each tag that holds one, shared entries counted once. -/
def State.dataIn (s : State) (slice p : Nat) : Nat :=
  (((s.tagsIn slice p).filterMap (·.ent)).eraseDups).length

/-- A line's copies leave with its tag: a line without one is DI, no host caches it (R234). Dirty data reaches its memory, a
full-line write-back that clears poison (R259). The entry of a declared tile stays (R239). -/
def State.dropCopies (s : State) (line : Nat) : State :=
  let s1 : State := if s.lineDirty line then
      { s with home := copyBytes s.mem s.home (line * 128) 128, poison := dropAt s.poison line } else s
  let s2 := (s1.holders line).foldl (fun t k => t.setL1 k line none) s1
  s2.setDir line DirRec.zero

/-- Eviction of a tag (R245): released, with the line's copies (R234); its memory is up to date at the home. A poisoned tag writes
poison, where no dirty copy is newer than it (R248). -/
def State.evictTag (s : State) (line : Nat) : State :=
  match s.tagOf line with
  | some t =>
    let s1 := if t.bad && !s.lineDirty line then s.poisonLine line else s
    ((s1.release t).putTag line none).dropCopies line
  | none => s

/-- A tag's set in its slice: one of 131,072 (R242); which one is free (log 22). -/
def setOf (line : Nat) : Nat := Config.l2Set line % 131072

/-- The tags of a line's set in a slice. -/
def State.setTags (s : State) (slice line : Nat) : List L2Tag :=
  s.l2.tags.filter fun t => decide (t.slice = slice ∧ setOf t.line = setOf line)

/-- Whether a new tag of a partition needs another's place: its set is full, or the partition is at its quota (R242, R247). -/
def State.setFull (s : State) (slice p line : Nat) : Bool :=
  decide (16 ≤ (s.setTags slice line).length) || decide (s.tagQuota p ≤ (s.tagsIn slice p).length)

/-- The least recently used tag of a partition in a line's set (R247). -/
def State.lruTag (s : State) (slice p line : Nat) : Option L2Tag :=
  if s.tagQuota p = 0 then none else ((s.setTags slice line).filter fun t => decide (t.part = p)).getLast?

/-- A place for a new tag of a partition (R247): none when nothing of the partition's own can leave the full set, or while hosts
have not answered for the line that is to leave (`roomStops`). -/
def State.makeRoom (s : State) (slice p line : Nat) : Option State :=
  if !s.setFull slice p line then some s
  else
    match s.lruTag slice p line with
    | some v => if s.hostStop v.line true then none else some (s.evictTag v.line)
    | none => none

/-- The host answers that making a tag for a line of a partition needs first (R234, R253): for the line whose tag leaves. -/
def State.roomStops (s : State) (p line : Nat) : List (Nat × Bool) :=
  if (s.tagOf line).isSome || !s.setFull (homeOfLine line) p line then []
  else ((s.lruTag (homeOfLine line) p line).map fun v => (v.line, true)).toList

/-- Whether a partition may take another data entry in a slice (R242, R247). -/
def State.dataRoom (s : State) (slice p : Nat) : Bool :=
  decide (s.dataIn slice p < s.dataQuota p) &&
  decide ((s.l2.ents.filter fun e => decide (e.slice = slice)).length < 1048576)

/-- A new data entry with count 1, entered in its bucket when it may be shared. -/
def State.newEnt (s : State) (slice dom : Nat) (data : BitVec 1024) (elig : Bool) : State × Nat :=
  let h := if elig then s.hashOf dom data else 0
  let id := s.l2.next
  let s1 := { s with l2 := { s.l2 with ents := s.l2.ents ++ [⟨slice, id, h, 1, dom, data⟩], next := id + 1 } }
  (if elig then s1.addCand slice h id else s1, id)

/-- The content of an entry written in place (R245). -/
def State.rewriteEnt (s : State) (slice dom e : Nat) (data : BitVec 1024) (elig : Bool) : State :=
  let h := if elig then s.hashOf dom data else 0
  let s1 := { s with l2 := { s.l2 with
    ents := s.l2.ents.map fun x => if x.id = e then { x with data := data, hash := h } else x
    cands := s.l2.cands.map fun b => (b.1, b.2.filter (· ≠ e)) } }
  if elig then s1.addCand slice h e else s1

/-- Whether a tag is PRIV: it holds an entry of count 1. -/
def State.tagPriv (s : State) (t : L2Tag) : Bool :=
  match t.ent with
  | some e => (match s.entOf e with | some x => decide (x.count = 1) | none => false)
  | none => false

/-- Whether a tag is SHR. -/
def State.tagShr (s : State) (t : L2Tag) : Bool := t.ent.isSome && !s.tagPriv t

/-- A number of collisions counted (R244: each candidate of an equal hash and unequal bytes). -/
def State.countColls (s : State) (p : Nat) : Nat → State
  | 0 => s
  | n + 1 => (s.countDedup p 2).countColls p n

/-- The saturated entries among some candidates leave their bucket (R246). -/
def State.dropFull (s : State) (cs : List L2Ent) : State :=
  { s with l2 := { s.l2 with
      cands := s.l2.cands.map fun b => (b.1, b.2.filter fun e => !(cs.any fun x => decide (x.id = e ∧ 4095 ≤ x.count))) } }

/-- The content of a tag after a fill or a full-line write-back (R245, R246); `wb` marks a write-back. A fresh entry, or a
private one written anew, takes the place of a saturated match. A tag whose own entry holds the content has it as its match:
the count stays and a share is counted (log 84). -/
def State.placeLine (s : State) (t : L2Tag) (wb : Bool) : State :=
  let data := s.homeLine t.line
  let t1 := { t with dirty := wb, bad := false }
  if data = 0 then (s.release t).putTag t.line (some { t1 with ent := none })
  else
    let h := if t.elig then s.hashOf t.dom data else 0
    let cs := if t.elig then s.candsOf t.slice t.dom h else []
    let s1 := s.countColls t.part (cs.filter fun x => decide (x.data ≠ data)).length
    match cs.find? fun x => decide (x.data = data ∧ x.count < 4095) with
    | some x =>
      ((((s1.bumpEnt x.id (· + 1)).release t)).putTag t.line (some { t1 with ent := some x.id })).countDedup t.part 0
    | none =>
      let full := cs.filter fun x => decide (x.data = data)
      match s1.tagPriv t, t.ent with
      | true, some e => ((s1.dropFull full).rewriteEnt t.slice t.dom e data t.elig).putTag t.line (some t1)
      | _, _ =>
        let s2 := if s1.tagShr t then s1.countDedup t.part 1 else s1
        if s2.dataRoom t.slice t.part then
          let s3 := (s2.release t)
          let s4 := if full.isEmpty then s3 else (s3.countDedup t.part 3).dropFull full
          let q := s4.newEnt t.slice t.dom data t.elig
          q.1.putTag t.line (some { t1 with ent := some q.2 })
        else ((s2.release t).putTag t.line none).dropCopies t.line

/-- A fill of a line for a partition (R245): a tag is made if there is none. -/
def State.l2Fill (s : State) (line p : Nat) (elig : Bool) : State :=
  match s.tagOf line with
  | some t => s.putTag line (some t)
  | none =>
    let slice := homeOfLine line
    match s.makeRoom slice p line with
    | none => s
    | some s1 => s1.placeLine ⟨slice, line, p, s1.domOf p, none, false, elig && deviceLine line, false⟩ false

/-- A full-line write-back of a partition reaching the slice (R245), the home's bytes already written: it clears the line's
poison (R259), and makes a tag where there is none. -/
def State.l2WriteBack (s : State) (line p : Nat) : State :=
  let s1 : State := { s with poison := dropAt s.poison line }
  match s1.tagOf line with
  | some t => s1.placeLine t true
  | none =>
    match s1.makeRoom (homeOfLine line) p line with
    | none => s1
    | some s2 => s2.placeLine ⟨homeOfLine line, line, p, s2.domOf p, none, true, s1.ddOf p line && deviceLine line, false⟩ true

/-- A partial write at the home (R245), the home's bytes already written. -/
def State.l2Partial (s : State) (line : Nat) : State :=
  match s.tagOf line with
  | none => s
  | some t =>
    let data := s.homeLine line
    let t1 := { t with dirty := true }
    if data = 0 then
      let s1 := if s.tagShr t then s.countDedup t.part 1 else s
      (s1.release t).putTag line (some { t1 with ent := none })
    else
      match s.tagPriv t, t.ent with
      | true, some e => (s.rewriteEnt t.slice t.dom e data t.elig).putTag line (some t1)
      | _, _ =>
        let s1 := if s.tagShr t then s.countDedup t.part 1 else s
        if s1.dataRoom t.slice t.part then
          let q := (s1.release t).newEnt t.slice t.dom data t.elig
          q.1.putTag line (some { t1 with ent := some q.2 })
        else ((s1.release t).putTag line none).dropCopies line

/-- Every tag of a partition released (R420), or of a domain (R249). -/
def State.releaseTags (s : State) (f : L2Tag → Bool) : State :=
  (s.l2.tags.filter f).foldl (fun u t => u.evictTag t.line) s

/-- A partition's dedup counter block (R250), doubleword i. No load or store reaches it (log 63). -/
def State.dedupDw (s : State) (p i : Nat) : Word :=
  match i with
  | 0 => BitVec.ofNat 64 (s.l2.tags.filter fun t => decide (t.part = p)).length
  | 1 => BitVec.ofNat 64 ((List.range 12).foldl (fun a d => a + s.dataIn d p) 0)
  | 2 => (s.part p).dedup[0]
  | 3 => (s.part p).dedup[1]
  | 4 => (s.part p).dedup[2]
  | 5 => (s.part p).dedup[3]
  | 6 => BitVec.ofNat 64 (s.tagQuota p)
  | 7 => BitVec.ofNat 64 (s.dataQuota p)
  | _ => 0

end Sys2Proof.Machine
end

