-- ==== Sys2Proof/Machine/Local.lean ====
section
/-! DEFINITION. The local address space (R22, R23), pointer arithmetic (R33), the register window, persistent-write
entries of the region buffer and forwarding (R97), and the writes of registers and slots (R18, R32). -/

namespace Sys2Proof.Machine

/-! ### Why an instruction stops -/

/-- A fault an instruction raises: the cause and detail of R395, the info field where it is not the base word, and
M1 to M3 of the fault message (R398). -/
structure Trap where
  cause : BitVec 8
  detail : BitVec 8
  info : Option Half
  m1 : Word
  m2 : Word
  m3 : Word
deriving DecidableEq, Repr

/-- Why the body of an instruction did not complete. -/
inductive Stop where
  /-- It faults (R395). -/
  | trap (t : Trap)
  /-- It needs a commit before it and is then executed in the new region (R97, R203, R281). -/
  | commitFirst
  /-- It is a device-page access, which commits before it acts (R204). -/
  | device
  /-- It waits, as a bounded interlock, for another agent. -/
  | wait
  /-- It has captured its entry and waits for a place in its queue (R122, R154). -/
  | hold (c : Captured)
  /-- It waits until hosts have answered the back-invalidate of a line, which it starts (R253). -/
  | recall (line : Nat) (inv : Bool)
deriving DecidableEq, Repr

/-- The wait for a host's answer, if there is one to wait for (R253). -/
def stopFor : Option (Nat × Bool) → Except Stop Unit
  | some x => .error (.recall x.1 x.2)
  | none => .ok ()

/-- A fault with an operand or address to report. -/
def trapAt {α : Type} (cause detail : BitVec 8) (m1 : Word) : Except Stop α :=
  .error (.trap ⟨cause, detail, none, m1, 0, 0⟩)

/-- ALIGN detail 0 at a local address (R33). -/
def alignLocal {α : Type} (ea : Nat) : Except Stop α := trapAt 0x06 0x00 (BitVec.ofNat 64 ea)
/-- ADDR at a local address (R33): detail 0x02 for the queue area (R265). -/
def addrLocal {α : Type} (detail : BitVec 8) (ea : Nat) : Except Stop α := trapAt 0x0A detail (BitVec.ofNat 64 ea)

/-! ### Pointers (R21, R33) -/

/-- P.ADDR. -/
def ptrAddr (p : Word) : Nat := (p.extractLsb' 0 24).toNat
/-- P.STEP, signed. -/
def ptrStep (p : Word) : Int := (p.extractLsb' 32 16).toInt
/-- P.MOD. -/
def ptrMod (p : Word) : Nat := (p.extractLsb' 48 16).toNat
/-- P with its ADDR field replaced. -/
def ptrSetAddr (p : Word) (a : Nat) : Word := p.extractLsb' 24 40 ++ BitVec.ofNat 24 a

/-- PostStep (R33) by a signed number of bytes. -/
def ptrAdvance (p : Word) (step : Int) : Word :=
  let a := ptrAddr p
  if ptrMod p = 0 then ptrSetAddr p (Int.toNat (((a : Int) + step) % 16777216))
  else
    let len := ptrMod p * 64
    let off := a % len
    ptrSetAddr p (a - off + Int.toNat (((off : Int) + step) % (len : Int)))

/-- PostStep(p) (R33). -/
def postStep (p : Word) : Word := ptrAdvance p (ptrStep p)

/-- How often a pointer occurs in a list of requested post-steps (R34). -/
def stepsOf (l : List (BitVec 3)) (n : BitVec 3) : Nat := (l.filter (· = n)).length

/-- `k` post-steps of a pointer value. -/
def postSteps (p : Word) : Nat → Word
  | 0 => p
  | k + 1 => postSteps (postStep p) k

/-- The pointer registers after the requested post-steps, computed from their values at the start (R34). -/
def applySteps (start now : Vector Word 8) : List (BitVec 3) → List (BitVec 3) → Vector Word 8
  | [], _ => now
  | n :: rest, all =>
    applySteps start (now.set n.toNat (postSteps (start[n.toNat]'n.isLt) (stepsOf all n)) n.isLt) rest all

/-! ### FLG (R20) -/

/-- A write of FLG: reserved bits are ignored, a reserved RM keeps the old RM (R7, R20). -/
def flgWrite (old v : Word) : Word :=
  let rm := if 5 ≤ (v.extractLsb' 12 3).toNat then old.extractLsb' 12 3 else v.extractLsb' 12 3
  ((((0#48 ++ v.extractLsb' 15 1) ++ rm) ++ 0#3) ++ v.extractLsb' 0 9)

/-- FLG with Z, N, C, V (bits 3 to 0) replaced where the mask is set. -/
def flgZncv (flg : Word) (mask v : BitVec 4) : Word :=
  flg.extractLsb' 4 60 ++ ((flg.extractLsb' 0 4 &&& ~~~mask) ||| (v &&& mask))

/-- FLG with sticky flags IV, DZ, OF, UF, NX (bits 8 to 4) ORed in (R88). -/
def flgSticky (flg : Word) (st : BitVec 5) : Word := flg ||| ((0#55 ++ st) ++ 0#4)

/-! ### Cluster layout (R26, R265) -/

/-- Bytes of the configured scratchpad (R262: SPSZ). -/
def Cluster.spadBytes (c : Cluster) : Nat := 262144 + 131072 * c.spsz.toNat

/-- The next multiple of 64. -/
def up64 (n : Nat) : Nat := (n + 63) / 64 * 64

/-- End of the persistent regions. -/
def Cluster.persEnd (c : Cluster) : Nat := c.regions.foldl (fun e r => up64 (max e (r.base + r.size))) 0

/-- Bytes of the channel queues (R265). -/
def queueBytes (qd : Nat × Nat × Nat) : Nat :=
  up64 (2 ^ qd.1 * 72) + 55 * up64 (2 ^ qd.2.1 * 72) + 8 * up64 (2 ^ qd.2.2 * 72)

/-- End of the channel queues, where working scratchpad begins. -/
def Cluster.queueEnd (c : Cluster) : Nat :=
  match c.qd with
  | none => c.persEnd
  | some q => c.persEnd + queueBytes q

/-- What a local address is (R22, R265). -/
inductive LKind where
  | work | pers | queue | window | status | none
deriving DecidableEq, Repr

/-- The kind of a local address of an agent (R22, R28). -/
def State.localKind (s : State) (sid ea : Nat) : LKind :=
  if 0xFFF000 ≤ ea ∧ ea < 0xFFF400 then .window
  else if 0xFFF400 ≤ ea ∧ ea < 0xFFF500 then .status
  else if isSvc sid then (if ea < 0x40000 then .work else .none)
  else
    let c := s.cluster (clusterOf sid)
    if c.spadBytes ≤ ea then .none
    else if ea < c.persEnd then .pers
    else if ea < c.queueEnd then .queue
    else .work

/-- Whether an extent lies wholly in the configured scratchpad (or local store) outside the queue area, and if not the
ADDR detail (R265): 0x02 when it touches the queue area. -/
def State.extentBad (s : State) (sid ea n : Nat) : Option (BitVec 8) :=
  if isSvc sid then (if ea + n ≤ 0x40000 then none else some 0)
  else
    let c := s.cluster (clusterOf sid)
    if c.persEnd < ea + n ∧ ea < c.queueEnd then some 2
    else if c.spadBytes < ea + n then some 0
    else none

/-! ### The register window (R23) -/

/-- The doubleword register at a window offset (a multiple of 8); none for a reserved offset. -/
def windowRead (r : Regs) (off : Nat) : Option Word :=
  let i := off / 8
  if i = 0 then some r.a
  else if i = 1 then some r.flg
  else if i = 2 then some (r.pres.setWidth 64)
  else if 8 ≤ i ∧ i < 16 then some (r.p.toList.getD (i - 8) 0)
  else if 16 ≤ i ∧ i < 20 then some (r.k.toList.getD (i - 16) 0)
  else if 32 ≤ i ∧ i < 64 then some (r.m.toList.getD (i - 32) 0)
  else if 64 ≤ i ∧ i < 96 then some ((r.va.toList.getD ((i - 64) / 8) 0).extractLsb' ((i - 64) % 8 * 64) 64)
  else none

/-- Which accesses a window offset admits: a doubleword anywhere but at a reserved offset; in the VA range also 64 bytes, by a
vector operand (R111) or by VLDG and VSTG through the local window (R481), and one element of 1, 2 or 4 bytes (VBCST). -/
inductive WinUse where
  | scalar | vec | whole | bcast
deriving DecidableEq, Repr

/-- The operands of format V (R111). -/
def WinUse.ofVector (u : WinUse) : Bool := decide (u = .vec ∨ u = .bcast)

/-- The check of a window access (R23): size and alignment first, whatever instruction makes the access, then reserved offsets
(log 16). -/
def windowCheck (ea n : Nat) (u : WinUse) : Except Stop Unit :=
  let off := ea - 0xFFF000
  let inVa := decide (0x200 ≤ off ∧ off < 0x300)
  if n = 8 ∧ ea % 8 = 0 then
    (if (windowRead ⟨0, 0, Vector.replicate 8 0, Vector.replicate 32 0, 0, Vector.replicate 4 0, Vector.replicate 4 0⟩ off).isSome
     then .ok () else addrLocal 0 ea)
  else if (u = .vec ∨ u = .whole) ∧ n = 64 ∧ ea % 64 = 0 ∧ inVa then .ok ()
  else if u = .bcast ∧ n < 8 ∧ ea % n = 0 ∧ inVa then .ok ()
  else alignLocal ea

/-- The check of a local access of `n` bytes (EA of R33, R22, R23, R265): alignment, then permission. A vector operand raises
ALIGN at an accessible address only, and ADDR at another one, aligned or not (R111; log 16). -/
def State.localCheck (s : State) (sid ea n : Nat) (write : Bool) (u : WinUse) : Except Stop LKind :=
  if ea % n ≠ 0 && !u.ofVector then alignLocal ea
  else
    match s.localKind sid ea with
    | .work => if ea % n ≠ 0 then alignLocal ea else .ok .work
    | .pers => if ea % n ≠ 0 then alignLocal ea else .ok .pers
    | .queue => addrLocal 2 ea
    | .none => addrLocal 0 ea
    | .window => match windowCheck ea n u with | .ok _ => .ok .window | .error e => .error e
    | .status => if write ∨ u ≠ .scalar then addrLocal 0 ea else if 8 < n then alignLocal ea else .ok .status

/-! ### Persistent writes and forwarding (R97) -/

/-- Entries of the persistent-write part of the region buffer in use; receive-slot records count (R18, R281). -/
def Core.persUsed (c : Core) : Nat :=
  (c.buf.filter (fun e => match e with | .pers _ _ => true | _ => false)).length + c.rsave.length

/-- Two nibble-mask bits of byte `i`. -/
def nibbles (mask : BitVec 32) (i : Nat) : BitVec 2 := mask.extractLsb' (2 * i) 2

/-- A byte with the marked nibbles replaced. -/
def mergeNibbles (mask : BitVec 2) (old new : Byte) : Byte :=
  (if mask.getLsbD 1 then new.extractLsb' 4 4 else old.extractLsb' 4 4) ++
  (if mask.getLsbD 0 then new.extractLsb' 0 4 else old.extractLsb' 0 4)

/-- The nibbles among `n` bytes whose mask bit is set, written (two mask bits a byte). -/
def Memory.writeNibbles (m : Memory) (a : Nat) : Nat → Nat → Nat → Memory
  | 0, _, _ => m
  | n + 1, mask, v =>
    Memory.writeNibbles (if mask % 4 = 0 then m
      else m.write a (mergeNibbles (BitVec.ofNat 2 mask) (m.read a) (BitVec.ofNat 8 v))) (a + 1) n (mask / 4) (v / 256)

/-- Whether a buffered entry is at a block: a persistent region's is that of the remote window too, by which a core may reach its
own cluster `cl` (R26, R97, R203). -/
def atPlace (cl : Nat) (pl : Place) : BufEntry → Bool
  | .glob g => decide (g.place = pl)
  | .pers blk _ => decide (pl = .remote cl blk.toNat)
  | .msg _ | .fence _ _ => false

/-- Whether an entry is a store, an atomic included (R171). -/
def BufEntry.isStore : BufEntry → Bool
  | .glob _ | .pers _ _ => true
  | _ => false

/-- Whether an entry is a no-return atomic, which counts as a load too (R171). -/
def BufEntry.isAmo : BufEntry → Bool
  | .glob g => (match g.kind with | .amo _ _ => true | _ => false)
  | .pers _ (.amo _ _) => true
  | _ => false

/-- Whether an order annotation is ACQ or AR (R170). -/
def acquires (od : BitVec 3) : Bool := decide (od = 1#3 ∨ od = 3#3)

/-- Whether an order annotation is REL, AR or SC (R170). -/
def releases (od : BitVec 3) : Bool := decide (2 ≤ od.toNat ∧ od.toNat ≤ 4)

/-- Whether loads, or stores performed at once, are held until the region's buffered accesses have been performed: the region
commits before them (R170, R171, R214; log 76). -/
def heldBy (stores : Bool) (buf : List BufEntry) : Bool :=
  buf.any fun e => match e with | .fence l s => if stores then s else l | _ => false

/-- Whether an access performed at once must wait for the region's earlier stores: a release of its own (R170), or a held store. -/
def mustFollow (od : BitVec 3) (buf : List BufEntry) : Bool :=
  heldBy true buf || (releases od && buf.any BufEntry.isStore)

/-- A byte of a block with an entry's plain bytes over it. -/
def BufEntry.over (cl : Nat) (pl : Place) (i : Nat) (b : Byte) (e : BufEntry) : Byte :=
  if !atPlace cl pl e then b
  else
    match e with
    | .glob g => (match g.kind with
      | .bytes mask data _ => if mask.getLsbD i then data.extractLsb' (8 * i) 8 else b
      | _ => b)
    | .pers _ (.bytes mask data) => mergeNibbles (nibbles mask i) b (data.extractLsb' (8 * i) 8)
    | _ => b

/-- A byte of a block with the region's own buffered plain bytes over it, oldest entry first. -/
def forwardAt (cl : Nat) (pl : Place) (i : Nat) (b : Byte) : List BufEntry → Byte
  | [] => b
  | e :: t => forwardAt cl pl i (e.over cl pl i b) t

/-- Whether a buffered STN byte or no-return atomic covers a byte of a block (R203). -/
def atomicAt (cl : Nat) (pl : Place) (i : Nat) (buf : List BufEntry) : Bool :=
  buf.any fun e => atPlace cl pl e && (match e with
    | .glob g => (match g.kind with
      | .nibble o _ _ => decide (o.toNat = i)
      | .amo o op => decide (o.toNat ≤ i ∧ i < o.toNat + op.bytes)
      | .bytes _ _ _ => false)
    | .pers _ (.amo o op) => decide (o.toNat ≤ i ∧ i < o.toNat + op.bytes)
    | _ => false)

/-- The block of a local address of a cluster. -/
def localBlock (cl x : Nat) : Place := .remote cl (x / 16 * 16)

/-- `n` bytes of a cluster's persistent regions as the region sees them, little-endian. -/
def forwardLE (mem : Memory) (cl : Nat) (buf : List BufEntry) (ea : Nat) : Nat → Nat
  | 0 => 0
  | n + 1 => (forwardAt cl (localBlock cl ea) (ea % 16) (mem.read (cl * 16777216 + ea)) buf).toNat +
      256 * forwardLE mem cl buf (ea + 1) n

/-- Whether the region's own entries hold a whole byte of a block. -/
def heldWhole (cl : Nat) (pl : Place) (i : Nat) (buf : List BufEntry) : Bool :=
  buf.any fun e => atPlace cl pl e && (match e with
    | .glob g => (match g.kind with | .bytes mask _ _ => mask.getLsbD i | _ => false)
    | .pers _ (.bytes mask _) => nibbles mask i == 3
    | _ => false)

/-- Whether a local read takes a poisoned byte from the cluster store (R413): one that the region's own entries do not hold. -/
def State.ownBad (s : State) (ea n : Nat) : Bool :=
  let cl := clusterOf s.focus
  (List.range n).any fun i =>
    s.storeBad (cl * 16777216 + (ea + i)) 1 && !heldWhole cl (localBlock cl (ea + i)) ((ea + i) % 16) s.core.buf

/-- Whether a buffered STN or no-return atomic of the region overlaps local bytes (R203). -/
def persAmoOverlap (cl : Nat) (buf : List BufEntry) (ea n : Nat) : Bool :=
  (List.range n).any fun i => atomicAt cl (localBlock cl (ea + i)) ((ea + i) % 16) buf

/-- Whether the block of a persistent write coalesces with an entry: the newest entry of that block is plain bytes of a local
write. -/
def persMerge (cl : Nat) (blk : BitVec 24) (mask : BitVec 32) (data : BitVec 128) : List BufEntry → Option (List BufEntry)
  | [] => none
  | e :: t =>
    match persMerge cl blk mask data t with
    | some t' => some (e :: t')
    | none =>
      match e with
      | .pers b (.bytes m d) =>
        if b = blk ∧ ¬ t.any (atPlace cl (.remote cl blk.toNat)) then
          some (.pers b (.bytes (m ||| mask)
            (BitVec.ofNat 128 ((List.range 16).foldl (fun acc i =>
              acc + (mergeNibbles (nibbles mask i) (d.extractLsb' (8 * i) 8) (data.extractLsb' (8 * i) 8)).toNat
                * 256 ^ i) 0))) :: t)
        else none
      | _ => none

/-- Buffering one block of a persistent write; a full buffer asks for a commit first (R97). -/
def Core.bufferPers (c : Core) (cl : Nat) (blk : BitVec 24) (mask : BitVec 32) (data : BitVec 128) : Except Stop Core :=
  match persMerge cl blk mask data c.buf with
  | some b => .ok { c with buf := b }
  | none =>
    if 512 ≤ c.persUsed then .error .commitFirst
    else .ok { c with buf := c.buf ++ [.pers blk (.bytes mask data)] }

/-- Spread a byte mask to nibble pairs. -/
def nibbleMask (mask : Nat) : Nat → Nat
  | 0 => 0
  | n + 1 => (if mask % 2 = 1 then 3 else 0) + 4 * nibbleMask (mask / 2) n

/-- Buffering `n` bytes (`fuel` blocks of 16) of a persistent write under a nibble mask. -/
def Core.bufferPersNibbles (c : Core) (cl : Nat) : Nat → Nat → Nat → Nat → Nat → Except Stop Core
  | 0, _, _, _, _ => .ok c
  | fuel + 1, ea, n, mask, v =>
    if n = 0 then .ok c
    else
      let off := ea % 16
      let k := min n (16 - off)
      let here := mask % 4 ^ k
      let rest := fun c' => Core.bufferPersNibbles c' cl fuel (ea + k) (n - k) (mask / 4 ^ k) (v / 256 ^ k)
      if here = 0 then rest c
      else
        match c.bufferPers cl (BitVec.ofNat 24 (ea - off)) (BitVec.ofNat 32 (here * 4 ^ off))
            (BitVec.ofNat 128 (v % 256 ^ k * 256 ^ off)) with
        | .ok c' => rest c'
        | .error e => .error e

/-! ### Register writes -/

/-- Recording a receive slot before its first local write in the region (R18). -/
def Core.recordSlot (c : Core) (n : BitVec 5) : Except Stop Core :=
  if n.toNat < 24 ∨ (c.rsave.any fun e => e.n == n) then .ok c
  else if 512 ≤ c.persUsed then .error .commitFirst
  else .ok { c with rsave := c.rsave ++ [⟨n, c.r.slot n, c.r.pres.getLsbD n.toNat⟩] }

/-- Bit n of a presence word set or cleared. -/
def setBit32 (x : BitVec 32) (n : Nat) (b : Bool) : BitVec 32 :=
  if b then x ||| BitVec.ofNat 32 (2 ^ n) else x &&& ~~~(BitVec.ofNat 32 (2 ^ n))

/-- A slot's value and presence replaced, without a record. -/
def Core.putSlot (c : Core) (n : BitVec 5) (v : Word) (present : Bool) : Core :=
  { c with r := { c.r with m := c.r.m.set n.toNat v n.isLt, pres := setBit32 c.r.pres n.toNat present } }

/-- A local write of a slot (R18, R32). -/
def Core.writeSlot (c : Core) (n : BitVec 5) (v : Word) (present : Bool) : Except Stop Core :=
  match c.recordSlot n with
  | .ok c' => .ok (c'.putSlot n v present)
  | .error e => .error e

/-- A local write of one presence bit (R18, R103). -/
def Core.writePres (c : Core) (n : BitVec 5) (present : Bool) : Except Stop Core :=
  c.writeSlot n (c.r.slot n) present

/-- Writing PRES (R23): each presence bit that changes is a local write of its slot's presence. -/
def Core.writePresAll (c : Core) (v : Word) : Nat → Except Stop Core
  | 0 => .ok c
  | n + 1 =>
    match Core.writePresAll c v n with
    | .error e => .error e
    | .ok c' =>
      if c'.r.pres.getLsbD n = v.getLsbD n then .ok c' else c'.writePres (BitVec.ofNat 5 n) (v.getLsbD n)

/-- Bytes of a vector replaced under a nibble mask. -/
def mergeBytes (mask : BitVec 128) (old new : Vec) : Nat → Nat
  | 0 => 0
  | n + 1 =>
    mergeBytes mask old new n +
      (mergeNibbles (mask.extractLsb' (2 * n) 2) (old.extractLsb' (8 * n) 8) (new.extractLsb' (8 * n) 8)).toNat * 256 ^ n

/-- A vector with the masked nibbles replaced. -/
def vecMerge (mask : BitVec 128) (old new : Vec) : Vec := BitVec.ofNat 512 (mergeBytes mask old new 64)

/-- A register write to a target of R45, memory apart. -/
def Core.writeReg (c : Core) (t : Target) (mask : BitVec 128) (v : Vec) : Except Stop Core :=
  match t with
  | .a => .ok { c with r := { c.r with a := v.extractLsb' 0 64 } }
  | .flg => .ok { c with r := { c.r with flg := flgWrite c.r.flg (v.extractLsb' 0 64) } }
  | .pres => c.writePresAll (v.extractLsb' 0 64) 32
  | .p n => .ok { c with r := { c.r with p := c.r.p.set n.toNat (v.extractLsb' 0 64) n.isLt } }
  | .k n => .ok { c with r := { c.r with k := c.r.k.set n.toNat (v.extractLsb' 0 64) n.isLt } }
  | .m n => c.writeSlot n (v.extractLsb' 0 64) true
  | .va n => .ok { c with r := { c.r with va := c.r.va.set n.toNat (vecMerge mask (c.r.vec n) v) n.isLt } }
  | .mem _ => .ok c

/-- The register target of a window offset, with the byte mask of a doubleword in a vector register. -/
def windowTarget (off n : Nat) : Target × BitVec 128 × Nat :=
  let i := off / 8
  if i = 0 then (.a, BitVec.allOnes 128, 0)
  else if i = 1 then (.flg, BitVec.allOnes 128, 0)
  else if i = 2 then (.pres, BitVec.allOnes 128, 0)
  else if i < 16 then (.p (BitVec.ofNat 3 i), BitVec.allOnes 128, 0)
  else if i < 20 then (.k (BitVec.ofNat 2 i), BitVec.allOnes 128, 0)
  else if i < 64 then (.m (BitVec.ofNat 5 i), BitVec.allOnes 128, 0)
  else
    let b := off % 64
    (.va (BitVec.ofNat 2 ((i - 64) / 8)), BitVec.ofNat 128 ((4 ^ n - 1) * 4 ^ b), b)

/-- The target of a local write (R22, R23). -/
def localTarget (kind : LKind) (ea n mask v : Nat) : LongWrite :=
  if kind = .window then
    let t := windowTarget (ea - 0xFFF000) n
    ⟨t.1, BitVec.ofNat 128 (nibbleMask mask 64 * 4 ^ t.2.2) &&& t.2.1, BitVec.ofNat 512 (v * 256 ^ t.2.2)⟩
  else ⟨.mem (BitVec.ofNat 24 ea), BitVec.ofNat 128 (nibbleMask mask 64), BitVec.ofNat 512 v⟩

end Sys2Proof.Machine
end

