-- ==== Sys2Proof/Machine/Phys.lean ====
section
/-! DEFINITION. Physical memory with one coherent value per byte, the home's copy of lines a cache holds dirty (R181), the
MOESI states of lines in caches (R233), and the arithmetic of atomics on integers (R209). Every access is performed at once,
in the order the model runs (log 3); one that hosts must answer for waits before it (log 26). -/

namespace Sys2Proof.Machine

/-- Whether a cluster has an L1: a scratchpad of 1 MiB leaves none (R233). -/
def State.hasL1 (s : State) (cl : Nat) : Bool := decide ((s.cluster cl).spadBytes < 1048576)

/-- The cache through which an agent reaches global memory: its cluster's L1, or a service core's own (R28, R233). -/
def State.cacheFor (s : State) (sid : Nat) : Option Nat :=
  if isSvc sid then some (svcCache (tileOf sid))
  else if s.hasL1 (clusterOf sid) then some (clusterOf sid) else none

/-- The partition of a cache. -/
def State.cachePart (s : State) (k : Nat) : Nat :=
  (s.partOfTile (if k < 1024 then tileOfCluster k else k - 1024)).getD 0

/-- The lines a cache has room for: what the split leaves an L1 of the 1 MiB cluster store (R26), the 64 KiB of a service core's data
cache (R28). -/
def State.cacheRoom (s : State) (k : Nat) : Nat := if k < 1024 then (1048576 - (s.cluster k).spadBytes) / 128 else 512

/-! ### Poison of an L2 copy (R248) -/

/-- Whether an owner can supply a line's data (R236). -/
def State.owned (s : State) (line : Nat) : Bool :=
  (s.holders line).any fun k => !(s.l1At k line == some .s)

/-- Whether a line's data must come from a poisoned L2 copy: no owner supplies it, and the reader's own cache, if it has one, does
not hold it (R248). -/
def State.sourAt (s : State) (k : Option Nat) (line : Nat) : Bool :=
  (match s.tagOf line with | some t => t.bad | none => false) && !s.owned line &&
  !(match k with | some j => (s.l1At j line).isSome | none => false)

/-- Whether a reader of `n` bytes of a line meets poison: what its home holds, or a poisoned L2 copy. -/
def State.meetsPoison (s : State) (k : Option Nat) (pa n : Nat) : Bool := s.poisoned pa n || s.sourAt k (lineOf pa)

/-- A poisoned L2 copy that a partial write at the home is to change: its bytes are poisoned one by one (R259). -/
def State.souredBytes (s : State) (line : Nat) : State :=
  match s.tagOf line with
  | some t => if t.bad then (s.putTag line (some { t with bad := false })).poisonLine line else s
  | none => s

/-! ### Line transactions -/

/-- A write-back of a line by a cache to its home (R236): the home's copy becomes the coherent value. -/
def State.writeBack (s : State) (k line : Nat) : State :=
  ({ s with home := copyBytes s.mem s.home (line * 128) 128 }).l2WriteBack line (s.cachePart k)

/-- The write-back of one line's dirty copy, wherever it is. -/
def State.writeBackAny (s : State) (line : Nat) : State :=
  match (s.holders line).find? fun k => s.dirtyIn k line with
  | some k => s.writeBack k line
  | none => s

/-- One line's dirty copies cleaned in every cache: M becomes E, O becomes S, after the write-back. -/
def State.cleanOne (s : State) (line : Nat) : State :=
  let s1 := s.writeBackAny line
  let s2 := (s1.holders line).foldl (fun t k => match t.l1At k line with
    | some .m => t.setL1 k line (some .e)
    | some .o => t.setL1 k line (some .s)
    | _ => t) s1
  s2.setDir line (s2.dirRec line).clean

/-- A line, or its whole declared tile, cleaned in every cache (R219: CLWB; R217: TWB). -/
def State.cleanLine (s : State) (line : Nat) : State :=
  ((s.unitOf line).foldl (fun t l => t.cleanOne l) s).updTile line DirRec.clean

/-- Every copy of one line written back if dirty and invalidated. -/
def State.recallOne (s : State) (line : Nat) : State :=
  let s1 := s.writeBackAny line
  let s2 := (s1.holders line).foldl (fun t k => t.setL1 k line none) s1
  s2.setDir line (s2.dirRec line).empty

/-- A line, or its whole declared tile, recalled from every cache (R182, R219, R241). -/
def State.recall (s : State) (line : Nat) : State :=
  ((s.unitOf line).foldl (fun t l => t.recallOne l) s).updTile line DirRec.empty

/-- A copy of a line downgraded for a reader: M to O, E to S. -/
def State.downgrade (s : State) (k line : Nat) : State :=
  match s.l1At k line with
  | some .m => s.setL1 k line (some .o)
  | some .e => s.setL1 k line (some .s)
  | _ => s

/-- Every copy of a line but one cache's downgraded. -/
def State.downgradeBut (s : State) (k line : Nat) : State :=
  (s.holders line).foldl (fun t j => if j = k then t else t.downgrade j line) s

/-- A line, or its whole tile, downgraded for a reader that takes no copy (R236, R241): its owner keeps dirty lines as O and
clean ones as S. -/
def State.lower (s : State) (line : Nat) : State :=
  let unit := s.unitOf line
  let dirty := unit.any s.lineDirty
  (unit.foldl (fun t l => (t.holders l).foldl (fun u k => u.downgrade k l) t) s).updDir line fun r => r.lower dirty

/-- Whether a cache may hold a line: it has a tag at its home (R234), is read at the granule of its tile (R238) and is not handed
out poisoned (R248), and the cache has room: a line that it replaces leaves by an event of its own (log 34). -/
def State.mayCache (s : State) (k line : Nat) : Bool :=
  (s.tagOf line).isSome && !s.foreign k line && !s.sourAt (some k) line &&
  ((s.l1At k line).isSome || decide ((s.cacheLines k).length < s.cacheRoom k))

/-- A read of a line by a cache (R233, R236): an owner elsewhere keeps the dirty data as O, and the owner of a declared tile is
downgraded over the whole tile (R240). The copy is exclusive when no other cache and no host holds the line or its tile.
Where the line may not be held, it is read at its home. -/
def State.l1Share (s : State) (k line : Nat) : State :=
  match s.l1At k line with
  | some _ => s
  | none =>
    if !s.mayCache k line then s.lower line
    else
      let unit := s.unitOf line
      let dirty := unit.any fun l => (s.holders l).any fun j => decide (dirName j ≠ dirName k) && s.dirtyIn j l
      let s1 := unit.foldl (fun t l => t.downgradeBut k l) s
      let own := s.dirRec line
      let r := match s.tileGrain k line with
        | some t => DirRec.zero.fromTile (({ t.dir with h0 := own.h0, h1 := own.h1 } : DirRec).share (dirName k) dirty)
        | none => own.share (dirName k) dirty
      let alone := decide (r.st = .dx) && !s.hostHas line && (s.mates k line).isEmpty
      (s1.setL1 k line (some (if alone then .e else .s))).updDir line fun _ => r

/-- One line's copies outside a cache invalidated; dirty data passes to that cache (R240). -/
def State.takeLine (s : State) (k line : Nat) : State :=
  let dirty := (s.holders line).any fun j => decide (j ≠ k) && s.dirtyIn j line
  let s1 := ((s.holders line).filter (· ≠ k)).foldl (fun t j => t.setL1 j line none) s
  if dirty then s1.setL1 k line (some .m) else s1

/-- Ownership of a line taken by a cache (R236): every other copy is invalidated, dirty data passing to the new owner; a
declared tile passes as one unit (R240). -/
def State.l1Own (s : State) (k line : Nat) : State :=
  let s1 := (s.unitOf line).foldl (fun t l => t.takeLine k l) s
  (s1.setL1 k line (some .m)).updDir line fun r => r.own (dirName k)

/-- A store performed at the home: every cached copy is invalidated, none is allocated (R205: STX; R241). -/
def State.storeHome (s : State) (pa n mask v : Nat) : State :=
  let s1 := ((s.recall (lineOf pa)).souredBytes (lineOf pa)).liftPoison pa n mask
  ({ s1 with mem := s1.mem.writeMask pa n mask v, home := s1.home.writeMask pa n mask v }).l2Partial (lineOf pa)

/-- A store performed in a cache (page policy WB, R366), or at the home where the line may not be held. -/
def State.storeL1 (s : State) (k pa n mask v : Nat) : State :=
  if !s.mayCache k (lineOf pa) then s.storeHome pa n mask v
  else
    let s1 := (s.l1Own k (lineOf pa)).liftPoison pa n mask
    { s1 with mem := s1.mem.writeMask pa n mask v }

/-- A cache's copy given up, written back if dirty (R235, R236). Of a tile line the cluster keeps its tile permission (R240);
while the name's other cache holds the line the record keeps the name (R233). -/
def State.evictL1 (s : State) (k line : Nat) : State :=
  let dirty := s.dirtyIn k line
  let s1 := if dirty then s.writeBack k line else s
  let s2 := s1.setL1 k line none
  if (s2.tileAt line).isSome then s2
  else if (s2.mates k line).isEmpty then s2.setDir line ((s2.dirRec line).leave (dirName k))
  else if dirty then s2.setDir line (s2.dirRec line).shared else s2

/-- A cache written back and emptied, with its eviction notices (R256, R270). -/
def State.emptyCache (s : State) (k : Nat) : State := (s.cacheLines k).foldl (fun t e => t.evictL1 k e.1) s

/-- A cluster leaves every tile it holds (R240, R256). -/
def State.leaveTiles (s : State) (cl : Nat) : State :=
  { s with tiles := s.tiles.map fun t => { t with dir := t.dir.leave cl } }

/-- A cluster leaves every line's record that still names it, although no cache behind its interface holds the line (R241, R256). -/
def State.leaveRecords (s : State) (cl : Nat) : State :=
  s.dir.foldl (fun t e => if (t.holders e.1).any fun k => decide (dirName k = cl) then t
    else t.setDir e.1 ((t.dirRec e.1).leave cl)) s

/-- An L1 emptied for a new split (R270): nothing names its cluster for a copy any more, since with the whole store as scratchpad it
has no L1 (R233). -/
def State.quitL1 (s : State) (cl : Nat) : State := ((s.emptyCache cl).leaveTiles cl).leaveRecords cl

/-- A tile undeclared (R241): each line that has a record (R234) takes the tile's state. -/
def State.undeclare (s : State) (t : Tile) : State :=
  let s1 := t.lines.foldl (fun u l => if (u.tagOf l).isSome then u.setDir l ((u.dirRec l).fromTile t.dir) else u) s
  { s1 with tiles := s1.tiles.filter (· ≠ t) }

/-- The host answers that emptying a cache needs first (R253). -/
def State.cacheStops (s : State) (k : Nat) : List (Nat × Bool) :=
  ((s.cacheLines k).filter fun e => s.dirtyIn k e.1 || s.snooped e.1).map fun e => (e.1, true)

/-- CLFL (R219, R251): beyond CLINV, the L2's copy is written to its memory and dropped; hosts' copies have been recalled
before it (R258, R377; log 36). -/
def State.flushLine (s : State) (line : Nat) : State :=
  (s.unitOf line).foldl (fun t l => t.evictTag l) (s.recall line)

/-! ### Line operations left to the homes (R215, R220) -/

/-- The host answers that a line operation needs first (R253): CLFL drops the L2's copy too, which leaves no host one (R234). -/
def State.opStops (s : State) (op : LineOp) : List (Nat × Bool) :=
  if op.kind = 2 then (s.unitOf op.line).map fun x => (x, true) else s.unitStops op.line

/-- What a line operation does: CLWB and XFENCE clean the line, CLINV recalls it, CLFL drops it from the L2 too (R215, R219). -/
def State.doOp (s : State) (op : LineOp) : State :=
  if op.kind = 1 then s.recall op.line else if op.kind = 2 then s.flushLine op.line else s.cleanLine op.line

/-- A line operation left to its home: performed at once, or once hosts have answered, whom the home asks (R220, R253). -/
def State.leaveOp (s : State) (op : LineOp) : State :=
  let stops := s.opStops op
  if (s.hostBlock stops).isNone then s.doOp op
  else
    let t := stops.foldl (fun u x => if u.hostStop x.1 x.2 then u.startSnoop x.1 x.2 .other else u) s
    { t with lineOps := t.lineOps ++ [op] }

/-- The waiting line operations tried again, oldest first. -/
def State.retryOps (s : State) : State := s.lineOps.foldl State.leaveOp { s with lineOps := [] }

/-- The host answers that the line operations of the agent in focus wait for. -/
def State.ownStops (s : State) : List (Nat × Bool) :=
  (s.lineOps.filter fun op => decide (op.sid = s.focus)).flatMap s.opStops

/-! ### Accesses of an agent -/

/-- The fill of a line's L2 tag for a cache (R245), when the cache misses. -/
def State.fillFor (s : State) (k line : Nat) (dd : Bool) : State :=
  if (s.l1At k line).isSome then s else s.l2Fill line (s.cachePart k) dd

/-- The transaction of a read by an agent; `cached` says whether it may take a copy (R205, R366). -/
def State.readLine (s : State) (sid : Nat) (cached dd : Bool) (line : Nat) : State :=
  match s.cacheFor sid with
  | some k =>
    if (s.l1At k line).isSome then s
    else if cached then (s.fillFor k line dd).l1Share k line else s.lower line
  | none => s.lower line

/-- A write of the masked bytes among `n` by an agent, in its cache or at the home (R205, R366). -/
def State.writeLine (s : State) (sid : Nat) (cached dd : Bool) (pa n mask v : Nat) : State :=
  match s.cacheFor sid with
  | some k => if cached then (s.fillFor k (lineOf pa) dd).storeL1 k pa n mask v else s.storeHome pa n mask v
  | none => s.storeHome pa n mask v

/-- What the tag of a line that a cache takes needs of hosts first (R247, R253). -/
def State.fillStops (s : State) (k line : Nat) : List (Nat × Bool) :=
  if (s.l1At k line).isSome then [] else s.roomStops (s.cachePart k) line

/-- What the tag of a line that an agent's cache takes needs of hosts first. -/
def State.allocStops (s : State) (sid : Nat) (cached : Bool) (line : Nat) : List (Nat × Bool) :=
  match s.cacheFor sid with
  | some k => if cached then s.fillStops k line else []
  | none => []

/-- The requests of a read of a line that hosts must answer first (R253): none when the agent's cache holds it. -/
def State.readStops (s : State) (sid : Nat) (cached : Bool) (line : Nat) : List (Nat × Bool) :=
  match s.cacheFor sid with
  | some k => if (s.l1At k line).isSome && !s.snooped line then [] else (line, false) :: s.allocStops sid cached line
  | none => [(line, false)]

/-- The requests of a write of a line that hosts must answer first (R253): its own back-invalidate, and those of the write-backs
that it forces. -/
def State.writeStops (s : State) (line : Nat) : List (Nat × Bool) := (line, true) :: s.unitStops line

/-- A load's value: the coherent bytes. -/
def State.physLE (s : State) (pa n : Nat) : Nat := s.mem.readLE pa n

/-- Signed reading of the low `n` bytes. -/
def toSigned (n v : Nat) : Int :=
  let w := v % 256 ^ n
  if 2 * w < 256 ^ n then (w : Int) else (w : Int) - (256 ^ n : Nat)

/-- Whether a compare-and-swap finds another value than the expected one (R211). -/
def Amo.misses (op : Amo) (old : Nat) : Bool := decide (op.op = .cas ∧ old ≠ op.expect.toNat)

/-- The integer atomics (R209) on `n`-byte values; the FP ones are in Machine/Atomics.lean. -/
def amoInt (op : AmoOp) (n old v expect : Nat) : Nat :=
  match op with
  | .add => (old + v) % 256 ^ n
  | .and => old &&& v
  | .or => old ||| v
  | .xor => old ^^^ v
  | .min => if toSigned n v < toSigned n old then v else old
  | .max => if toSigned n old < toSigned n v then v else old
  | .minn => if v < old then v else old
  | .maxn => if old < v then v else old
  | .swp => v
  | .cas => if old = expect then v else old
  | .fmin | .fmax | .fadd => old

end Sys2Proof.Machine
end

