-- ==== Sys2Proof/Machine/Translate.lean ====
section
/-! DEFINITION. Address translation (chapter 14): the walk of R361 to R364, the permission checks of R365 and R367, the
cached translations of R368, and the fixed window of stage B1 (R427). -/

namespace Sys2Proof.Machine

/-- What an access needs (R365). -/
inductive Need where
  | read | write | rmw | exec
  /-- CLWB, CLINV, CLFL: a valid leaf only. -/
  | leaf
deriving DecidableEq, Repr

/-- ACC of the translation record (R371). -/
def Need.acc : Need → BitVec 2
  | .read => 0 | .write => 1 | .rmw => 2 | .exec => 3 | .leaf => 0

/-! ### Leaf fields (R362) -/

/-- V. -/
def pteV (e : Word) : Bool := e.getLsbD 0
/-- LEAF. -/
def pteLeaf (e : Word) : Bool := e.getLsbD 1
/-- PA field as an address. -/
def ptePa (e : Word) : Nat := (e.extractLsb' 12 40).toNat * 4096
/-- HP. -/
def pteHp (e : Word) : Nat := (e.extractLsb' 57 3).toNat
/-- CONT. -/
def pteCont (e : Word) : Bool := e.getLsbD 56
/-- POL. -/
def ptePol (e : Word) : Nat := (e.extractLsb' 10 2).toNat

/-- Whether [a, a+n) lies in the global HBM pool (R358). -/
def inGlobalPool (a n : Nat) : Bool := decide (a + n ≤ 0x6000000000)

/-- Whether [a, a+n) lies in one of the local pools (R358). -/
def inLocalPool (a n : Nat) : Bool :=
  (List.range 4).any fun d =>
    decide (0x8000000000 + d * 0x2000000000 ≤ a ∧ a + n ≤ 0x8000000000 + d * 0x2000000000 + 0x1800000000)

/-- Whether [a, a+n) lies in a present expander's window (R358, R363). -/
def State.inExpander (s : State) (a n : Nat) : Bool :=
  s.expanders.any fun e => decide (e.1 < 8 ∧ 0x1000000000000 + e.1 * 0x10000000000 ≤ a ∧
    a + n ≤ 0x1000000000000 + e.1 * 0x10000000000 + min e.2 0x10000000000)

/-- Whether [a, a+n) lies in the pools of a reachable fabric package (R358, R363). -/
def State.inPeer (s : State) (a n : Nat) : Bool :=
  decide (0x2000000000000 ≤ a ∧ a < 0x2000000000000 + 32 * 0x10000000000) &&
  (let p := (a - 0x2000000000000) / 0x10000000000
   let off := (a - 0x2000000000000) % 0x10000000000
   s.peers.getLsbD p && (inGlobalPool off n || inLocalPool off n))

/-- Whether [a, a+n) is host memory (R358). -/
def inHost (a n : Nat) : Bool := decide (0x8000000000000 ≤ a ∧ a + n ≤ 0x10000000000000)

/-- The page sizes by level (R361). -/
def pageSize : Nat → Nat
  | 0 => 4096
  | 1 => 2097152
  | _ => 1073741824

/-- Whether a valid leaf at a level keeps R363. -/
def State.leafOk (s : State) (e : Word) (level : Nat) : Bool :=
  let sz := if pteCont e then 4096 else pageSize level
  let pa := ptePa e
  decide (e.extractLsb' 60 4 = 0#4 ∧ e.extractLsb' 52 2 = 0#2 ∧ e.extractLsb' 2 4 = 0#4) &&
  decide (level < 3) && decide (ptePol e < 3) && decide (pa % sz = 0) &&
  (match pteHp e with
   | 0 => inGlobalPool pa sz && decide (ptePol e ≠ 2)
   | 1 => inLocalPool pa sz && decide (ptePol e ≠ 2)
   | 2 => inHost pa sz
   | 3 => s.inExpander pa sz
   | 4 => s.inPeer pa sz && decide (ptePol e ≠ 0)
   | _ => false) &&
  (!pteCont e || decide (level = 0))

/-- Whether a pointer entry keeps R361 and R362. -/
def pointerOk (e : Word) : Bool :=
  decide (e.extractLsb' 52 12 = 0#12 ∧ e.extractLsb' 1 11 = 0#11) &&
  (inGlobalPool (ptePa e) 4096 || inLocalPool (ptePa e) 4096)

/-- A failed translation: cause, detail and the level at which the walk stopped (R371); or the table line for which the walk
waits on a host (R253, R369). -/
structure XFault where
  cause : BitVec 8
  detail : BitVec 8
  level : Nat
  wait : Option Nat
deriving DecidableEq, Repr

/-- A translation found: the leaf, the first virtual byte of the page, its size. -/
structure Leaf where
  leaf : Word
  va : Nat
  size : Nat
deriving DecidableEq, Repr

/-- The level of a leaf by its size (R361). -/
def Leaf.level (x : Leaf) : Nat := if x.size = 1073741824 then 2 else if x.size = 2097152 then 1 else 0

/-- The index bits of a level (R361). -/
def levelIndex (va level : Nat) : Nat := va / 2 ^ (12 + 9 * level) % 512

/-- The CONT block check (R364): the 16 entries of the line. -/
def State.contOk (s : State) (table va : Nat) (e : Word) : Bool :=
  let i0 := levelIndex va 0 / 16 * 16
  let e0 := s.mem.read64 (table + 8 * i0)
  decide (ptePa e0 % 65536 = 0) &&
  (List.range 16).all fun j =>
    let x := s.mem.read64 (table + 8 * (i0 + j))
    pteV x && pteCont x && decide (ptePa x = ptePa e0 + j * 4096) &&
    decide ((x &&& ~~~(0x000FFFFFFFFFF000#64)) = (e &&& ~~~(0x000FFFFFFFFFF000#64)))

/-- The walk below a table (R361 to R364). It reads through the directory, so that it waits for a host that holds a table
line exclusive (R369). -/
def State.walkFrom (s : State) (va : Nat) (table : Nat) : Nat → Except XFault Leaf
  | 0 => .error ⟨0x08, 0x02, 0, none⟩
  | n + 1 =>
    let pa := table + 8 * levelIndex va n
    let e := s.mem.read64 pa
    if s.hostStop (lineOf pa) false then .error ⟨0, 0, n, some (lineOf pa)⟩
    else if s.meetsPoison none pa 8 then .error ⟨0x08, 0x05, n, none⟩
    else if ¬ pteV e then .error ⟨0x08, 0x01, n, none⟩
    else if pteLeaf e then
      (if ¬ s.leafOk e n then .error ⟨0x08, 0x02, n, none⟩
       else if pteCont e then
         (if s.meetsPoison none (lineOf pa * 128) 128 then .error ⟨0x08, 0x05, n, none⟩
          else if s.contOk table va e then .ok ⟨e, va / 65536 * 65536, 65536⟩ else .error ⟨0x08, 0x03, n, none⟩)
       else .ok ⟨e, va / pageSize n * pageSize n, pageSize n⟩)
    else if n = 0 ∨ ¬ pointerOk e then .error ⟨0x08, 0x02, n, none⟩
    else s.walkFrom va (ptePa e) n

/-- The walk of a partition's tables (R360, R361). -/
def State.walk (s : State) (part va : Nat) : Except XFault Leaf :=
  let root := (s.part part).ptroot
  if ¬ pteV root then .error ⟨0x0A, 0x03, 3, none⟩
  else if ¬ (inGlobalPool (ptePa root) 4096 || inLocalPool (ptePa root) 4096) then .error ⟨0x08, 0x02, 3, none⟩
  else s.walkFrom va (ptePa root) 4

/-- The fixed window of stage B1 (R427). -/
def b1Window (va : Nat) : Except XFault Leaf :=
  if 0x400000000000 ≤ va ∧ va < 0x7E0000000000 then
    .ok ⟨((((0#4 ++ 2#3) ++ (0#1 ++ 0#1)) ++ (1#1 ++ 0#2)) ++
          BitVec.ofNat 40 ((0x8000000000000 + (va - 0x400000000000)) / 4096)) ++ 0x7C3#12,
         va / 4096 * 4096, 4096⟩
  else .error ⟨0x0A, 0x03, 3, none⟩

/-- The permission checks on a leaf (R365, R367): U, then the kind, then OWN. -/
def permFault (svc : Bool) (need : Need) (e : Word) : Option (BitVec 8 × BitVec 8) :=
  if ¬ svc ∧ ¬ e.getLsbD 9 then some (0x09, 0x04)
  else if (need = .read ∨ need = .rmw) ∧ ¬ e.getLsbD 6 then some (0x09, 0x01)
  else if (need = .write ∨ need = .rmw) ∧ ¬ e.getLsbD 7 then some (0x09, 0x02)
  else if need = .exec ∧ (¬ e.getLsbD 8 ∨ ptePol e = 2) then some (0x09, 0x03)
  else if ¬ e.getLsbD 54 then some (0x08, 0x04)
  else none

/-! ### Cached translations and pointers (R368, R369) -/

/-- Which structure of an agent an access translates through: a core's instruction or data TLB, the translations
that the current command of one of its engines holds, or the bulk copy cache of a dike die. -/
inductive Cache where
  | insn | data | matrix | stream
  | bulk (dk : Nat)
deriving DecidableEq, Repr

/-- The cached entry of a structure that maps an address of a partition. -/
def tlbFind (l : List Tlb) (part va : Nat) : Option Tlb :=
  l.find? fun e => decide (e.part = part ∧ e.va ≤ va ∧ va < e.va + e.size)

/-- A structure with an entry added and its capacity kept. -/
def tlbAdd (cap : Nat) (l : List Tlb) (e : Tlb) : List Tlb := (e :: l.filter (· ≠ e)).take cap

/-- The entries of one key of a table of structures. -/
def keyed {α : Type} (l : List (Nat × α)) (k : Nat) : List α := (l.filter fun x => decide (x.1 = k)).map (·.2)

/-- The entries of one key replaced. -/
def rekey {α : Type} (l : List (Nat × α)) (k : Nat) (v : List α) : List (Nat × α) :=
  v.map (fun y => (k, y)) ++ l.filter fun y => decide (y.1 ≠ k)

/-- The entries of a structure. -/
def State.cacheOf (s : State) (sid : Nat) : Cache → List Tlb
  | .insn => (s.coreAt sid).itlb
  | .data => (s.coreAt sid).dtlb
  | .matrix => (s.coreAt sid).mtlb
  | .stream => (s.coreAt sid).setlb
  | .bulk dk => keyed s.btlb dk

/-- An entry added to a structure. -/
def State.addCache (s : State) (sid : Nat) (e : Tlb) : Cache → State
  | .insn => s.setCore sid { s.coreAt sid with itlb := tlbAdd 32 (s.coreAt sid).itlb e }
  | .data => s.setCore sid { s.coreAt sid with dtlb := tlbAdd 64 (s.coreAt sid).dtlb e }
  | .matrix => s.setCore sid { s.coreAt sid with mtlb := e :: (s.coreAt sid).mtlb.filter (· ≠ e) }
  | .stream => s.setCore sid { s.coreAt sid with setlb := e :: (s.coreAt sid).setlb.filter (· ≠ e) }
  | .bulk dk => { s with btlb := rekey s.btlb dk (tlbAdd 64 (keyed s.btlb dk) e) }

/-- The cached entry an access may use: its own structure's, then its tile's second-level TLB's. -/
def State.cached (s : State) (sid part va : Nat) (k : Cache) : Option Tlb :=
  match tlbFind (s.cacheOf sid k) part va with
  | some e => some e
  | none => tlbFind (keyed s.stlb (tileOf sid)) part va

/-- The state with a walked leaf cached in the access's structure and its tile's second-level TLB. -/
def State.fillTlb (s : State) (sid part : Nat) (x : Leaf) (k : Cache) : State :=
  let e : Tlb := ⟨part, x.va, x.size, x.leaf⟩
  let s1 := s.addCache sid e k
  let t := tileOf sid
  { s1 with stlb := rekey s1.stlb t (tlbAdd 4096 (keyed s1.stlb t) e) }

/-- The pointers a walk passes from a table on: the level of each entry and the table it names. -/
def State.pointers (s : State) (va table : Nat) : Nat → List (Nat × Nat)
  | 0 => []
  | n + 1 =>
    let pa := table + 8 * levelIndex va n
    let e := s.mem.read64 pa
    if !s.meetsPoison none pa 8 && pteV e && !pteLeaf e && decide (n ≠ 0) && pointerOk e then
      (n, ptePa e) :: s.pointers va (ptePa e) n
    else []

/-- The table lines that a walk reads from a table on. -/
def State.walkLines (s : State) (va table : Nat) : Nat → List Nat
  | 0 => []
  | n + 1 =>
    let pa := table + 8 * levelIndex va n
    let e := s.mem.read64 pa
    lineOf pa :: (if pteV e && !pteLeaf e && decide (n ≠ 0) then s.walkLines va (ptePa e) n else [])

/-- The reads of a walk at the directory (R236, R369): owners of the table lines keep them shared. -/
def State.readTables (s : State) (va table n : Nat) : State := (s.walkLines va table n).foldl State.lower s

/-- The bytes one entry of a level maps. -/
def levelSpan (n : Nat) : Nat := 2 ^ (12 + 9 * n)

/-- The pointers of a walk cached in the tile's walk cache. -/
def State.fillPtrs (s : State) (tile part va : Nat) (ps : List (Nat × Nat)) : State :=
  let new := ps.map fun p => (⟨part, p.1, va / levelSpan p.1 * levelSpan p.1, p.2⟩ : Wptr)
  let l := keyed s.wcache tile
  { s with wcache := rekey s.wcache tile ((new ++ l.filter fun x => !new.contains x).take 256) }

/-- The tables a walk may start from: those of cached pointers whose range holds the address, with their levels. -/
def State.starts (s : State) (tile part va : Nat) : List (Nat × Nat) :=
  ((keyed s.wcache tile).filter fun w =>
    decide (w.part = part ∧ w.va ≤ va ∧ va < w.va + levelSpan w.level)).map fun w => (w.table, w.level)

/-- Two walks with one result. -/
def sameWalk : Except XFault Leaf → Except XFault Leaf → Bool
  | .ok a, .ok b => decide (a = b)
  | .error a, .error b => decide (a = b)
  | _, _ => false

/-- A walk of an agent from a table on: what it reads, and the pointers it leaves in the walk cache. -/
def State.walkVia (s : State) (sid part va table n : Nat) : State :=
  (s.readTables va table n).fillPtrs (tileOf sid) part va (s.pointers va table n)

/-- A walk for an agent. Which of the cached pointers its tile still holds, and so where the walk begins, is free; the
choice is made only where it makes a difference (log 9). While the root is not valid nothing is walked (R360). -/
def State.walkFor (s : State) (sid part va : Nat) : State × Except XFault Leaf :=
  let whole := s.walk part va
  let root := (s.part part).ptroot
  let here := s.starts (tileOf sid) part va
  if !pteV root then (s, whole)
  else if here.all fun c => sameWalk (s.walkFrom va c.1 c.2) whole then (s.walkVia sid part va (ptePa root) 4, whole)
  else
    let s1 := { s with freeCtr := s.freeCtr + 1 }
    match here[(Config.freeWord s.freeCtr).toNat % (here.length + 1)]? with
    | some c => (s1.walkVia sid part va c.1 c.2, s1.walkFrom va c.1 c.2)
    | none => (s1.walkVia sid part va (ptePa root) 4, whole)

/-- The leaf an access of an agent walks to, cached when there is one. -/
def State.walkFill (s : State) (sid part va : Nat) (k : Cache) : State × Except XFault Leaf :=
  match s.walkFor sid part va with
  | (s1, .ok x) => (s1.fillTlb sid part x k, .ok x)
  | (s1, .error f) => (s1, .error f)

/-- The leaf an access of an agent finds. Whether a cached entry is still held, and so used, is free; the choice is made
only where it makes a difference (log 9). While the root is not valid there is none (R360). -/
def State.findLeaf (s : State) (sid part va : Nat) (k : Cache) : State × Except XFault Leaf :=
  if s.stage = .b1 then (s, b1Window va)
  else if !pteV (s.part part).ptroot then (s, .error ⟨0x0A, 0x03, 3, none⟩)
  else
    match s.cached sid part va k with
    | none => s.walkFill sid part va k
    | some e =>
      let x : Leaf := ⟨e.leaf, e.va, e.size⟩
      let q := s.walkFor sid part va
      if sameWalk q.2 (.ok x) then (q.1, .ok x)
      else
        let s1 := { s with freeCtr := s.freeCtr + 1 }
        if Config.freeBit s.freeCtr then (s1, .ok x) else s1.walkFill sid part va k

/-- The result of a translation: the physical address, the leaf and its level. -/
structure Phys where
  pa : Nat
  leaf : Word
  /-- The level of the leaf (R361). -/
  level : Nat
deriving DecidableEq, Repr

/-- The translation of one address by an agent through one of its structures (chapter 14). The virtual address has bits
[63:48] zero and lies in no window. -/
def State.translateBy (s : State) (k : Cache) (sid va : Nat) (need : Need) : State × Except XFault Phys :=
  match s.findLeaf sid (s.partOf sid) va k with
  | (s1, .error f) => (s1, .error f)
  | (s1, .ok x) =>
    match permFault (isSvc sid) need x.leaf with
    | some (c, d) => (s1, .error ⟨c, d, x.level, none⟩)
    | none =>
      let base := if pteCont x.leaf then ptePa x.leaf / 65536 * 65536 else ptePa x.leaf
      (s1, .ok ⟨base + (va - x.va), x.leaf, x.level⟩)

/-- The translation of one address of a core's own access. -/
def State.translate (s : State) (sid va : Nat) (need : Need) : State × Except XFault Phys :=
  s.translateBy (if need = .exec then .insn else .data) sid va need

/-- M2 of the translation record of a core's access (R371). -/
def xlatM2 (agent : Nat) (need : Need) (level sid : Nat) : Word :=
  BitVec.ofNat 64 (agent * 2 ^ 60 + need.acc.toNat * 2 ^ 58 + level * 2 ^ 50 +
    (if isSvc sid then 4096 + sid % 4096 else sid))

/-- Whether an address lies in the ranges that are not translated: the windows and the reserved addresses beside them (R25). -/
def inWindows (va : Nat) : Bool := decide (0x7E0000000000 ≤ va ∧ va < 0x800000000000)

/-- A translation fault of a core's own access (R370, R371). -/
def xlatTrap (f : XFault) (agent : Nat) (need : Need) (sid va : Nat) : Trap :=
  ⟨f.cause, f.detail, none, BitVec.ofNat 64 va, xlatM2 agent need f.level sid, 0⟩

/-- What a failed translation of a core's own access leads to: the fault, or the wait for a host (R369). -/
def xlatStop (f : XFault) (agent : Nat) (need : Need) (sid va : Nat) (info : Option Half) : Stop :=
  match f.wait with
  | some line => .recall line false
  | none => .trap { xlatTrap f agent need sid va with info := info }

end Sys2Proof.Machine
end

