-- ==== Sys2Proof/Machine/Ops.lean ====
section
/-! DEFINITION. The operations every instruction shares: landing of long results (R45 to R49), commit (R282) and
publication, discard (R283), taking an exception (R396 to R405) and the return from one (R400, R406), and the frame in
which an instruction runs (R34, R43, R50, R52). -/

namespace Sys2Proof.Machine

/-! ### Setters of the core in focus -/

/-- The core in focus updated. -/
def State.upd (s : State) (f : Core → Core) : State := { s with core := f s.core }

/-- A := v. -/
def State.setA (s : State) (v : Word) : State := { s with core := { s.core with r := { s.core.r with a := v } } }

/-- FLG with Z, N, C, V replaced under a mask. -/
def State.setZncv (s : State) (mask v : BitVec 4) : State :=
  { s with core := { s.core with r := { s.core.r with flg := flgZncv s.core.r.flg mask v } } }

/-- Z := b. -/
def State.setZ (s : State) (b : Bool) : State := s.setZncv 8 (if b then 8 else 0)

/-- FLG with sticky flags ORed in. -/
def State.orSticky (s : State) (st : BitVec 5) : State :=
  { s with core := { s.core with r := { s.core.r with flg := flgSticky s.core.r.flg st } } }

/-! ### Headers and counts (R284, R306) -/

/-- A message header (R306). -/
def mkHdr (src part : Nat) (ch : BitVec 6) (cls : BitVec 3) (len : Nat) (lid seq : BitVec 16) : Word :=
  (((((BitVec.ofNat 12 src ++ BitVec.ofNat 7 part) ++ ch) ++ cls) ++ BitVec.ofNat 4 len) ++ lid) ++ seq

/-- LID of an agent: its launch's, 0 for a service core or an idle core (R284, R288). -/
def Core.lid (c : Core) : BitVec 16 := match c.seat with | some x => x.lid | none => 0

/-- The interface that counts for an agent (R284): its cluster, or its service core. -/
def ifaceOf (sid : Nat) : Nat := if isSvc sid then 1024 + tileOf sid else clusterOf sid

/-- The key of a count. -/
def countKey (iface part : Nat) (lid : BitVec 16) : Nat := iface * 8388608 + part * 65536 + lid.toNat

/-- A count updated; LID 0 is not counted (R284). -/
def State.count (s : State) (iface part : Nat) (lid : BitVec 16) (f : Counts → Counts) : State :=
  if lid = 0 then s
  else
    let k := countKey iface part lid
    { s with counts := setAt s.counts k (f (getAt ⟨0, 0, 0⟩ s.counts k)) }

/-- The next SEQ of a source toward a destination and channel, and the table after it (R306). -/
def nextSeq (l : List ((Nat × BitVec 6) × BitVec 16)) (d : Nat) (ch : BitVec 6) :
    BitVec 16 × List ((Nat × BitVec 6) × BitVec 16) :=
  match l.find? (fun e => e.1 == (d, ch)) with
  | some e => (e.2, l.map fun x => if x.1 == (d, ch) then (x.1, x.2 + 1) else x)
  | none => (0, l ++ [((d, ch), 1)])

/-- A free doubleword and the counter after it (log 7). -/
def State.free (s : State) : Word × State := (Config.freeWord s.freeCtr, { s with freeCtr := s.freeCtr + 1 })

/-! ### Fault words and fault messages (R395, R398) -/

/-- The fault word (R395). -/
def faultWord (cause detail : BitVec 8) (info : Half) : BitVec 32 := (cause ++ detail) ++ info

/-- M0 of a fault message (R398). -/
def faultM0 (fword : BitVec 32) (kind : BitVec 2) (ch : BitVec 6) (token : BitVec 8) (sid : Nat) : Word :=
  ((((fword ++ kind) ++ ch) ++ token) ++ 0#3) ++ (BitVec.ofBool (isSvc sid) ++ BitVec.ofNat 12 (sid % 4096))

/-- A fault message to channel 59 of the service core of the agent's tile (R398). Its sequence is free (log 14). -/
def State.sendFault (s : State) (sid : Nat) (lid : BitVec 16) (payload : List Word) : State :=
  let q := s.free
  let dst := svcOf (tileOf sid)
  { q.2 with wire := q.2.wire ++
      [⟨.fault, sid, dst, 59, mkHdr (srcId sid) (s.partOf sid) 59 0 8 lid (q.1.extractLsb' 0 16), payload, 0, none, 0, 0, .direct⟩] }

/-- The message of a published store of an agent that met an error (R202): the FCODE cause, detail 0x80, the line. -/
def State.storeError (s : State) (sid : Nat) (cause : BitVec 8) (line : Nat) : State :=
  s.sendFault sid (s.coreAt sid).lid
    [faultM0 (faultWord cause 0x80 0) 3 0 0 sid, BitVec.ofNat 64 (line * 128), 0, 0, 0, 0, 0, 0]

/-! ### Publication (R172, R282, R309 to R312) -/

/-- A fold over list elements. -/
def foldSt {α : Type} (f : State → α → State) : State → List α → State
  | s, [] => s
  | s, x :: t => foldSt f (f s x) t

/-- The delivered channel of a SEND under the class registers of its partition (R330). -/
def State.classChannel (s : State) (part : Nat) (cls : BitVec 3) (ch : BitVec 6) : BitVec 6 :=
  if cls.toNat < 4 ∨ 56 ≤ ch.toNat then ch
  else BitVec.ofNat 6 ((ch.toNat + ((s.part part).rcls.toList.getD (cls.toNat - 4) 0).toNat % 64) % 56)

/-- The peer-route entry of a partition (R384). -/
def State.peerRoute (s : State) (part pr : Nat) : Word := getAt 0 s.sluice.proutes (part * 64 + pr)

/-- The key under which SEQ of PSENDs counts: the peer's package and core (R306). -/
def peerKey (route : Word) (core : Nat) : Nat := 65536 + (route.extractLsb' 58 5).toNat * 4096 + core

/-- One receiver's copy of a message published by the agent in focus. -/
def State.publishTo (s : State) (e : MsgEntry) (entry d : Nat) : State :=
  let part := s.partOf s.focus
  let c := s.core
  match e.kind with
  | .wrs =>
    let s1 := s.count (ifaceOf s.focus) part c.lid (fun x => { x with s := x.s + 1 })
    { s1 with wire := s1.wire ++
        [⟨.wrs (e.word.extractLsb' 49 3), s.focus, d, 0, mkHdr (srcId s.focus) part 0 0 0 c.lid 0, e.payload, e.word,
          some entry, 0, 0, .direct⟩] }
  | .psend =>
    let rt := (e.word.extractLsb' 46 6).toNat
    let q := nextSeq c.seqCnt (peerKey (s.peerRoute part rt) d) 59
    let s1 := { s with core := { c with seqCnt := q.2 } }
    { s1 with wire := s1.wire ++
        [⟨.psend rt part, s.focus, d, 59, mkHdr (srcId s.focus) part 59 0 e.payload.length c.lid q.1, e.payload, e.word,
          some entry, 0, 0, .direct⟩] }
  | .send | .bcast =>
    let ch := s.classChannel part e.cls e.ch
    let q := nextSeq c.seqCnt d ch
    let s1 := { s with core := { c with seqCnt := q.2 } }
    let s2 := s1.count (ifaceOf s.focus) part c.lid (fun x => { x with s := x.s + 1 })
    { s2 with wire := s2.wire ++
        [⟨.msg, s.focus, d, ch, mkHdr (srcId s.focus) part ch e.cls e.payload.length c.lid q.1, e.payload, e.word,
          some entry, 0, 0, ⟨if e.cls.toNat < 4 then none else some e.ch, none, false⟩⟩] }

/-- A buffered message published: one copy per receiver, its entry held until all are acknowledged (R281, R310). -/
def State.publishMsg (s : State) (e : MsgEntry) : State :=
  let n := s.core.nextEntry
  let s1 := { s with core := { s.core with
    nextEntry := n + 1
    held := if e.dests.isEmpty then s.core.held else s.core.held ++ [(n, e.dests.length)] } }
  foldSt (fun t d => t.publishTo e n d) s1 e.dests

/-- The bytes of a remote store performed in the owning cluster's store (R185). -/
def State.remoteWrite (s : State) (cl off n mask v : Nat) : State :=
  s.putStore (cl * 16777216 + off) n mask v

/-- A nibble written in a byte (R184). -/
def nibbleByte (mask : BitVec 2) (old new : Byte) : Byte := mergeNibbles mask old new

/-- The value an atomic leaves (R209); the FP operations come from `fp` (Machine/Atomics.lean supplies them). -/
def amoApply (fp : Amo → Nat → Nat) (op : Amo) (old : Nat) : Nat :=
  match op.op with
  | .fmin | .fmax | .fadd => fp op old
  | o => amoInt o op.bytes old op.arg.toNat op.expect.toNat

/-- The agent in focus remembers a line it has stored to in a cache, until its next XFENCE (R181, R215). -/
def State.wroteLine (s : State) (line : Nat) : State :=
  if s.core.wrote.contains line then s else { s with core := { s.core with wrote := s.core.wrote ++ [line] } }

/-- Whether an atomic without a result is performed in the cluster's L1 (R182): scope CORE or CLU, the line held in M there. -/
def State.amoInL1 (s : State) (sc : BitVec 3) (pa : Nat) : Bool :=
  !s.svc && decide (sc.toNat ≤ 1) && decide (s.l1At (clusterOf s.focus) (lineOf pa) = some .m)

/-- A masked write of an atomic or STN (R182, R184). -/
def State.atomicWrite (s : State) (sc : BitVec 3) (pa n mask v : Nat) : State :=
  if s.amoInL1 sc pa then (s.storeL1 (clusterOf s.focus) pa n mask v).wroteLine (lineOf pa) else s.storeHome pa n mask v

/-- A published store that fails: it is dropped and reported (R202). -/
def State.dropStore (s : State) (pa : Nat) (cause : BitVec 8) : State := s.storeError s.focus cause (lineOf pa)

/-- The remote-window address of a byte of a cluster store, by the cluster's south-west core (R25, R26). -/
def windowAddr (cl off : Nat) : Nat := 0x7E0000000000 + (cl / 256 * 1024 + cl / 16 % 16 * 64 + cl % 16 * 2) * 16777216 + off

/-- The error of a published read-modify-write that meets a poisoned byte of a cluster store: dropped and reported with the
remote-window address of the line (R202, R413; log 69). -/
def State.dropLocal (s : State) (a : Nat) : State := s.dropStore (windowAddr (a / 16777216) (a % 16777216)) 0x11

/-- Performing a published global entry (R172, R203): program order, at once (log 4). A store that has failed, and a
read-modify-write of poisoned bytes, are dropped and reported (R202). -/
def State.performGlobal (fp : Amo → Nat → Nat) (s : State) (g : GEntry) : State :=
  match g.place with
  | .remote cl off =>
    (match findAt s.core.doomed (lineOf (windowAddr cl off)), g.kind with
     | some cause, _ => s.dropStore (windowAddr cl off) cause
     | none, .bytes mask data _ => s.remoteWrite cl off 16 mask.toNat data.toNat
     | none, .nibble o mask d =>
       let a := cl * 16777216 + off + o.toNat
       if s.storeBad a 1 then s.dropLocal a else { s with spad := s.spad.write a (nibbleByte mask (s.spad.read a) d) }
     | none, .amo o op =>
       let a := cl * 16777216 + off + o.toNat
       if s.storeBad a op.bytes then s.dropLocal a
       else { s with spad := s.spad.writeLE a op.bytes (amoApply fp op (s.spad.readLE a op.bytes)) })
  | .phys pa =>
    match findAt s.core.doomed (lineOf pa) with
    | some cause => s.dropStore pa cause
    | none =>
      match g.kind with
      | .bytes mask data home =>
        let t := s.writeLine s.focus (!home) g.dd pa 16 mask.toNat data.toNat
        if home then t else t.wroteLine (lineOf pa)
      | .nibble o mask d =>
        if s.meetsPoison (s.cacheFor s.focus) (pa + o.toNat) 1 then s.dropStore pa 0x11
        else s.atomicWrite 0 (pa + o.toNat) 1 1 (nibbleByte mask (s.mem.read (pa + o.toNat)) d).toNat
      | .amo o op =>
        if s.meetsPoison (s.cacheFor s.focus) (pa + o.toNat) op.bytes then s.dropStore pa 0x11
        else s.atomicWrite g.sc (pa + o.toNat) op.bytes (2 ^ op.bytes - 1)
          (amoApply fp op (s.physLE (pa + o.toNat) op.bytes))

/-- The host answers that a buffered entry's publication needs first (R188, R253). -/
def State.entryStops (s : State) : BufEntry → List (Nat × Bool)
  | .glob g =>
    (match g.place with
     | .phys pa =>
       if (findAt s.core.doomed (lineOf pa)).isSome then []
       else s.writeStops (lineOf pa) ++ (match g.kind with
         | .bytes _ _ false => s.allocStops s.focus true (lineOf pa)
         | _ => [])
     | .remote _ _ => [])
  | _ => []

/-- Whether an entry is a release: a message, or a store that is one (R170, R176). -/
def BufEntry.isRelease : BufEntry → Bool
  | .msg _ => true
  | .glob g => releases g.od
  | _ => false

/-- The host answers that a region's publication needs first (R188, R253): for its stores, and, before a release, for the core's
line operations, which count as stores before it (R220). -/
def State.publishStops (s : State) : List (Nat × Bool) :=
  s.core.buf.flatMap s.entryStops ++ (if s.core.buf.any BufEntry.isRelease then s.ownStops else [])

/-- The host answer that the region's commit must wait for (R188, R253), as a line and whether its copies go. -/
def State.commitBlock (s : State) : Option (Nat × Bool) := s.hostBlock s.publishStops

/-- Applying a published persistent write to the cluster store (R97, R282). One that reads a poisoned byte is reported, and the
byte stays poisoned (R202). -/
def State.applyPers (fp : Amo → Nat → Nat) (s : State) (blk : BitVec 24) (k : PKind) : State :=
  let base := clusterOf s.focus * 16777216 + blk.toNat
  match k with
  | .bytes mask data =>
    let t := ({ s with spad := (List.range 16).foldl (fun m i =>
        if nibbles mask i = 0 then m
        else m.write (base + i) (mergeNibbles (nibbles mask i) (m.read (base + i)) (data.extractLsb' (8 * i) 8))) s.spad } :
      State).healStore base 16 fun i => nibbles mask i == 3
    if (List.range 16).any fun i => nibbles mask i != 0 && t.storeBad (base + i) 1 then t.dropLocal base else t
  | .amo off op =>
    let a := base + off.toNat
    if s.storeBad a op.bytes then s.dropLocal a
    else { s with spad := s.spad.writeLE a op.bytes (amoApply fp op (s.spad.readLE a op.bytes)) }

/-- Publishing one entry. -/
def State.publish (fp : Amo → Nat → Nat) (s : State) : BufEntry → State
  | .glob g => s.performGlobal fp g
  | .pers blk k => s.applyPers fp blk k
  | .msg e => s.publishMsg e
  | .fence _ _ => s

/-! ### Long results (R45 to R49) -/

/-- A write's nibbles that a later write to the same target covers (R47). -/
def coverMask (w later : LongWrite) : BitVec 128 :=
  match w.target, later.target with
  | .va a, .va b => if a = b then later.mask else 0
  | .mem a, .mem b =>
    if b.toNat ≤ a.toNat then BitVec.ofNat 128 (later.mask.toNat / 4 ^ (a.toNat - b.toNat))
    else BitVec.ofNat 128 (later.mask.toNat * 4 ^ (b.toNat - a.toNat))
  | t, u => if t = u then BitVec.allOnes 128 else 0

/-- Whether two results target the same register or bytes (R47), whatever results between them have replaced. -/
def LongRes.meets (l later : LongRes) : Bool :=
  (l.writes ++ l.lost).any fun w => later.writes.any fun x => w.mask &&& coverMask w x != 0

/-- An outstanding result without what a later long instruction's result replaces (R47). Of two results that target one
register the later one's Z, N, C, V stand too, since the two land in program order (R46; log 44). -/
def LongRes.without (l : LongRes) (later : LongRes) : LongRes :=
  { l with
    writes := (l.writes.map fun w =>
      { w with mask := later.writes.foldl (fun m x => m &&& ~~~(coverMask w x)) w.mask }).filter (·.mask != 0)
    zncvMask := if l.meets later then l.zncvMask &&& ~~~later.zncvMask else l.zncvMask
    lost := l.lost ++ l.writes.filter fun w => later.writes.any fun x => w.mask &&& coverMask w x != 0 }

/-- The nibbles of a memory write; one that is held until earlier accesses have been performed asks for a commit first (R171). -/
def State.landMem (s : State) (ea : BitVec 24) (mask : BitVec 128) (v : Vec) : Except Stop State :=
  match s.localKind s.focus ea.toNat with
  | .pers =>
    match s.core.bufferPersNibbles (clusterOf s.focus) 6 ea.toNat 64 mask.toNat v.toNat with
    | .ok c => .ok { s with core := c }
    | .error e => .error e
  | _ =>
    if heldBy true s.core.buf then .error .commitFirst
    else if s.svc then .ok { s with lstore := s.lstore.writeNibbles (tileOf s.focus * 16777216 + ea.toNat) 64 mask.toNat v.toNat }
    else
      let a := clusterOf s.focus * 16777216 + ea.toNat
      .ok (({ s with spad := s.spad.writeNibbles a 64 mask.toNat v.toNat } : State).healStore a 64 fun i =>
        decide (mask.toNat / 4 ^ i % 4 = 3))

/-- One write of a result. -/
def State.landWrite (s : State) (w : LongWrite) : Except Stop State :=
  match w.target with
  | .mem ea => s.landMem ea w.mask w.value
  | t =>
    match s.core.writeReg t w.mask w.value with
    | .ok c => .ok { s with core := c }
    | .error e => .error e

/-- Writes in order. -/
def State.landWrites : State → List LongWrite → Except Stop State
  | s, [] => .ok s
  | s, w :: t =>
    match s.landWrite w with
    | .ok s' => State.landWrites s' t
    | .error e => .error e

/-- A whole result with its flags (R46). -/
def State.land (s : State) (l : LongRes) : Except Stop State :=
  match s.landWrites l.writes with
  | .ok s' => .ok ((s'.setZncv l.zncvMask l.zncv).orSticky l.sticky)
  | .error e => .error e

/-- Landing every result whose window has closed, oldest first: the state, the results that stay, and those that landed.
A result that stays loses what a later one that has landed replaces (R47; log 44). One that needs a buffer entry when none is
free stays for the commit, and those behind it with it. -/
def State.landList : State → List LongRes → Bool → State × List LongRes × List LongRes
  | s, [], _ => (s, [], [])
  | s, l :: t, all =>
    if all ∨ l.left = 0 then
      (match s.land l with
       | .ok s' => let r := State.landList s' t all; (r.1, r.2.1, l :: r.2.2)
       | .error _ => (s, l :: t, []))
    else
      let r := State.landList s t all
      (r.1, r.2.2.foldl LongRes.without l :: r.2.1, r.2.2)

/-- Landing the results that are due (R45). -/
def State.landDue (s : State) : State :=
  let r := State.landList s s.core.long false
  { r.1 with core := { r.1.core with long := r.2.1 } }

/-- Landing every outstanding result (R48). -/
def State.landAll (s : State) : State :=
  let r := State.landList s s.core.long true
  { r.1 with core := { r.1.core with long := r.2.1 } }

/-- A new long result joined to the outstanding ones, or landed at once without a window: it replaces what those have
not landed yet (R47). -/
def State.addLong (s : State) (l : LongRes) : Except Stop State :=
  if l.left = 0 then
    { s with core := { s.core with long := s.core.long.map fun (x : LongRes) => x.without l } }.land l
  else .ok { s with core := { s.core with long := s.core.long ++ [l] } }

/-- One window instruction counted in every open window (R45). -/
def State.tickLong (s : State) : State :=
  { s with core := { s.core with long := s.core.long.map fun l => { l with left := l.left - 1 } } }

/-- Every open window closed by a taken branch (R45). -/
def State.closeWindows (s : State) : State :=
  { s with core := { s.core with long := s.core.long.map fun l => { l with left := 0 } } }

/-! ### Commit and discard (R282, R283) -/

/-- The first 24 slots. -/
def slots24 (m : Vector Word 32) : Vector Word 24 := Vector.ofFn fun i => m[i.val]'(by omega)

/-- The checkpoint of the core as it stands (R17, R282). -/
def Core.checkpoint (c : Core) : Ckpt :=
  ⟨c.r.a, c.r.flg, c.r.p, slots24 c.r.m, c.r.pres.extractLsb' 0 24, c.pc, c.rep⟩

/-- The FP part of atomics, tied in Machine/Atomics.lean; a parameter so that commit is defined once. -/
abbrev FpAmo := Amo → Nat → Nat

/-- The region buffer published in program order (log 4), its entries and records free. -/
def State.publishBuf (fp : FpAmo) (s : State) : State :=
  foldSt (fun t e => t.publish fp e) { s with core := { s.core with buf := [], rsave := [] } } s.core.buf

/-- Commit() (R282): results land, the buffer is published, the checkpoint is taken. Results that find no free entry land in
the buffer that the publication has emptied, and are published with it (R48). -/
def State.commitWith (fp : FpAmo) (s : State) : State :=
  let s1 := s.landAll.publishBuf fp
  let s2 := if s1.core.long = [] then s1 else s1.landAll.publishBuf fp
  { s2 with core := { s2.core with
      long := []
      ck := s2.core.checkpoint
      rsave := []
      icount := 0
      rerun := false
      mismOnce := false
      doomed := [] } }

/-- M0 to M23 of a checkpoint under the present M24 to M31. -/
def joinSlots (lo : Vector Word 24) (hi : Vector Word 32) : Vector Word 32 :=
  Vector.ofFn fun i => if h : i.val < 24 then lo[i.val] else hi[i.val]

/-- The registers of a checkpoint restored (R17): VA and K are cleared, M24 to M31 stay. -/
def Core.restore (c : Core) (k : Ckpt) : Core :=
  { c with
    r := { a := k.a, flg := k.flg, p := k.p, m := joinSlots k.m c.r.m
           pres := c.r.pres.extractLsb' 24 8 ++ k.pres
           va := Vector.replicate 4 0, k := Vector.replicate 4 0 }
    pc := k.pc
    xfer := true
    rep := k.rep }

/-- The recorded receive slots restored (R18): a record holds the deposit that has landed since it was made. -/
def restoreSlots : Core → List SlotSave → Core
  | c, [] => c
  | c, e :: t => restoreSlots (c.putSlot e.n e.value e.pres) t

/-- A discard (R283). -/
def State.discard (s : State) : State :=
  let c := restoreSlots s.core s.core.rsave
  { s with core := { c.restore c.ck with buf := [], long := [], rsave := [], icount := 0, doomed := [], capt := none } }

/-! ### Taking an exception (R395 to R405) -/

/-- The faulting instruction: its base word, second word and the address of its first word. -/
structure Site where
  base : Half
  second : Half
  first : Word
deriving DecidableEq, Repr

/-- REPST of a frame (R405). -/
def Rep.word (r : Rep) : Word :=
  (((((r.left ++ r.b1) ++ r.str) ++ r.iter) ++ r.pos) ++ 0#9) ++ BitVec.ofBool r.act

/-- The first free park slot (R397). -/
def Core.freePark (c : Core) : Option (BitVec 2) :=
  (List.range 4).find? (fun i => (c.park (BitVec.ofNat 2 i)).st = .free) |>.map (BitVec.ofNat 2)

/-- A park slot replaced. -/
def Core.setPark (c : Core) (n : BitVec 2) (p : Park) : Core := { c with parks := c.parks.set n.toNat p n.isLt }

/-- TOKEN (R397). -/
def parkToken (n : BitVec 2) (p : Park) : BitVec 8 := n ++ p.gen

/-- The payload of the fault message of a park slot (R398). -/
def parkPayload (sid : Nat) (n : BitVec 2) (p : Park) (kind : BitVec 2) (m1 : Word) : List Word :=
  let i := p.info
  [faultM0 p.fword kind p.chan (parkToken n p) sid,
   if kind = 1 then m1 else i.getD 0 0, if kind = 1 then 0 else i.getD 1 0, if kind = 1 then 0 else i.getD 2 0,
   i.getD 3 0, p.ck.pc, i.getD 4 0, p.ck.a]

/-! #### Interrupts to hosts (R319, R391) -/

/-- The port that holds a partition's lease (R387): none while HOLD is 0. -/
def State.leasePort (s : State) (part : Nat) : Option Nat :=
  match ((s.part part).lease.extractLsb' 62 2).toNat with
  | 1 => some 0
  | 2 => some 1
  | _ => none

/-- The key of a vector in a function's MSI-X table. -/
def vecKey (port part v : Nat) : Nat := (port * 128 + part) * 2048 + v

/-- Whether the host has masked a vector: bit 32 of its control doubleword, set in an entry nothing has written (the
PCIe MSI-X rules, log 18). -/
def State.msixMasked (s : State) (k : Nat) : Bool :=
  match findAt s.sluice.msix k with
  | some e => e.2.getLsbD 32
  | none => true

/-- Pending bits set. -/
def State.setPba (s : State) (ks : List Nat) : State :=
  { s with sluice := { s.sluice with pba := (s.sluice.pba ++ ks).eraseDups } }

/-- The interrupt of a vector of a partition at one port: sent, or pending while masked. -/
def State.msixAt (s : State) (port part v : Nat) : State :=
  let k := vecKey port part v
  if s.msixMasked k then s.setPba [k]
  else { s with sluice := { s.sluice with msi := s.sluice.msi ++ [(port, k)] } }

/-- The interrupt of a partition's vector to the lease holder (R391). -/
def State.raiseMsix (s : State) (part v : Nat) : State :=
  match s.leasePort part with
  | none => s.setPba [vecKey 0 part v, vecKey 1 part v]
  | some port => s.msixAt port part v

/-- The interrupt of a vector of the PF at each port whose link is up (R401, R421). -/
def State.alertHosts (s : State) (v : Nat) : State :=
  (List.range 2).foldl (fun t h => if t.sluice.up.toList.getD h false then t.msixAt h 0 v else t) s

/-- A double fault: the service core stops, and sends a DBL notice to the management service core; that core's own raises
vector 0 of the PF (R401). -/
def State.doubleFault (s : State) (cause : BitVec 8) : State :=
  let sid := s.focus
  let q := s.free
  let fw := faultWord 0x3F cause (BitVec.ofNat 16 (sid % 4096))
  let s1 := { q.2 with core := { q.2.core with stopped := true } }
  if sid = svcOf 0 then s1.alertHosts 0
  else { s1 with wire := s1.wire ++
      [⟨.fault, sid, svcOf 0, 59, mkHdr (srcId sid) (s.partOf sid) 59 0 8 0 (q.1.extractLsb' 0 16),
        [faultM0 fw 3 0 0 sid, 0, 0, 0, 0, 0, 0, 0], 0, none, 0, 0, .direct⟩] }

/-- Parking a checkpoint in a free slot, its generation advanced (R397). -/
def State.parkSlot (s : State) (st : ParkSt) (fw : BitVec 32) (ch : BitVec 6) (info : List Word) :
    Option (BitVec 2 × Park × State) :=
  match s.core.freePark with
  | none => none
  | some n =>
    let p : Park := ⟨st, (s.core.park n).gen + 1, s.core.ck, ch, fw, info, s.core.rerun, s.core.mismOnce⟩
    some (n, p, { s with core := s.core.setPark n p })

/-- Parking a region and sending its fault message of KIND 0 (R397). -/
def State.parkRegion (s : State) (fw : BitVec 32) (ch : BitVec 6) (info : List Word) : State :=
  match s.parkSlot .parked fw ch info with
  | none => s
  | some (n, p, s1) => s1.sendFault s.focus s.core.lid (parkPayload s.focus n p 0 0)

/-! #### Migration (R403 to R405) -/

/-- Writing doublewords from an address. -/
def writeDws (m : Memory) (a : Nat) : List Word → Memory
  | [] => m
  | w :: t => writeDws (m.writeLE a 8 w.toNat) (a + 8) t

/-- The 64 doublewords of a migration frame (R405). -/
def frameWords (lid : BitVec 16) (part sid : Nat) (n : BitVec 2) (p : Park) : List Word :=
  [((((lid ++ 0#1) ++ BitVec.ofNat 7 part) ++ 0#2) ++ p.chan) ++ p.fword,
   ((((0#34 ++ p.gen) ++ 0#11) ++ BitVec.ofBool (isSvc sid)) ++ BitVec.ofNat 12 (sid % 4096)),
   p.info.getD 3 0, 0, p.ck.pc, p.ck.rep.word, if p.ck.rep.act then p.ck.rep.addr else 0, p.ck.a, p.ck.flg,
   p.ck.pres.setWidth 64] ++ List.replicate 6 0 ++ p.ck.p.toList ++ p.ck.m.toList ++ List.replicate 16 0

/-- The smallest free frame of a service core with frames in use (R403, R404; log 15). -/
def freeFrame (migcfg migbusy : Word) : Option Nat :=
  if ¬ migcfg.getLsbD 31 then none
  else (List.range ((migcfg.extractLsb' 18 6).toNat + 1)).find? fun f => ¬ migbusy.getLsbD f

/-- Local address of frame f (R403). -/
def frameAddr (migcfg : Word) (f : Nat) : Nat := 512 * ((migcfg.extractLsb' 9 9).toNat + f)

/-- Offering the region of a park slot of an agent to its tile's service core (R403, R404). -/
def State.migrate (s : State) (sid : Nat) (n : BitVec 2) : State :=
  let c := s.coreAt sid
  let p := c.park n
  let t := tileOf sid
  let v := s.coreAt (svcOf t)
  match freeFrame v.ctl.migcfg v.ctl.migbusy with
  | none => s.setCore sid (c.setPark n { p with st := .waiting })
  | some f =>
    let a := frameAddr v.ctl.migcfg f
    let s1 := { s with lstore := writeDws s.lstore (t * 16777216 + a) (frameWords c.lid (s.partOf sid) sid n p) }
    let s2 := s1.setCore sid (c.setPark n { p with st := .migrated })
    let v2 := s2.coreAt (svcOf t)
    let s3 := s2.setCore (svcOf t) { v2 with
      ctl := { v2.ctl with migbusy := v2.ctl.migbusy ||| BitVec.ofNat 64 (2 ^ f) }
      frames := setAt v2.frames f (sid, parkToken n p) }
    s3.sendFault sid c.lid (parkPayload sid n { p with st := .migrated } 1 (BitVec.ofNat 64 a))

/-- Migrating the running activation's checkpoint (R404): it takes a park slot, then a frame. -/
def State.migrateRegion (s : State) (fw : BitVec 32) (ch : BitVec 6) (info : List Word) : State :=
  match s.parkSlot .migrated fw ch info with
  | none => s
  | some (n, _, s1) => s1.migrate s.focus n

/-- A double fault (R401): the region parks without a message of its own, the service core stops. -/
def State.doubleFaultRegion (s : State) (fw : BitVec 32) (ch : BitVec 6) (info : List Word) : State :=
  match s.parkSlot .parked fw ch info with
  | none => s.doubleFault (fw.extractLsb' 24 8)
  | some (_, _, s1) => s1.doubleFault (fw.extractLsb' 24 8)

/-- What becomes of the discarded region (R396, R401): a fault of channel 59 on a service core is a double fault;
TRAP and SVC migrate; every other cause parks. -/
def State.settleFault (s : State) (fw : BitVec 32) (ch : BitVec 6) (info : List Word) : State :=
  if s.svc ∧ ch = 59 then s.doubleFaultRegion fw ch info
  else if fw.extractLsb' 24 8 = 0x30#8 ∨ fw.extractLsb' 24 8 = 0x31#8 then s.migrateRegion fw ch info
  else s.parkRegion fw ch info

/-- A fault of the running activation (R396): FCODE, discard, then park or migrate; the activation ends. -/
def State.takeFault (s : State) (x : Site) (t : Trap) : State :=
  let fw := faultWord t.cause t.detail (t.info.getD x.base)
  let ch := s.core.act.getD 0
  let s1 := ({ s with core := { s.core with ctl := { s.core.ctl with fcode := fw } } }).discard
  let s2 := s1.settleFault fw ch [t.m1, t.m2, t.m3, x.first, ((0#32 ++ x.second) ++ x.base)]
  { s2 with core := { s2.core with act := none } }

end Sys2Proof.Machine
end

