-- ==== Sys2Proof/Machine/Atomics.lean ====
section
/-! DEFINITION. The floating-point atomics (R209) and, with them, Commit() (R282). -/

namespace Sys2Proof.Machine

/-- The format of an FP atomic of a width (R209, R210). -/
def amoFmt (op : Amo) : Fmt :=
  if op.bytes = 8 then f64 else if op.bytes = 4 then f32 else if op.bf then bf16 else f16

/-- The result and flags of an FP atomic: AMOFADD as FADD, AMOMIN and AMOMAX with FP = 1 as R90. -/
def fpAmoFlags (op : Amo) (old : Nat) : Nat × Flags5 :=
  match op.op with
  | .fadd => fAdd (amoFmt op) (modeOfFlg op.mode) old op.arg.toNat
  | .fmin => fMinMax (amoFmt op) false false old op.arg.toNat
  | .fmax => fMinMax (amoFmt op) true false old op.arg.toNat
  | _ => (old, 0)

/-- The result of an FP atomic. -/
def fpAmo : FpAmo := fun op old => (fpAmoFlags op old).1

/-- The new value of any atomic. -/
def amoNew (op : Amo) (old : Nat) : Nat := amoApply fpAmo op old

/-- Commit() (R282). -/
def State.commit (s : State) : State := s.commitWith fpAmo

end Sys2Proof.Machine
end

