-- ==== Sys2Proof/Machine/DecodeFaults.lean ====
section
/-! DEFINITION. The decode faults that the fields of an instruction decide (R43 orders 6 to 13): for each instruction
its attributes (which specifier kinds, prefixes, orders and auxiliary bits it admits), and one check over them. -/

namespace Sys2Proof.Machine

/-- What a specifier may be (R32, R43 order 7). -/
inductive SUse where
  /-- Any but a reserved one. -/
  | any
  /-- Not an immediate: a destination, or an address, tile, line, ticket. -/
  | noImm
  /-- A pointer specifier. -/
  | ptr
  /-- 0b000000. -/
  | zero
  /-- A slot up to M28 (R140). -/
  | slot28
deriving DecidableEq, Repr

/-- Who consumes an IMMX chain (R36). -/
inductive ImmxUse where
  /-- IMMX is not accepted (PFX 0x03). -/
  | refused
  /-- A field of the base word, or the displacement of a V-format operand: always a consumer. -/
  | field
  /-- BFX and BFI (R101). -/
  | own
  /-- The small immediate or pointer S, else a pointer DST (R36). -/
  | spec
  /-- The small immediate or pointer S alone. -/
  | specOnly
  /-- A pointer S alone (R200, R304, R373, R148). -/
  | ptr
  /-- Accepted, but the form has no consumer. -/
  | noConsumer
deriving DecidableEq, Repr

/-- The role of DST (R93). -/
inductive DstUse where
  | refused
  | dest
  /-- A first operand or second source: read. -/
  | first
  /-- Only its width counts; S must name A (R211). -/
  | widthOnly
deriving DecidableEq, Repr

/-- The PAGE fields accepted (R38, R40). -/
inductive PageUse where
  | refused
  | fields (rm sr sat xe : Bool)
deriving DecidableEq, Repr

/-- The attributes of an instruction that R43 judges. -/
structure Attrs where
  /-- Order 6: a reserved value in a base-word field, SC, OR or AUX. -/
  fieldBad : Bool
  spec : Option (BitVec 6)
  su : SUse
  immx : ImmxUse
  dst : DstUse
  /-- W codes admitted besides 0 (R37, R94, R200). -/
  widths : List (BitVec 3)
  page : PageUse
  laOk : Bool
  commit : Bool
  /-- Order 10: a required prefix is missing. -/
  missing : Bool
  /-- Raises ILL detail 0x01 on a service core (R28, R316). -/
  svcIll : Bool
  /-- Privileged (R41). -/
  priv : Bool
  /-- Not permitted in a repetition body, commit points apart (R51). -/
  noBody : Bool

/-! ### Prefix fields -/

/-- The IMMX value of a chain (R36). -/
def immxVal : List Prefix → Nat → Nat
  | [], v => v
  | .immx x :: t, v => immxVal t (v * 1024 + x.toNat)
  | _ :: t, v => immxVal t v

/-- The number of IMMX words. -/
def immxCount (px : List Prefix) : Nat := (px.filter fun x => match x with | .immx _ => true | _ => false).length

/-- The chain has no IMMX word. -/
def noImmx (px : List Prefix) : Bool := immxCount px == 0

/-- DST's S and W, of the first DST. -/
def dstOf : List Prefix → Option (BitVec 6 × BitVec 4)
  | [] => none
  | .dst s w :: _ => some (s, w)
  | _ :: t => dstOf t

/-- The chain has no DST word. -/
def noDst (px : List Prefix) : Bool := (dstOf px).isNone

/-- PAGE's body, of the first PAGE; zero without one. -/
def pageOf : List Prefix → BitVec 10
  | [] => 0
  | .page v :: _ => v
  | _ :: t => pageOf t

/-- PAGE.RM. -/
def pageRm (px : List Prefix) : BitVec 3 := (pageOf px).extractLsb' 5 3
/-- PAGE.SAT. -/
def pageSat (px : List Prefix) : Bool := (pageOf px).getLsbD 4
/-- PAGE.XE. -/
def pageXe (px : List Prefix) : Bool := (pageOf px).getLsbD 2
/-- PAGE.XK. -/
def pageXk (px : List Prefix) : BitVec 2 := (pageOf px).extractLsb' 0 2

/-- DST.W, 0 without DST. -/
def dstW (px : List Prefix) : BitVec 4 := match dstOf px with | some x => x.2 | none => 0

/-! ### Field checks -/

/-- Order 6 of an L-format instruction: the orders it admits (none: SC and OR must be 0) and its AUX bits. -/
def lBad (orders : List Nat) (aux : BitVec 6) (w : W1) : Bool :=
  decide (6 ≤ w.sc.toNat) || decide (w.aux &&& ~~~aux ≠ 0#6) ||
  (if orders.isEmpty then decide (w.sc ≠ 0#3 ∨ w.od ≠ 0#3) else !orders.contains w.od.toNat)

/-- FENCE: kinds 1 to 15, no order (R214). -/
def fenceBad (w : W1) : Bool :=
  decide (6 ≤ w.sc.toNat) || decide (w.od ≠ 0#3) || decide (w.aux.extractLsb' 4 2 ≠ 0#2) || decide (w.aux = 0#6)

/-- XFENCE: scope DIE, DEV or SYS, AUX and OR zero (R215). -/
def xfenceBad (w : W1) : Bool :=
  !(decide (3 ≤ w.sc.toNat ∧ w.sc.toNat ≤ 5)) || decide (w.od ≠ 0#3) || decide (w.aux ≠ 0#6)

/-- VLDG and VSTG: without XE the lane width field is 0 (R206). -/
def vlaneBad (px : List Prefix) (w : W1) : Bool := !pageXe px && decide (w.aux.extractLsb' 2 2 ≠ 0#2)

/-- AMOFADD: BF only at 16 bits (R209). -/
def bfBad (px : List Prefix) (w : W1) : Bool := w.aux.getLsbD 2 && decide ((dstW px).extractLsb' 0 3 ≠ 2#3)

/-- XADD, VXADD, XRND: t = f64 with kind 0 (R148). -/
def xaccBad (w : W1) : Bool := decide (w.aux.extractLsb' 0 2 = 0#2) && !w.aux.getLsbD 2

/-- CHPRI: bits u[7:6] and u[63:11] zero (R301). -/
def chpriBad (px : List Prefix) (arg : BitVec 8) : Bool :=
  decide (arg.extractLsb' 6 2 ≠ 0#2) || decide (8 ≤ immxVal px 0)

/-! ### The attributes of each instruction -/

/-- The attributes (R40, R44, R51 and each instruction's own rule); none for an event. The widths of an integer form leave
out the 128 bits of W = 0b101, which no rule gives a meaning there (log 53). A PAGE word of zeros is accepted by every instruction
of MAJ 0xC and 0xE whose class R40 lets take PAGE, whether or not R40 lists a field for it (log 70). -/
def attrsOf : Instr → Option Attrs
  | .trap _ _ => some ⟨false, none, .any, .refused, .refused, [], .refused, false, false, false, false, false, true⟩
  | .nop _ => some ⟨false, none, .any, .refused, .refused, [], .refused, false, false, false, false, false, false⟩
  | .done _ => some ⟨false, none, .any, .refused, .refused, [], .refused, false, true, false, false, false, true⟩
  | .commit _ => some ⟨false, none, .any, .refused, .refused, [], .refused, false, true, false, false, false, true⟩
  | .yield _ => some ⟨false, none, .any, .refused, .refused, [], .refused, false, true, false, false, false, true⟩
  | .ret _ => some ⟨false, none, .any, .refused, .refused, [], .refused, false, false, false, false, false, true⟩
  | .eret _ => some ⟨false, none, .any, .refused, .refused, [], .refused, false, true, false, false, true, true⟩
  | .lda _ s => some ⟨false, some s, .any, .spec, .dest, [1, 2, 3, 4], .refused, false, false, false, false, false, false⟩
  | .sta _ s => some ⟨false, some s, .noImm, .spec, .first, [1, 2, 3, 4], .refused, false, false, false, false, false, false⟩
  | .add _ s => some ⟨false, some s, .any, .spec, .dest, [1, 2, 3, 4], .refused, false, false, false, false, false, false⟩
  | .adc _ s => some ⟨false, some s, .any, .spec, .dest, [1, 2, 3, 4], .refused, false, false, false, false, false, false⟩
  | .sub _ s => some ⟨false, some s, .any, .spec, .dest, [1, 2, 3, 4], .refused, false, false, false, false, false, false⟩
  | .sbc _ s => some ⟨false, some s, .any, .spec, .dest, [1, 2, 3, 4], .refused, false, false, false, false, false, false⟩
  | .rsb _ s => some ⟨false, some s, .any, .spec, .dest, [1, 2, 3, 4], .refused, false, false, false, false, false, false⟩
  | .cmp _ s => some ⟨false, some s, .any, .spec, .first, [1, 2, 3, 4], .refused, false, false, false, false, false, false⟩
  | .and _ s => some ⟨false, some s, .any, .spec, .dest, [1, 2, 3, 4], .refused, false, false, false, false, false, false⟩
  | .or _ s => some ⟨false, some s, .any, .spec, .dest, [1, 2, 3, 4], .refused, false, false, false, false, false, false⟩
  | .xor _ s => some ⟨false, some s, .any, .spec, .dest, [1, 2, 3, 4], .refused, false, false, false, false, false, false⟩
  | .andn _ s => some ⟨false, some s, .any, .spec, .dest, [1, 2, 3, 4], .refused, false, false, false, false, false, false⟩
  | .tst _ s => some ⟨false, some s, .any, .spec, .first, [1, 2, 3, 4], .refused, false, false, false, false, false, false⟩
  | .shl _ s => some ⟨false, some s, .any, .spec, .dest, [1, 2, 3, 4], .refused, false, false, false, false, false, false⟩
  | .shr _ s => some ⟨false, some s, .any, .spec, .dest, [1, 2, 3, 4], .refused, false, false, false, false, false, false⟩
  | .sar _ s => some ⟨false, some s, .any, .spec, .dest, [1, 2, 3, 4], .refused, false, false, false, false, false, false⟩
  | .rol _ s => some ⟨false, some s, .any, .spec, .dest, [1, 2, 3, 4], .refused, false, false, false, false, false, false⟩
  | .ror _ s => some ⟨false, some s, .any, .spec, .dest, [1, 2, 3, 4], .refused, false, false, false, false, false, false⟩
  | .mul _ s => some ⟨false, some s, .any, .spec, .dest, [1, 2, 3, 4], .refused, false, false, false, false, false, false⟩
  | .mulh _ s => some ⟨false, some s, .any, .spec, .dest, [1, 2, 3, 4], .refused, false, false, false, false, false, false⟩
  | .mulhn _ s => some ⟨false, some s, .any, .spec, .dest, [1, 2, 3, 4], .refused, false, false, false, false, false, false⟩
  | .min _ s => some ⟨false, some s, .any, .spec, .dest, [1, 2, 3, 4], .refused, false, false, false, false, false, false⟩
  | .max _ s => some ⟨false, some s, .any, .spec, .dest, [1, 2, 3, 4], .refused, false, false, false, false, false, false⟩
  | .minn _ s => some ⟨false, some s, .any, .spec, .dest, [1, 2, 3, 4], .refused, false, false, false, false, false, false⟩
  | .maxn _ s => some ⟨false, some s, .any, .spec, .dest, [1, 2, 3, 4], .refused, false, false, false, false, false, false⟩
  | .neg _ s => some ⟨false, some s, .any, .spec, .dest, [1, 2, 3, 4], .refused, false, false, false, false, false, false⟩
  | .not _ s => some ⟨false, some s, .any, .spec, .dest, [1, 2, 3, 4], .refused, false, false, false, false, false, false⟩
  | .clz _ s => some ⟨false, some s, .any, .spec, .dest, [1, 2, 3, 4], .refused, false, false, false, false, false, false⟩
  | .ctz _ s => some ⟨false, some s, .any, .spec, .dest, [1, 2, 3, 4], .refused, false, false, false, false, false, false⟩
  | .popc _ s => some ⟨false, some s, .any, .spec, .dest, [1, 2, 3, 4], .refused, false, false, false, false, false, false⟩
  | .brev _ s => some ⟨false, some s, .any, .spec, .dest, [1, 2, 3, 4], .refused, false, false, false, false, false, false⟩
  | .bswp _ s => some ⟨false, some s, .any, .spec, .dest, [1, 2, 3, 4], .refused, false, false, false, false, false, false⟩
  | .sext _ s => some ⟨false, some s, .any, .spec, .dest, [1, 2, 3, 4], .refused, false, false, false, false, false, false⟩
  | .zext _ s => some ⟨false, some s, .any, .spec, .dest, [1, 2, 3, 4], .refused, false, false, false, false, false, false⟩
  | .bfx px s => some ⟨false, some s, .any, .own, .dest, [1, 2, 3, 4], .refused, false, false, noImmx px, false, false, false⟩
  | .bfi px s => some ⟨false, some s, .any, .own, .dest, [1, 2, 3, 4], .refused, false, false, noImmx px, false, false, false⟩
  | .selz _ s => some ⟨false, some s, .any, .spec, .dest, [1, 2, 3, 4], .refused, false, false, false, false, false, false⟩
  | .selnz _ s => some ⟨false, some s, .any, .spec, .dest, [1, 2, 3, 4], .refused, false, false, false, false, false, false⟩
  | .mac px s => some ⟨false, some s, .any, .spec, .first, [1, 2, 3, 4], .refused, false, false, noDst px, false, false, false⟩
  | .xchg _ s => some ⟨false, some s, .noImm, .spec, .dest, [1, 2, 3, 4], .refused, false, false, false, false, false, false⟩
  | .adds _ s => some ⟨false, some s, .any, .spec, .dest, [1, 2, 3, 4], .refused, false, false, false, false, false, false⟩
  | .subs _ s => some ⟨false, some s, .any, .spec, .dest, [1, 2, 3, 4], .refused, false, false, false, false, false, false⟩
  | .abs _ s => some ⟨false, some s, .any, .spec, .dest, [1, 2, 3, 4], .refused, false, false, false, false, false, false⟩
  | .fadd _ s _ => some ⟨false, some s, .any, .spec, .dest, [], .fields true false false false, false, false, false, false, false, false⟩
  | .fsub _ s _ => some ⟨false, some s, .any, .spec, .dest, [], .fields true false false false, false, false, false, false, false, false⟩
  | .fmul _ s _ => some ⟨false, some s, .any, .spec, .dest, [], .fields true false false false, false, false, false, false, false, false⟩
  | .ffma px s _ => some ⟨false, some s, .any, .spec, .first, [], .fields true false false false, false, false, noDst px, false, false, false⟩
  | .fscl _ s _ => some ⟨false, some s, .any, .spec, .dest, [], .fields true false false false, false, false, false, false, false, false⟩
  | .frsub _ s _ => some ⟨false, some s, .any, .spec, .dest, [], .fields true false false false, false, false, false, false, false, false⟩
  | .fmin _ s _ => some ⟨false, some s, .any, .spec, .dest, [], .fields true false false false, false, false, false, false, false, false⟩
  | .fmax _ s _ => some ⟨false, some s, .any, .spec, .dest, [], .fields true false false false, false, false, false, false, false, false⟩
  | .fcmp _ s _ => some ⟨false, some s, .any, .spec, .first, [], .fields true false false false, false, false, false, false, false, false⟩
  | .fabs _ s _ => some ⟨false, some s, .any, .spec, .dest, [], .fields true false false false, false, false, false, false, false, false⟩
  | .fneg _ s _ => some ⟨false, some s, .any, .spec, .dest, [], .fields true false false false, false, false, false, false, false, false⟩
  | .fclass _ s _ => some ⟨false, some s, .any, .spec, .dest, [], .fields true false false false, false, false, false, false, false, false⟩
  | .frint _ s _ => some ⟨false, some s, .any, .spec, .dest, [], .fields true false false false, false, false, false, false, false, false⟩
  | .fsgnj _ s _ => some ⟨false, some s, .any, .spec, .dest, [], .fields true false false false, false, false, false, false, false, false⟩
  | .fminn _ s _ => some ⟨false, some s, .any, .spec, .dest, [], .fields true false false false, false, false, false, false, false, false⟩
  | .fmaxn _ s _ => some ⟨false, some s, .any, .spec, .dest, [], .fields true false false false, false, false, false, false, false, false⟩
  | .cvt _ s d _ => some ⟨false, some s, .any, .spec, .dest, [], .fields true (d == 2#3 || d == 3#3) (decide (4 ≤ d.toNat)) false, false, false, false, false, false, false⟩
  | .ldi _ _ => some ⟨false, none, .any, .field, .dest, [1, 2, 3, 4], .refused, false, false, false, false, false, false⟩
  | .addi _ _ => some ⟨false, none, .any, .field, .dest, [1, 2, 3, 4], .refused, false, false, false, false, false, false⟩
  | .cmpi _ _ => some ⟨false, none, .any, .field, .first, [1, 2, 3, 4], .refused, false, false, false, false, false, false⟩
  | .andi _ _ => some ⟨false, none, .any, .field, .dest, [1, 2, 3, 4], .refused, false, false, false, false, false, false⟩
  | .ori _ _ => some ⟨false, none, .any, .field, .dest, [1, 2, 3, 4], .refused, false, false, false, false, false, false⟩
  | .xori _ _ => some ⟨false, none, .any, .field, .dest, [1, 2, 3, 4], .refused, false, false, false, false, false, false⟩
  | .shli _ _ => some ⟨false, none, .any, .field, .dest, [1, 2, 3, 4], .refused, false, false, false, false, false, false⟩
  | .shri _ _ => some ⟨false, none, .any, .field, .dest, [1, 2, 3, 4], .refused, false, false, false, false, false, false⟩
  | .sari _ _ => some ⟨false, none, .any, .field, .dest, [1, 2, 3, 4], .refused, false, false, false, false, false, false⟩
  | .muli _ _ => some ⟨false, none, .any, .field, .dest, [1, 2, 3, 4], .refused, false, false, false, false, false, false⟩
  | .mfc _ imm => some ⟨decide (0x10 ≤ imm.toNat ∧ imm.toNat < 0x80), none, .any, .refused, .refused, [], .refused, false, false, false, false, false, false⟩
  | .mtc _ imm => some ⟨decide (0x10 ≤ imm.toNat ∧ imm.toNat < 0x80), none, .any, .refused, .refused, [], .refused, false, false, false, false, false, false⟩
  | .spres _ imm => some ⟨decide (imm.extractLsb' 6 2 ≠ 0#2), none, .any, .refused, .refused, [], .refused, false, false, false, false, false, false⟩
  | .sclr _ imm => some ⟨decide (32 < (imm.extractLsb' 0 5).toNat + (imm.extractLsb' 5 3).toNat + 1), none, .any, .refused, .refused, [], .refused, false, false, false, false, false, false⟩
  | .pset _ _ _ => some ⟨false, none, .any, .field, .refused, [], .refused, false, false, false, false, false, false⟩
  | .pget _ _ imm => some ⟨decide (imm ≠ 0#6), none, .any, .refused, .refused, [], .refused, false, false, false, false, false, false⟩
  | .padd _ _ _ => some ⟨false, none, .any, .field, .refused, [], .refused, false, false, false, false, false, false⟩
  | .pstep _ _ _ => some ⟨false, none, .any, .field, .refused, [], .refused, false, false, false, false, false, false⟩
  | .pmod _ _ _ => some ⟨false, none, .any, .field, .refused, [], .refused, false, false, false, false, false, false⟩
  | .plea _ _ _ => some ⟨false, none, .any, .field, .refused, [], .refused, false, false, false, false, false, false⟩
  | .pswp _ _ imm => some ⟨decide (imm ≠ 0#6), none, .any, .refused, .refused, [], .refused, false, false, false, false, false, false⟩
  | .pcmp _ _ _ => some ⟨false, none, .any, .field, .refused, [], .refused, false, false, false, false, false, false⟩
  | .vfadd _ _ _ _ _ => some ⟨false, none, .any, .field, .refused, [], .fields true false false true, false, false, false, false, false, false⟩
  | .vfsub _ _ _ _ _ => some ⟨false, none, .any, .field, .refused, [], .fields true false false true, false, false, false, false, false, false⟩
  | .vfmul _ _ _ _ _ => some ⟨false, none, .any, .field, .refused, [], .fields true false false true, false, false, false, false, false, false⟩
  | .vfma _ _ _ _ _ => some ⟨false, none, .any, .field, .refused, [], .fields true false false true, false, false, false, false, false, false⟩
  | .vfscl _ _ _ _ _ => some ⟨false, none, .any, .field, .refused, [], .fields true false false true, false, false, false, false, false, false⟩
  | .vfrsub _ _ _ _ _ => some ⟨false, none, .any, .field, .refused, [], .fields true false false true, false, false, false, false, false, false⟩
  | .vfmin _ _ _ _ _ => some ⟨false, none, .any, .field, .refused, [], .fields true false false true, false, false, false, false, false, false⟩
  | .vfmax _ _ _ _ _ => some ⟨false, none, .any, .field, .refused, [], .fields true false false true, false, false, false, false, false, false⟩
  | .vfceq _ _ _ _ _ => some ⟨false, none, .any, .field, .refused, [], .fields true false false true, false, false, false, false, false, false⟩
  | .vfclt _ _ _ _ _ => some ⟨false, none, .any, .field, .refused, [], .fields true false false true, false, false, false, false, false, false⟩
  | .vfcle _ _ _ _ _ => some ⟨false, none, .any, .field, .refused, [], .fields true false false true, false, false, false, false, false, false⟩
  | .vfabs _ _ _ _ _ => some ⟨false, none, .any, .field, .refused, [], .fields true false false true, false, false, false, false, false, false⟩
  | .vfneg _ _ _ _ _ => some ⟨false, none, .any, .field, .refused, [], .fields true false false true, false, false, false, false, false, false⟩
  | .vfminn _ _ _ _ _ => some ⟨false, none, .any, .field, .refused, [], .fields true false false true, false, false, false, false, false, false⟩
  | .vfmaxn _ _ _ _ _ => some ⟨false, none, .any, .field, .refused, [], .fields true false false true, false, false, false, false, false, false⟩
  | .vfreds _ _ pp m _ => some ⟨decide (pp ≠ 0#3) || m, none, .any, .noConsumer, .refused, [], .fields true false false true, false, false, false, false, false, false⟩
  | .vld _ _ _ _ => some ⟨false, none, .any, .field, .refused, [], .refused, false, false, false, false, false, false⟩
  | .vst _ _ _ _ => some ⟨false, none, .any, .field, .refused, [], .refused, false, false, false, false, false, false⟩
  | .vbcstI64 _ _ _ _ => some ⟨false, none, .any, .field, .refused, [], .fields false false false true, false, false, false, false, false, false⟩
  | .vbcstI32 _ _ _ _ => some ⟨false, none, .any, .field, .refused, [], .fields false false false true, false, false, false, false, false, false⟩
  | .vbcstI16 _ _ _ _ => some ⟨false, none, .any, .field, .refused, [], .fields false false false true, false, false, false, false, false, false⟩
  | .vbcstI8 _ _ _ _ => some ⟨false, none, .any, .field, .refused, [], .fields false false false true, false, false, false, false, false, false⟩
  | .vmov _ _ pp m => some ⟨pp.getLsbD 2 || m, none, .any, .noConsumer, .refused, [], .fields false false false true, false, false, false, false, false, false⟩
  | .vshuf _ _ _ _ => some ⟨false, none, .any, .field, .refused, [], .fields false false false true, false, false, false, false, false, false⟩
  | .vsel _ _ pp m => some ⟨pp.getLsbD 2 || m, none, .any, .noConsumer, .refused, [], .fields false false false true, false, false, false, false, false, false⟩
  | .viadd _ _ _ _ _ => some ⟨false, none, .any, .field, .refused, [], .fields false false true true, false, false, false, false, false, false⟩
  | .visub _ _ _ _ _ => some ⟨false, none, .any, .field, .refused, [], .fields false false true true, false, false, false, false, false, false⟩
  | .vimul _ _ _ _ _ => some ⟨false, none, .any, .field, .refused, [], .fields false false true true, false, false, false, false, false, false⟩
  | .vimin _ _ _ _ _ => some ⟨false, none, .any, .field, .refused, [], .fields false false false true, false, false, false, false, false, false⟩
  | .vimax _ _ _ _ _ => some ⟨false, none, .any, .field, .refused, [], .fields false false false true, false, false, false, false, false, false⟩
  | .viminn _ _ _ _ _ => some ⟨false, none, .any, .field, .refused, [], .fields false false false true, false, false, false, false, false, false⟩
  | .vimaxn _ _ _ _ _ => some ⟨false, none, .any, .field, .refused, [], .fields false false false true, false, false, false, false, false, false⟩
  | .vand _ _ _ _ _ => some ⟨false, none, .any, .field, .refused, [], .fields false false false true, false, false, false, false, false, false⟩
  | .vor _ _ _ _ _ => some ⟨false, none, .any, .field, .refused, [], .fields false false false true, false, false, false, false, false, false⟩
  | .vxor _ _ _ _ _ => some ⟨false, none, .any, .field, .refused, [], .fields false false false true, false, false, false, false, false, false⟩
  | .vshl _ _ _ _ _ => some ⟨false, none, .any, .field, .refused, [], .fields false false false true, false, false, false, false, false, false⟩
  | .vshr _ _ _ _ _ => some ⟨false, none, .any, .field, .refused, [], .fields false false false true, false, false, false, false, false, false⟩
  | .br _ _ _ => some ⟨false, none, .any, .field, .refused, [], .refused, false, false, false, false, false, true⟩
  | .jmp _ _ => some ⟨false, none, .any, .field, .refused, [], .refused, false, false, false, false, false, true⟩
  | .brl _ _ => some ⟨false, none, .any, .field, .refused, [], .refused, false, false, false, false, false, true⟩
  | .chen _ arg => some ⟨decide (arg.extractLsb' 6 2 ≠ 0#2), none, .any, .refused, .refused, [], .refused, false, false, false, false, false, false⟩
  | .chdis _ arg => some ⟨decide (arg.extractLsb' 6 2 ≠ 0#2), none, .any, .refused, .refused, [], .refused, false, false, false, false, false, false⟩
  | .chpend _ arg => some ⟨decide (arg.extractLsb' 6 2 ≠ 0#2), none, .any, .refused, .refused, [], .refused, false, false, false, false, false, false⟩
  | .chclr _ arg => some ⟨decide (arg.extractLsb' 6 2 ≠ 0#2), none, .any, .refused, .refused, [], .refused, false, false, false, false, false, false⟩
  | .chpri px arg => some ⟨chpriBad px arg, none, .any, .field, .refused, [], .refused, false, false, false, false, false, false⟩
  | .jmps _ arg => some ⟨decide (arg.extractLsb' 5 3 ≠ 0#3), none, .any, .refused, .refused, [], .refused, false, false, false, false, false, true⟩
  | .brls _ arg => some ⟨decide (arg.extractLsb' 5 3 ≠ 0#3), none, .any, .refused, .refused, [], .refused, false, false, false, false, false, true⟩
  | .kand _ arg => some ⟨decide (arg.extractLsb' 0 2 ≠ 0#2), none, .any, .refused, .refused, [], .refused, false, false, false, false, false, false⟩
  | .kor _ arg => some ⟨decide (arg.extractLsb' 0 2 ≠ 0#2), none, .any, .refused, .refused, [], .refused, false, false, false, false, false, false⟩
  | .kxor _ arg => some ⟨decide (arg.extractLsb' 0 2 ≠ 0#2), none, .any, .refused, .refused, [], .refused, false, false, false, false, false, false⟩
  | .knot _ arg => some ⟨decide (arg.extractLsb' 0 4 ≠ 0#4), none, .any, .refused, .refused, [], .refused, false, false, false, false, false, false⟩
  | .kmov _ arg => some ⟨decide (arg.extractLsb' 0 4 ≠ 0#4), none, .any, .refused, .refused, [], .refused, false, false, false, false, false, false⟩
  | .kany _ arg => some ⟨decide (arg.extractLsb' 6 2 ≠ 0#2 ∨ arg.extractLsb' 0 4 ≠ 0#4), none, .any, .refused, .refused, [], .refused, false, false, false, false, false, false⟩
  | .kall _ arg => some ⟨decide (arg.extractLsb' 6 2 ≠ 0#2 ∨ arg.extractLsb' 2 2 ≠ 0#2), none, .any, .refused, .refused, [], .refused, false, false, false, false, false, false⟩
  | .kpop _ arg => some ⟨decide (arg.extractLsb' 6 2 ≠ 0#2 ∨ arg.extractLsb' 0 4 ≠ 0#4), none, .any, .refused, .refused, [], .refused, false, false, false, false, false, false⟩
  | .rep _ arg => some ⟨decide (arg.extractLsb' 0 2 ≠ 0#2), none, .any, .field, .refused, [], .refused, false, false, false, false, false, true⟩
  | .cmask _ _ => some ⟨false, none, .any, .refused, .refused, [], .refused, false, false, false, false, false, false⟩
  | .cunmask _ _ => some ⟨false, none, .any, .refused, .refused, [], .refused, false, false, false, false, false, false⟩
  | .kseti _ _ => some ⟨false, none, .any, .field, .refused, [], .refused, false, false, false, false, false, false⟩
  | .ldg _ s w1 => some ⟨lBad [0, 1, 4] 0#6 w1, some s, .noImm, .ptr, .dest, [1, 2, 3, 4], .fields false false false false, true, decide (w1.od = 4#3), false, false, false, false⟩
  | .stg _ s w1 => some ⟨lBad [0, 2, 4] 0#6 w1, some s, .noImm, .ptr, .first, [1, 2, 3, 4], .fields false false false false, false, decide (w1.od = 4#3), false, false, false, false⟩
  | .vldg px s w1 => some ⟨lBad [0, 1, 4] 15#6 w1 || vlaneBad px w1, some s, .noImm, .ptr, .refused, [], .fields false false false true, true, decide (w1.od = 4#3), false, false, false, false⟩
  | .vstg px s w1 => some ⟨lBad [0, 2, 4] 15#6 w1 || vlaneBad px w1, some s, .noImm, .ptr, .refused, [], .fields false false false true, false, decide (w1.od = 4#3), false, false, false, false⟩
  | .ldx _ s w1 => some ⟨lBad [0, 1, 4] 0#6 w1, some s, .noImm, .ptr, .dest, [1, 2, 3, 4], .fields false false false false, true, decide (w1.od = 4#3), false, false, false, false⟩
  | .stx _ s w1 => some ⟨lBad [0, 2, 4] 0#6 w1, some s, .noImm, .ptr, .first, [1, 2, 3, 4], .fields false false false false, false, decide (w1.od = 4#3), false, false, false, false⟩
  | .stn _ s w1 => some ⟨lBad [0, 2, 4] 0#6 w1, some s, .noImm, .ptr, .first, [], .fields false false false false, false, decide (w1.od = 4#3), false, false, false, false⟩
  | .pref _ s w1 => some ⟨lBad [] 3#6 w1, some s, .noImm, .ptr, .refused, [], .fields false false false false, false, false, false, false, false, false⟩
  | .amoadd _ s w1 => some ⟨lBad [0, 1, 2, 3, 4] 1#6 w1, some s, .noImm, .ptr, .dest, [3, 4], .fields false false false false, false, (!w1.aux.getLsbD 0) || decide (w1.od = 4#3), false, false, false, false⟩
  | .amoand _ s w1 => some ⟨lBad [0, 1, 2, 3, 4] 1#6 w1, some s, .noImm, .ptr, .dest, [3, 4], .fields false false false false, false, (!w1.aux.getLsbD 0) || decide (w1.od = 4#3), false, false, false, false⟩
  | .amoor _ s w1 => some ⟨lBad [0, 1, 2, 3, 4] 1#6 w1, some s, .noImm, .ptr, .dest, [3, 4], .fields false false false false, false, (!w1.aux.getLsbD 0) || decide (w1.od = 4#3), false, false, false, false⟩
  | .amoxor _ s w1 => some ⟨lBad [0, 1, 2, 3, 4] 1#6 w1, some s, .noImm, .ptr, .dest, [3, 4], .fields false false false false, false, (!w1.aux.getLsbD 0) || decide (w1.od = 4#3), false, false, false, false⟩
  | .amomin _ s w1 => some ⟨lBad [0, 1, 2, 3, 4] 3#6 w1, some s, .noImm, .ptr, .dest, [3, 4], .fields false false false false, false, (!w1.aux.getLsbD 0) || decide (w1.od = 4#3), false, false, false, false⟩
  | .amomax _ s w1 => some ⟨lBad [0, 1, 2, 3, 4] 3#6 w1, some s, .noImm, .ptr, .dest, [3, 4], .fields false false false false, false, (!w1.aux.getLsbD 0) || decide (w1.od = 4#3), false, false, false, false⟩
  | .amominn _ s w1 => some ⟨lBad [0, 1, 2, 3, 4] 1#6 w1, some s, .noImm, .ptr, .dest, [3, 4], .fields false false false false, false, (!w1.aux.getLsbD 0) || decide (w1.od = 4#3), false, false, false, false⟩
  | .amomaxn _ s w1 => some ⟨lBad [0, 1, 2, 3, 4] 1#6 w1, some s, .noImm, .ptr, .dest, [3, 4], .fields false false false false, false, (!w1.aux.getLsbD 0) || decide (w1.od = 4#3), false, false, false, false⟩
  | .amoswp _ s w1 => some ⟨lBad [0, 1, 2, 3, 4] 1#6 w1, some s, .noImm, .ptr, .dest, [3, 4], .fields false false false false, false, (!w1.aux.getLsbD 0) || decide (w1.od = 4#3), false, false, false, false⟩
  | .amocas _ s w1 => some ⟨lBad [0, 1, 2, 3, 4] 0#6 w1, some s, .noImm, .ptr, .widthOnly, [3, 4, 5], .fields false false false false, false, true, false, false, false, false⟩
  | .amofadd px s w1 => some ⟨lBad [0, 1, 2, 3, 4] 5#6 w1 || bfBad px w1, some s, .noImm, .ptr, .dest, [2, 3, 4], .fields true false false false, false, (!w1.aux.getLsbD 0) || decide (w1.od = 4#3), false, false, false, false⟩
  | .fence _ s w1 => some ⟨fenceBad w1, some s, .zero, .ptr, .refused, [], .fields false false false false, false, w1.aux.getLsbD 1, false, false, false, false⟩
  | .xfence _ s w1 => some ⟨xfenceBad w1, some s, .zero, .ptr, .refused, [], .fields false false false false, false, true, false, false, false, false⟩
  | .tdecl _ s w1 => some ⟨lBad [] 0#6 w1, some s, .noImm, .ptr, .refused, [], .fields false false false false, false, true, false, false, false, false⟩
  | .tund _ s w1 => some ⟨lBad [] 0#6 w1, some s, .noImm, .ptr, .refused, [], .fields false false false false, false, true, false, false, false, false⟩
  | .tfwd _ s w1 => some ⟨lBad [] 0#6 w1, some s, .noImm, .ptr, .refused, [], .fields false false false false, false, true, false, false, false, false⟩
  | .twb _ s w1 => some ⟨lBad [] 0#6 w1, some s, .noImm, .ptr, .refused, [], .fields false false false false, false, true, false, false, false, false⟩
  | .tinv _ s w1 => some ⟨lBad [] 0#6 w1, some s, .noImm, .ptr, .refused, [], .fields false false false false, false, true, false, false, false, false⟩
  | .clwb _ s w1 => some ⟨lBad [] 0#6 w1, some s, .noImm, .ptr, .refused, [], .fields false false false false, false, true, false, false, false, false⟩
  | .clinv _ s w1 => some ⟨lBad [] 0#6 w1, some s, .noImm, .ptr, .refused, [], .fields false false false false, false, true, false, false, false, false⟩
  | .clfl _ s w1 => some ⟨lBad [] 0#6 w1, some s, .noImm, .ptr, .refused, [], .fields false false false false, false, true, false, false, false, false⟩
  | .sgo _ s w1 => some ⟨lBad [] 0#6 w1, some s, .ptr, .ptr, .refused, [], .fields false false false false, false, true, false, true, false, false⟩
  | .sbuf _ s w1 => some ⟨lBad [] 7#6 w1, some s, .any, .specOnly, .refused, [], .fields false false false false, false, true, false, true, false, false⟩
  | .speek _ s w1 => some ⟨lBad [] 7#6 w1, some s, .noImm, .ptr, .refused, [], .fields false false false false, false, false, false, true, false, false⟩
  | .sfree _ s w1 => some ⟨lBad [] 7#6 w1, some s, .any, .specOnly, .refused, [], .fields false false false false, false, true, false, true, false, false⟩
  | .scnt _ s w1 => some ⟨lBad [] 31#6 w1 || w1.aux.getLsbD 4, some s, .noImm, .ptr, .refused, [], .fields false false false false, false, false, false, true, false, false⟩
  | .cpgo _ s w1 => some ⟨lBad [] 0#6 w1, some s, .ptr, .ptr, .refused, [], .fields false false false false, false, true, false, false, false, false⟩
  | .cpst _ s w1 => some ⟨lBad [] 0#6 w1, some s, .noImm, .spec, .dest, [], .fields false false false false, false, false, false, false, false, false⟩
  | .mxgo _ s w1 => some ⟨lBad [] 0#6 w1, some s, .ptr, .ptr, .refused, [], .refused, false, true, false, true, false, false⟩
  | .mxrd _ s w1 => some ⟨lBad [] 31#6 w1, some s, .noImm, .ptr, .refused, [], .refused, true, false, false, true, false, false⟩
  | .mxwr _ s w1 => some ⟨lBad [] 0#6 w1, some s, .any, .specOnly, .refused, [], .refused, false, true, false, true, false, false⟩
  | .mxst _ s w1 => some ⟨lBad [] 0#6 w1, some s, .ptr, .ptr, .refused, [], .refused, false, true, false, true, false, false⟩
  | .mxcfg _ s w1 => some ⟨lBad [] 0#6 w1, some s, .any, .specOnly, .refused, [], .refused, false, true, false, true, false, false⟩
  | .mxmsk _ s w1 => some ⟨lBad [] 3#6 w1, some s, .slot28, .ptr, .refused, [], .refused, false, true, false, true, false, false⟩
  | .mxabt _ s w1 => some ⟨lBad [] 0#6 w1, some s, .any, .specOnly, .refused, [], .refused, false, true, false, true, false, false⟩
  | .send _ s w1 => some ⟨lBad [] 0#6 w1, some s, .noImm, .ptr, .refused, [], .refused, false, false, false, false, false, false⟩
  | .bcast _ s w1 => some ⟨lBad [] 0#6 w1, some s, .noImm, .ptr, .refused, [], .refused, false, false, false, false, false, false⟩
  | .wrs _ s w1 => some ⟨lBad [] 0#6 w1, some s, .noImm, .ptr, .first, [], .refused, false, false, false, false, false, false⟩
  | .psend _ s w1 => some ⟨lBad [] 0#6 w1, some s, .noImm, .ptr, .refused, [], .refused, false, false, false, false, false, false⟩
  | .launch _ s w1 => some ⟨lBad [] 0#6 w1, some s, .ptr, .ptr, .dest, [], .refused, false, true, false, false, false, false⟩
  | .trig _ s w1 => some ⟨lBad [] 0#6 w1, some s, .zero, .ptr, .refused, [], .refused, false, true, false, false, false, false⟩
  | .bar _ s w1 => some ⟨lBad [] 63#6 w1, some s, .noImm, .ptr, .refused, [], .refused, false, true, false, true, false, false⟩
  | .svc _ s w1 => some ⟨lBad [] 63#6 w1, some s, .zero, .ptr, .refused, [], .refused, false, true, false, false, false, false⟩
  | .hint _ s w1 => some ⟨lBad [] 0#6 w1, some s, .noImm, .ptr, .refused, [], .refused, false, true, false, false, false, false⟩
  | .gred _ s w1 => some ⟨lBad [] 0#6 w1, some s, .ptr, .ptr, .refused, [], .refused, false, true, false, false, false, false⟩
  | .vmaxx _ s w1 => some ⟨lBad [] 63#6 w1, some s, .any, .specOnly, .refused, [], .fields false false false true, false, true, false, false, false, false⟩
  | .tlbi _ s w1 => some ⟨lBad [] 3#6 w1 || decide (w1.aux.extractLsb' 0 2 = 3#2), some s, if w1.aux.extractLsb' 0 2 = 1#2 then .zero else .noImm, .ptr, .refused, [], .refused, false, true, false, false, true, false⟩
  | .tlbsync _ s w1 => some ⟨lBad [] 0#6 w1, some s, .zero, .ptr, .refused, [], .refused, false, true, false, false, true, false⟩
  | .probe _ s w1 => some ⟨lBad [] 7#6 w1, some s, .noImm, .ptr, .dest, [], .refused, false, false, false, false, true, false⟩
  | .pstop _ s w1 => some ⟨lBad [] 63#6 w1, some s, .noImm, .ptr, .refused, [], .refused, false, true, false, false, true, false⟩
  | .pgo _ s w1 => some ⟨lBad [] 63#6 w1, some s, .noImm, .ptr, .refused, [], .refused, false, true, false, false, true, false⟩
  | .cswap _ s w1 => some ⟨lBad [] 63#6 w1, some s, .noImm, .ptr, .refused, [], .refused, false, true, false, false, true, false⟩
  | .scrub _ s w1 => some ⟨lBad [] 63#6 w1, some s, .noImm, .ptr, .refused, [], .refused, false, true, false, false, true, false⟩
  | .exp2 _ s w1 => some ⟨lBad [] 0#6 w1, some s, .any, .spec, .dest, [], .fields false false false false, true, false, false, false, false, false⟩
  | .log2 _ s w1 => some ⟨lBad [] 0#6 w1, some s, .any, .spec, .dest, [], .fields false false false false, true, false, false, false, false, false⟩
  | .rcp _ s w1 => some ⟨lBad [] 0#6 w1, some s, .any, .spec, .dest, [], .fields false false false false, true, false, false, false, false, false⟩
  | .rsq _ s w1 => some ⟨lBad [] 0#6 w1, some s, .any, .spec, .dest, [], .fields false false false false, true, false, false, false, false, false⟩
  | .tanh _ s w1 => some ⟨lBad [] 0#6 w1, some s, .any, .spec, .dest, [], .fields false false false false, true, false, false, false, false, false⟩
  | .sinp _ s w1 => some ⟨lBad [] 0#6 w1, some s, .any, .spec, .dest, [], .fields false false false false, true, false, false, false, false, false⟩
  | .cosp _ s w1 => some ⟨lBad [] 0#6 w1, some s, .any, .spec, .dest, [], .fields false false false false, true, false, false, false, false, false⟩
  | .rcps _ s w1 => some ⟨lBad [] 0#6 w1, some s, .any, .spec, .dest, [], .fields false false false false, true, false, false, false, false, false⟩
  | .rsqs _ s w1 => some ⟨lBad [] 0#6 w1, some s, .any, .spec, .dest, [], .fields false false false false, true, false, false, false, false, false⟩
  | .vexp2 _ s w1 => some ⟨lBad [] 12#6 w1, some s, .ptr, .specOnly, .refused, [], .fields false false false true, true, false, false, false, false, false⟩
  | .vlog2 _ s w1 => some ⟨lBad [] 12#6 w1, some s, .ptr, .specOnly, .refused, [], .fields false false false true, true, false, false, false, false, false⟩
  | .vrcp _ s w1 => some ⟨lBad [] 12#6 w1, some s, .ptr, .specOnly, .refused, [], .fields false false false true, true, false, false, false, false, false⟩
  | .vrsq _ s w1 => some ⟨lBad [] 12#6 w1, some s, .ptr, .specOnly, .refused, [], .fields false false false true, true, false, false, false, false, false⟩
  | .vtanh _ s w1 => some ⟨lBad [] 12#6 w1, some s, .ptr, .specOnly, .refused, [], .fields false false false true, true, false, false, false, false, false⟩
  | .vcvt _ s w1 => some ⟨lBad [] 63#6 w1 || decide (w1.aux.extractLsb' 3 3 = w1.aux.extractLsb' 0 3), some s, .ptr, .specOnly, .refused, [], (if 2 ≤ (w1.aux.extractLsb' 3 3).toNat then .fields true true true true else .fields true false true true), true, false, false, false, false, false⟩
  | .vqnt _ s w1 => some ⟨lBad [] 63#6 w1, some s, .ptr, .specOnly, .refused, [], .fields true true true true, true, false, false, false, false, false⟩
  | .vdqnt _ s w1 => some ⟨lBad [] 63#6 w1, some s, .ptr, .specOnly, .refused, [], .fields true false false true, true, false, false, false, false, false⟩
  | .xadd _ s w1 => some ⟨lBad [] 7#6 w1 || xaccBad w1, some s, .ptr, .specOnly, .refused, [], .refused, false, false, false, false, false, false⟩
  | .vxadd _ s w1 => some ⟨lBad [] 31#6 w1 || xaccBad w1, some s, .ptr, .specOnly, .refused, [], .fields false false false true, false, false, false, false, false, false⟩
  | .xrnd _ s w1 => some ⟨lBad [] 7#6 w1 || xaccBad w1, some s, .ptr, .ptr, .dest, [], .fields true false false false, true, false, false, false, false, false⟩
  | .xmrg _ s w1 => some ⟨lBad [] 12#6 w1 || decide (w1.aux.extractLsb' 2 2 = 3#2), some s, .ptr, .specOnly, .refused, [], .refused, false, false, false, false, false, false⟩
  | .xclr _ s w1 => some ⟨lBad [] 4#6 w1, some s, .ptr, .specOnly, .refused, [], .refused, false, false, false, false, false, false⟩
  | .fdiv _ s w1 => some ⟨lBad [] 3#6 w1, some s, .any, .spec, .dest, [], .fields true false false false, true, false, false, false, false, false⟩
  | .fsqrt _ s w1 => some ⟨lBad [] 3#6 w1, some s, .any, .spec, .dest, [], .fields true false false false, true, false, false, false, false, false⟩
  | .div _ s w1 => some ⟨lBad [] 0#6 w1, some s, .any, .spec, .dest, [1, 2, 3, 4], .fields false false false false, true, false, false, false, false, false⟩
  | .divn _ s w1 => some ⟨lBad [] 0#6 w1, some s, .any, .spec, .dest, [1, 2, 3, 4], .fields false false false false, true, false, false, false, false, false⟩
  | .rem _ s w1 => some ⟨lBad [] 0#6 w1, some s, .any, .spec, .dest, [1, 2, 3, 4], .fields false false false false, true, false, false, false, false, false⟩
  | .remn _ s w1 => some ⟨lBad [] 0#6 w1, some s, .any, .spec, .dest, [1, 2, 3, 4], .fields false false false false, true, false, false, false, false, false⟩
  | .vfdiv _ s w1 => some ⟨lBad [] 15#6 w1, some s, .ptr, .specOnly, .refused, [], .fields true false false true, true, false, false, false, false, false⟩
  | .vfsqrt _ s w1 => some ⟨lBad [] 15#6 w1, some s, .ptr, .specOnly, .refused, [], .fields true false false true, true, false, false, false, false, false⟩
  | .selection => none
  | .longResult _ => none
  | .instructionLimit _ => none
  | .faultMessageRetry _ => none
  | .migrationRetry _ _ => none
  | .regionReply _ => none
  | .frameReturn _ => none
  | .agentReply _ => none
  | .uncorrectableError _ => none
  | .patrolScrub => none
  | .fingerprintCompare _ _ _ => none
  | .messageArrival _ _ => none
  | .messageRetry _ _ => none
  | .messageAck _ => none
  | .wrsDeposit _ => none
  | .peerArrival _ _ _ _ => none
  | .psendAck _ => none
  | .launchStart _ => none
  | .initialMessagePlacement _ => none
  | .quiescenceSweep _ => none
  | .hostChannelWrite _ _ _ _ _ _ => none
  | .hostChannelDelivery _ _ _ => none
  | .mxgoStart _ => none
  | .gangFormation _ => none
  | .gangTimeout _ => none
  | .kStep _ => none
  | .mxstPerform _ => none
  | .mxwrPerform _ => none
  | .mxcfgPerform _ => none
  | .mxmskPerform _ => none
  | .mxCompletion _ => none
  | .gredStart _ => none
  | .gredCompletion _ => none
  | .gredTimeout _ => none
  | .vmaxxCompletion _ => none
  | .barrierCompletion _ => none
  | .barrierTimeout _ => none
  | .sbufPerform _ => none
  | .sgoStart _ => none
  | .streamSlot _ => none
  | .bulkCopyTake _ => none
  | .bulkCopyPiece _ _ _ _ => none
  | .readShared _ _ => none
  | .readForOwnership _ _ => none
  | .upgrade _ _ => none
  | .writeBack _ _ => none
  | .cleanEvictionNotice _ _ => none
  | .probeAnswer _ _ _ => none
  | .tileGranuleRequest _ _ _ => none
  | .lineGranuleWrite _ => none
  | .homeAtomic _ => none
  | .remoteWindowAccess _ => none
  | .l2Fill _ _ _ => none
  | .cxlMemRead _ _ _ => none
  | .cxlMemWrite _ _ _ => none
  | .birsp _ _ => none
  | .biconflict _ _ _ => none
  | .snpinv _ _ => none
  | .snpdata _ _ => none
  | .snpcur _ _ => none
  | .hostTimeout _ _ => none
  | .hostPostedWrite _ _ _ => none
  | .powerGate _ => none
  | .packetAdmission _ _ _ _ _ _ => none
  | .flitArrival _ _ _ _ _ => none
  | .resendRequest _ => none
  | .starvationMark _ => none
  | .damperWindow => none
  | .partialPacketTimeout _ _ => none
  | .ackTimeout _ => none
  | .sequenceGap _ _ => none
  | .retrain _ _ => none
  | .rclsWrite _ _ _ => none
  | .ptrootWrite _ _ => none
  | .migcfgWrite _ _ => none
  | .mgdAccess _ _ => none
  | .load _ => none
  | .registerWrite _ _ _ => none
  | .sensorSample _ _ _ => none
  | .valveAdjust _ _ => none
  | .flowLimitedLeave _ => none
  | .close _ => none
  | .purge _ => none
  | .verify _ => none
  | .verifyExpiry _ => none
  | .restoreComplete _ => none
  | .catWrite _ _ _ => none
  | .fncWrite _ _ => none
  | .msemRead _ => none
  | .msemRelease _ => none
  | .pmapWrite _ _ _ => none
  | .leaseWrite _ _ _ => none
  | .renew _ _ => none
  | .leaseTick => none
  | .leaseExpiry _ => none
  | .hostLinkDown _ _ => none
  | .flr _ _ => none
  | .partitionResetScrub _ => none
  | .dieReset _ => none
  | .drainack _ _ => none
  | .drainTimeout _ _ => none
  | .pwrOk _ => none
  | .sysResetN => none
  | .stageB1 _ _ _ => none
  | .bstatHold => none
  | .stageB2 _ _ => none
  | .coolantPriming _ => none
  | .stageB3 _ _ _ => none
  | .getVersion _ _ => none
  | .getCapabilities _ _ => none
  | .negotiateAlgorithms _ _ => none
  | .getDigests _ _ => none
  | .getCertificate _ _ => none
  | .challenge _ _ => none
  | .getMeasurements _ _ => none
  | .partitionHalt _ => none
  | .partitionResume _ => none
  | .scrubComplete _ => none
  | .spill _ => none
  | .fill _ => none
  | .vmaxxTimeout _ => none
  | .expanderBisnp _ => none
  | .peerAccess _ _ _ => none
  | .powerDown => none
  | .timeSlot _ _ => none
  | .ucieFlitArrival _ _ => none

/-! ### The check (R43) -/

/-- A decode fault: cause, detail, info (R43). -/
structure DecFault where
  cause : BitVec 8
  detail : BitVec 8
  info : Half
deriving DecidableEq, Repr

/-- A reserved specifier (R32). -/
def specReserved (s : BitVec 6) : Bool := decide (61 ≤ s.toNat)
/-- A small immediate. -/
def specImm (s : BitVec 6) : Bool := decide (s.extractLsb' 3 3 = 6#3)
/-- A pointer specifier. -/
def specPtr (s : BitVec 6) : Bool := decide (s.extractLsb' 4 2 = 2#2)

/-- Order 7 for S. -/
def SUse.bad (u : SUse) (s : BitVec 6) : Bool :=
  match u with
  | .any => specReserved s
  | .noImm => specReserved s || specImm s
  | .ptr => !specPtr s
  | .zero => decide (s ≠ 0#6)
  | .slot28 => decide (28 < s.toNat)

/-- Order 7 for a DST word; a reserved specifier is refused before the prefix itself is (R43). -/
def DstUse.bad (u : DstUse) (s : BitVec 6) : Bool :=
  match u with
  | .refused => specReserved s
  | .dest => specReserved s || specImm s
  | .first => specReserved s
  | .widthOnly => decide (s ≠ 60#6)

/-- Order 8 for DST.W (R37): an instruction that refuses DST admits no width, so a non-zero W is inapplicable there (log 52). -/
def wBad (widths : List (BitVec 3)) (w : BitVec 4) : Bool :=
  let c := w.extractLsb' 0 3
  if c = 0#3 then w.getLsbD 3 else !widths.contains c || (w.getLsbD 3 && decide (4 ≤ c.toNat))

/-- Order 8 for a PAGE body (R38): an instruction that refuses PAGE lists none of its fields in R40 (log 52). -/
def PageUse.bad (u : PageUse) (v : BitVec 10) : Bool :=
  let reserved := decide (v.extractLsb' 8 2 ≠ 0#2) || v.getLsbD 3 || decide (v.extractLsb' 5 3 = 7#3) ||
    (!v.getLsbD 2 && decide (v.extractLsb' 0 2 ≠ 0#2))
  match u with
  | .refused => reserved || decide (v.extractLsb' 5 3 ≠ 0#3) || v.getLsbD 4 || v.getLsbD 2
  | .fields rm sr sat xe =>
    reserved || (decide (v.extractLsb' 5 3 = 6#3) && !sr) ||
    (decide (v.extractLsb' 5 3 ≠ 0#3 ∧ v.extractLsb' 5 3 ≠ 6#3) && !rm) ||
    (v.getLsbD 4 && !sat) || (v.getLsbD 2 && !xe)

/-- Order 8 for one prefix word. -/
def Attrs.prefixBad (a : Attrs) (p : Prefix) : Bool :=
  match p with
  | .immx _ => false
  | .dst _ w => wBad a.widths w
  | .page v => a.page.bad v

/-- Order 12 for one prefix word: its kind is not accepted. -/
def Attrs.prefixRefused (a : Attrs) (p : Prefix) : Bool :=
  match p with
  | .immx _ => decide (a.immx = .refused)
  | .dst _ _ => decide (a.dst = .refused)
  | .page _ => decide (a.page = .refused)

/-- The second DST or PAGE of a chain (order 11). -/
def secondOf : List Prefix → Bool → Bool → Option Prefix
  | [], _, _ => none
  | .immx _ :: t, d, g => secondOf t d g
  | .dst s w :: t, d, g => if d then some (.dst s w) else secondOf t true g
  | .page v :: t, d, g => if g then some (.page v) else secondOf t d true

/-- Order 13: the chain has no consumer in the form used (R36). -/
def Attrs.noConsumer (a : Attrs) (px : List Prefix) : Bool :=
  let s := a.spec.getD 0
  match a.immx with
  | .refused | .field | .own => false
  | .noConsumer => true
  | .ptr => !specPtr s
  | .specOnly => !(specImm s || specPtr s)
  | .spec => !(specImm s || specPtr s || (match dstOf px with | some d => specPtr d.1 | none => false))

/-- The first IMMX word of a chain. -/
def firstImmx (px : List Prefix) : Option Prefix := px.find? fun x => match x with | .immx _ => true | _ => false

/-- The decode fault of orders 6 to 13, if any: the first that applies (R43). -/
def formFault (p : Parts) (a : Attrs) : Option DecFault :=
  if a.fieldBad then some ⟨0x01, 0x02, p.base⟩
  else if (match a.spec with | some s => a.su.bad s | none => false) ||
      p.px.any (fun x => match x with | .dst s _ => a.dst.bad s | _ => false) then some ⟨0x01, 0x03, p.base⟩
  else match p.px.find? a.prefixBad with
  | some x => some ⟨0x01, 0x05, x.word⟩
  | none =>
  if (match p.second with | some w => decide (w.la ≠ 0#4) | none => false) && (!a.laOk || a.commit) then
    some ⟨0x01, 0x06, p.base⟩
  else if a.missing then some ⟨0x01, 0x08, p.base⟩
  else match secondOf p.px false false with
  | some x => some ⟨0x02, 0x02, x.word⟩
  | none =>
  match p.px.find? a.prefixRefused with
  | some x => some ⟨0x02, 0x03, x.word⟩
  | none =>
  match firstImmx p.px with
  | some x => if a.noConsumer p.px then some ⟨0x02, 0x04, x.word⟩ else none
  | none => none

/-- The decode fault of an instruction that its own words decide (R43 orders 6 to 13). -/
def formFaultOf (i : Instr) : Option DecFault :=
  match i.parts, attrsOf i with
  | some p, some a => formFault p a
  | _, _ => none

end Sys2Proof.Machine
end

