-- ==== Sys2Proof/Machine/Record.lean ====
section
/-! DEFINITION. The fields of records: bits of doublewords, and the record of MXGO and MXST (R124 to R126). -/

namespace Sys2Proof.Machine

/-! ### Doublewords -/

/-- Bits hi to lo of a doubleword as a number. -/
def bits (w : Word) (hi lo : Nat) : Nat := (w.extractLsb' lo (hi + 1 - lo)).toNat

/-- The doubleword i of a record. -/
def dw (l : List Word) (i : Nat) : Word := l.getD i 0

/-- The doublewords of a number, lowest first. -/
def dwsOf (n v : Nat) : List Word := (List.range n).map fun i => BitVec.ofNat 64 (v / 2 ^ (64 * i))

/-! ### Record fields (R124, R125) -/

/-- TAG. -/
def MxCmd.tag (c : MxCmd) : Nat := bits (dw c.dws 0) 63 48
/-- TILE. -/
def MxCmd.tile (c : MxCmd) : Nat := bits (dw c.dws 0) 35 34
/-- MSK. -/
def MxCmd.msk (c : MxCmd) : Nat := bits (dw c.dws 0) 33 32
/-- GWL. -/
def MxCmd.gwl (c : MxCmd) : Nat := bits (dw c.dws 0) 31 28
/-- GHL. -/
def MxCmd.ghl (c : MxCmd) : Nat := bits (dw c.dws 0) 27 24
/-- FA. -/
def MxCmd.fa (c : MxCmd) : Nat := bits (dw c.dws 0) 23 20
/-- FB. -/
def MxCmd.fb (c : MxCmd) : Nat := bits (dw c.dws 0) 19 16
/-- FC. -/
def MxCmd.fc (c : MxCmd) : Nat := bits (dw c.dws 0) 15 12
/-- RM. -/
def MxCmd.rm (c : MxCmd) : Nat := bits (dw c.dws 0) 11 9
/-- ZERO. -/
def MxCmd.zero (c : MxCmd) : Bool := (dw c.dws 0).getLsbD 8
/-- SAT. -/
def MxCmd.sat (c : MxCmd) : Bool := (dw c.dws 0).getLsbD 7
/-- SCA. -/
def MxCmd.sca (c : MxCmd) : Bool := (dw c.dws 0).getLsbD 6
/-- SCB. -/
def MxCmd.scb (c : MxCmd) : Bool := (dw c.dws 0).getLsbD 5
/-- K. -/
def MxCmd.k (c : MxCmd) : Nat := bits (dw c.dws 1) 63 32
/-- N. -/
def MxCmd.n (c : MxCmd) : Nat := bits (dw c.dws 1) 31 16
/-- M. -/
def MxCmd.m (c : MxCmd) : Nat := bits (dw c.dws 1) 15 0
/-- Local rows ML (R133). -/
def MxCmd.ml (c : MxCmd) : Nat := c.m / 2 ^ c.ghl
/-- Local columns NL. -/
def MxCmd.nl (c : MxCmd) : Nat := c.n / 2 ^ c.gwl
/-- Gang mode. -/
def MxCmd.gang (c : MxCmd) : Bool := decide (0 < c.gwl + c.ghl)
/-- KIND of a source doubleword. -/
def srcKind (w : Word) : Nat := bits w 15 12
/-- BUF. -/
def srcBuf (w : Word) : Nat := bits w 10 8
/-- SLOT. -/
def srcSlot (w : Word) : Nat := bits w 4 0
/-- Reserved bits of a source doubleword. -/
def srcBad (w : Word) : Bool := decide (bits w 63 16 ≠ 0 ∨ bits w 11 11 ≠ 0 ∨ bits w 7 5 ≠ 0)

/-- Width in bits of a format code (R126). -/
def fmtBits (c : Nat) : Nat :=
  match c with
  | 0 => 64
  | 1 => 32
  | 2 => 16
  | 3 => 16
  | 4 => 8
  | 5 => 8
  | 6 => 4
  | 7 => 8
  | 8 => 8
  | 9 => 4
  | 10 => 4
  | _ => 32

/-- Width in bytes of an accumulator format. -/
def fcBytes (fc : Nat) : Nat := if fc = 0 then 8 else 4

/-- The classes of MXGO (R126). -/
inductive MxClass where
  | fp64 | fp32 | low | int | mx
deriving DecidableEq, Repr

/-- The class of a record, if its combination is permitted. -/
def MxCmd.cls (c : MxCmd) : Option MxClass :=
  let isLow := fun x => decide (2 ≤ x ∧ x ≤ 6)
  let isInt := fun x => decide (7 ≤ x ∧ x ≤ 10)
  let isMx := fun x => decide (4 ≤ x ∧ x ≤ 7)
  if c.sat then none
  else if c.sca && c.scb then
    (if isMx c.fa && isMx c.fb && decide (c.fc = 1 ∧ c.rm = 0) then some .mx else none)
  else if c.sca || c.scb then none
  else if c.fa = 0 ∧ c.fb = 0 then (if c.fc = 0 ∧ c.rm ≤ 4 then some .fp64 else none)
  else if c.fa = 1 ∧ c.fb = 1 then (if c.fc = 1 ∧ c.rm ≤ 4 then some .fp32 else none)
  else if isLow c.fa && isLow c.fb then (if c.fc = 1 ∧ c.rm = 0 then some .low else none)
  else if isInt c.fa && isInt c.fb then (if c.fc = 2 ∧ c.rm = 0 then some .int else none)
  else none

/-- Whether an MXST's output, mode and SAT are allowed (R126). -/
def MxCmd.storeOk (c : MxCmd) : Bool :=
  (if c.fc = 2 then decide (c.fa = 11 ∨ c.fa = 1 ∨ c.fa = 0) else decide (c.fa ≤ 5)) &&
  (!decide (c.rm = 5) || decide (fmtBits c.fa ≤ 16)) &&
  (!c.sat || (decide (c.fa ≤ 5) && decide (fmtBits c.fa < 8 * fcBytes c.fc)))

/-- The K step (R126). -/
def MxCmd.ks (c : MxCmd) : Nat := match c.cls with | some .fp64 | some .fp32 => 8 | _ => 32

/-- K steps, or rows of an MXST. -/
def MxCmd.total (c : MxCmd) : Nat := if c.st then c.ml else (c.k + c.ks - 1) / c.ks

end Sys2Proof.Machine
end

