-- ==== Sys2Proof/Machine/Status.lean ====
section
/-! DEFINITION. The engine status block (R22, R120, R221). -/

namespace Sys2Proof.Machine

/-- A stream buffer's status doubleword (R221). -/
def SBuf.status (b : SBuf) : Word :=
  (((((((BitVec.ofBool b.cfg ++ BitVec.ofBool b.dir) ++ BitVec.ofBool b.en) ++ b.ch) ++ 0#7) ++ BitVec.ofNat 8 b.head) ++
    BitVec.ofNat 8 b.tail) ++ BitVec.ofNat 16 b.free) ++ BitVec.ofNat 16 b.filled

/-- A panel of a formation. -/
def Form.panel (f : Form) (b : Bool) (idx st : Nat) : Option Panel :=
  f.panels.find? fun p => decide (p.b = b ∧ p.idx = idx ∧ p.step = st)

/-- Whether the running command of the core in focus waits for operands that other members of its formed gang supply (R121,
R135). -/
def State.gangWait (s : State) : Bool :=
  match s.core.mx.run, s.core.seat with
  | some r, some x =>
    let gx := x.rx.toNat % 2 ^ r.cmd.gwl
    let gy := x.ry.toNat % 2 ^ r.cmd.ghl
    !r.forming && !r.susp && r.ended.isNone && decide (r.done < r.cmd.total) &&
    s.forms.any fun f => decide (f.kind = .mx ∧ f.part = s.partOf s.focus) && f.members.contains s.focus && f.formed &&
      ((decide (gx ≠ 0) && (f.panel false gy r.done).isNone) || (decide (gy ≠ 0) && (f.panel true gx r.done).isNone))
  | _, _ => false

/-- MXSTAT (R121); `wait` says whether the command waits for gang operands. A gang command that waits for its formation is the
running one (log 58). -/
def Mx.stat (m : Mx) (wait : Bool) : Word :=
  let q := BitVec.ofNat 2 m.queue.length
  match m.run with
  | none => q.setWidth 64
  | some r =>
    let d := r.cmd.dws.getD 0 0
    ((((((0#40 ++ d.extractLsb' 48 16) ++ BitVec.ofBool r.cmd.st) ++ d.extractLsb' 34 2) ++ BitVec.ofBool (r.forming || wait)) ++
      BitVec.ofBool r.susp) ++ BitVec.ofBool true) ++ q

/-- The doubleword at an offset below 0xC0 of the block (R120). -/
def Mx.statusDw (m : Mx) (wait : Bool) (off : Nat) : Word :=
  if off = 0x00 then m.stat wait
  else if off = 0x08 then m.cfg.setWidth 64
  else if off = 0x10 then (m.sf.setWidth 64 <<< 4)
  else if 0x18 ≤ off ∧ off < 0x38 then (m.steps.toList.getD ((off - 0x18) / 8) 0).setWidth 64
  else if off < 0x40 then 0
  else
    let k := (off - 0x40) / 32
    let w := (if (off - 0x40) % 32 < 16 then m.row else m.col).toList.getD k 0
    w.extractLsb' (if off % 16 = 0 then 0 else 64) 64

/-- The doubleword at an offset (a multiple of 8) of the engine status block of the core in focus. A service core has no
engines (R28); its block reads as the block of engines that have done nothing (log 59). -/
def State.statusDw (s : State) (off : Nat) : Word :=
  if 0xC0 ≤ off then (s.core.se.bufs.toList.getD ((off - 0xC0) / 8) SBuf.zero).status else s.core.mx.statusDw s.gangWait off

/-- `n` bytes of the status block at a local address (R120). -/
def State.statusLE (s : State) (ea n : Nat) : Nat :=
  let off := ea - 0xFFF400
  (s.statusDw (off / 8 * 8)).toNat / 256 ^ (off % 8) % 256 ^ n

end Sys2Proof.Machine
end

