-- ==== Sys2Proof/Machine/Operands.lean ====
section
/-! DEFINITION. The operand specifier (R32 to R36, R54), local accesses (R97), and immediates (R36). -/

namespace Sys2Proof.Machine

/-! ### Local accesses (R22, R97) -/

/-- The value of a checked local read of `n` bytes by the core in focus: forwarding in a persistent region; a read
that overlaps a buffered no-return atomic, or is held until earlier accesses have been performed, commits first (R171, R203). A poisoned byte that it reads from the cluster store raises POISON
(R413, R415). -/
def State.localRead (s : State) (kind : LKind) (ea n : Nat) : Except Stop Nat :=
  match kind with
  | .work =>
    if heldBy false s.core.buf then .error .commitFirst
    else if s.svc then .ok (s.lstore.readLE (tileOf s.focus * 16777216 + ea) n)
    else if s.storeBad (clusterOf s.focus * 16777216 + ea) n then trapAt 0x11 0x01 (BitVec.ofNat 64 ea)
    else .ok (s.spad.readLE (clusterOf s.focus * 16777216 + ea) n)
  | .pers =>
    if heldBy false s.core.buf || persAmoOverlap (clusterOf s.focus) s.core.buf ea n then .error .commitFirst
    else if s.ownBad ea n then trapAt 0x11 0x01 (BitVec.ofNat 64 ea)
    else .ok (forwardLE s.spad (clusterOf s.focus) s.core.buf ea n)
  | .window =>
    let off := ea - 0xFFF000
    if n ≤ 8 then .ok (((windowRead s.core.r (off / 8 * 8)).getD 0).toNat / 256 ^ (off % 8) % 256 ^ n)
    else .ok ((s.core.r.va.toList.getD ((off - 0x200) / 64) 0).toNat)
  | .status => .ok (s.statusLE ea n)
  | .queue | .none => .ok 0

/-- LocalRead after its check (R33, R54). -/
def State.loadLocal (s : State) (ea n : Nat) (u : WinUse) : Except Stop Nat :=
  match s.localCheck s.focus ea n false u with
  | .error e => .error e
  | .ok k => s.localRead k ea n

/-- The write a checked local store makes, under a byte mask. -/
def State.storeTarget (s : State) (ea n mask v : Nat) (u : WinUse) : Except Stop LongWrite :=
  match s.localCheck s.focus ea n true u with
  | .error e => .error e
  | .ok k => .ok (localTarget k ea n mask v)

/-- LocalWrite (R54). -/
def State.storeLocal (s : State) (ea n v : Nat) (u : WinUse) : Except Stop State :=
  match s.storeTarget ea n (2 ^ n - 1) v u with
  | .error e => .error e
  | .ok w => s.landWrite w

/-! ### Immediates (R36) -/

/-- The low `n` bits of v, sign-extended to 64. -/
def signExt (n v : Nat) : Word :=
  let w := v % 2 ^ n
  if 2 * w < 2 ^ n then BitVec.ofNat 64 w else BitVec.ofInt 64 ((w : Int) - (2 ^ n : Nat))

/-- An immediate field of width f extended by the chain, sign-extended. -/
def immSigned (px : List Prefix) (f field : Nat) : Word :=
  signExt (10 * immxCount px + f) (immxVal px 0 * 2 ^ f + field)

/-- An immediate field extended by the chain, zero-extended. -/
def immUnsigned (px : List Prefix) (f field : Nat) : Word := BitVec.ofNat 64 (immxVal px 0 * 2 ^ f + field)

/-- The displacement a chain gives, signed. -/
def dispOf (px : List Prefix) : Int :=
  if noImmx px then 0 else (signExt (10 * immxCount px) (immxVal px 0)).toInt

/-! ### Specifiers (R32) -/

/-- How a specifier is read: the memory width in bytes, its extension, the small immediate and the displacement. -/
structure OpCtx where
  n : Nat
  sx : Bool
  imm : Word
  disp : Int

/-- W's width in bytes, 0 naming the default (R37). -/
def widthBytes (w : BitVec 4) (default : Nat) : Nat :=
  match (w.extractLsb' 0 3).toNat with
  | 0 => default
  | 1 => 1
  | 2 => 2
  | 3 => 4
  | 4 => 8
  | _ => 16

/-- The small immediate of S with the chain (R36). -/
def smallImm (px : List Prefix) (s : BitVec 6) : Word :=
  if noImmx px then BitVec.ofNat 64 (s.toNat % 8) else immSigned px 3 (s.toNat % 8)

/-- The context of the main specifier S: the chain extends a small immediate or displaces a pointer. -/
def ctxS (px : List Prefix) (s : BitVec 6) (default : Nat) : OpCtx :=
  ⟨widthBytes (dstW px) default, (dstW px).getLsbD 3, smallImm px s, if specPtr s then dispOf px else 0⟩

/-- The context of DST's S when S takes the chain first (R36). -/
def ctxD (px : List Prefix) (s d : BitVec 6) (default : Nat) : OpCtx :=
  ⟨widthBytes (dstW px) default, (dstW px).getLsbD 3, BitVec.ofNat 64 (d.toNat % 8),
    if specImm s || specPtr s then 0 else if specPtr d then dispOf px else 0⟩

/-- A context without a chain. -/
def ctxPlain (d : BitVec 6) (default : Nat) : OpCtx := ⟨default, false, BitVec.ofNat 64 (d.toNat % 8), 0⟩

/-- The slot a specifier names, renamed in a repetition body (R50). -/
def State.slotOf (s : State) (sp : BitVec 6) : BitVec 5 :=
  let n := sp.extractLsb' 0 5
  if s.core.rep.act then n + s.core.rep.iter * s.core.rep.str.setWidth 5 else n

/-- The effective address of a pointer specifier before its check (R33). -/
def State.eaOf (s : State) (p : BitVec 3) (disp : Int) : Nat :=
  (((ptrAddr (s.core.r.ptr p) : Int) + disp) % 16777216).toNat

/-- The pointer a specifier names. -/
def specPtrNo (sp : BitVec 6) : BitVec 3 := sp.extractLsb' 1 3

/-- A narrower value extended to 64 bits (R37). -/
def extendBytes (n : Nat) (sx : Bool) (v : Nat) : Word := if sx then signExt (8 * n) v else BitVec.ofNat 64 v

/-- ReadOp(S) (R54). -/
def State.readOp (s : State) (c : OpCtx) (sp : BitVec 6) : Except Stop Word :=
  if sp.getLsbD 5 = false then .ok (s.core.r.slot (s.slotOf sp))
  else if specPtr sp then
    match s.loadLocal (s.eaOf (specPtrNo sp) c.disp) c.n .scalar with
    | .ok v => .ok (extendBytes c.n c.sx v)
    | .error e => .error e
  else if specImm sp then .ok c.imm
  else if sp = 60#6 then .ok s.core.r.a
  else .ok (s.core.r.mask (sp.extractLsb' 0 2))

/-- The write WriteOp(S, v) makes (R54), checked. -/
def State.writeTarget (s : State) (c : OpCtx) (sp : BitVec 6) (v : Word) : Except Stop LongWrite :=
  if sp.getLsbD 5 = false then .ok ⟨.m (s.slotOf sp), 0xFF, v.setWidth 512⟩
  else if specPtr sp then s.storeTarget (s.eaOf (specPtrNo sp) c.disp) c.n (2 ^ c.n - 1) v.toNat .scalar
  else if sp = 60#6 then .ok ⟨.a, 0xFF, v.setWidth 512⟩
  else .ok ⟨.k (sp.extractLsb' 0 2), 0xFF, v.setWidth 512⟩

/-- WriteOp(S, v) (R54). -/
def State.writeOp (s : State) (c : OpCtx) (sp : BitVec 6) (v : Word) : Except Stop State :=
  match s.writeTarget c sp v with
  | .ok w => s.landWrite w
  | .error e => .error e

/-- The post-step a specifier requests (R32). -/
def specSteps (sp : BitVec 6) : List (BitVec 3) :=
  if specPtr sp && sp.getLsbD 0 then [specPtrNo sp] else []

/-- The post-steps of S and of DST's S. -/
def stepsSD (px : List Prefix) (s : BitVec 6) : List (BitVec 3) :=
  specSteps s ++ (match dstOf px with | some d => specSteps d.1 | none => [])

/-- The post-steps applied, from the pointer values at the start (R34). -/
def State.post (s start : State) (l : List (BitVec 3)) : State :=
  { s with core := { s.core with r := { s.core.r with p := applySteps start.core.r.p s.core.r.p l l } } }

/-- Where a result goes: DST's S as destination, or A (R93). -/
def State.resultTarget (s : State) (px : List Prefix) (sp : BitVec 6) (default : Nat) (v : Word) :
    Except Stop LongWrite :=
  match dstOf px with
  | none => .ok ⟨.a, 0xFF, v.setWidth 512⟩
  | some d => s.writeTarget (ctxD px sp d.1 default) d.1 v

/-- A result written to DST or A (R93). -/
def State.writeResult (s : State) (px : List Prefix) (sp : BitVec 6) (default : Nat) (v : Word) : Except Stop State :=
  match s.resultTarget px sp default v with
  | .ok w => s.landWrite w
  | .error e => .error e

/-- The first operand: DST's S when present, else A (R93). -/
def State.firstOperand (s : State) (px : List Prefix) (sp : BitVec 6) (default : Nat) : Except Stop Word :=
  match dstOf px with
  | none => .ok s.core.r.a
  | some d => s.readOp (ctxD px sp d.1 default) d.1

end Sys2Proof.Machine
end

