-- ==== Sys2Proof/Machine/Run.lean ====
section
/-! DEFINITION. The frame in which every instruction runs: due long results land (R45), the instruction limit commits
(R52), decode faults are judged (R43), the body works on the state, and the program counter, the repetition state
(R50) and the instruction count move on. -/

namespace Sys2Proof.Machine

/-- What a turn answers. -/
abbrev Out := Host.Outcome State Fault Refusal

/-! ### Fetching words (R29, R42) -/

/-- Code base and length of the running program: the launch's, or the boot block's (R263, R482). -/
def State.codeRegion (s : State) : Nat × Nat :=
  if s.svc then ((s.core.ctl.scode.extractLsb' 12 36).toNat * 4096, (s.core.ctl.scode.extractLsb' 48 16).toNat * 4096)
  else match s.core.seat with
    | some x => (x.code.toNat, x.clen.toNat * 4096)
    | none => (0, 0)

/-- Whether an address lies in the code region (R42, R299). -/
def State.inCode (s : State) (a : Nat) : Bool :=
  decide (s.codeRegion.1 ≤ a ∧ a < s.codeRegion.1 + s.codeRegion.2 ∧ a < 2 ^ 48)

/-- A fault of a fetch (R42, R395): cause, detail, info. -/
def fetchTrap (cause detail : BitVec 8) (info : Half) (a : Nat) : Trap :=
  ⟨cause, detail, some info, BitVec.ofNat 64 a, 0, 0⟩

/-- The line of a code address in the instruction cache of the core in focus. -/
def State.cachedCode (s : State) (a : Nat) : Option ILine :=
  s.core.icache.find? fun l => decide (l.part = s.partOf s.focus ∧ l.line = a / 128)

/-- The state with the line of a code address in the instruction cache: the newest of 256 lines (R28: 32 KiB; log 56). -/
def State.fillCode (s : State) (a pa : Nat) : State :=
  let l : ILine := ⟨s.partOf s.focus, a / 128, BitVec.ofNat 1024 (s.mem.readLE (pa / 128 * 128) 128)⟩
  { s with core := { s.core with icache :=
      (l :: s.core.icache.filter fun x => !(decide (x.part = l.part ∧ x.line = l.line))).take 256 } }

/-- A code word from memory, through the instruction cache (R374): a cached line that memory has left behind may be used or
fetched again, which is free (log 56). -/
def State.codeHalf (s : State) (a pa : Nat) : State × Half :=
  let now : Half := BitVec.ofNat 16 (s.physLE pa 2)
  match s.cachedCode a with
  | some l =>
    let old : Half := l.data.extractLsb' (8 * (a % 128)) 16
    if old = now then (s, now)
    else
      let s1 := { s with freeCtr := s.freeCtr + 1 }
      if Config.freeBit s.freeCtr then (s1, old) else (s1.fillCode a pa, now)
  | none => (s.fillCode a pa, now)

/-- One code word of the agent in focus; `runoff` is the info of RUNOFF (R395). A window address is no translated address and
raises ADDR (R25, R357; log 57). Poisoned code raises POISON detail 0x02 (R415). -/
def State.fetchHalf (s : State) (a : Nat) (runoff : Half) : State × Except Stop Half :=
  if ¬ s.inCode a then (s, .error (.trap (fetchTrap 0x05 0x00 runoff a)))
  else if inWindows a then (s, .error (.trap (fetchTrap 0x0A 0x00 0 a)))
  else
    match s.translate s.focus a .exec with
    | (s1, .error f) => (s1, .error (xlatStop f 1 .exec s.focus a (some 0)))
    | (s1, .ok x) =>
      match s1.hostBlock [(lineOf x.pa, false)] with
      | some b => (s1, .error (.recall b.1 b.2))
      | none =>
        if s1.meetsPoison none x.pa 2 then (s1, .error (.trap (fetchTrap 0x11 0x02 0 a)))
        else let q := s1.codeHalf a x.pa; (q.1, .ok q.2)

/-- The RUNOFF info of the n-th word of an instruction (R395). -/
def State.runoffInfo (s : State) (n : Nat) : Half := if 0 < n then 2 else if s.core.xfer then 1 else 0

/-- A word after which the instruction has another one: a prefix word, or a two-word base. -/
def moreWords (w : Half) (prefixes : Nat) : Bool :=
  match Prefix.ofWord w with
  | some _ => decide (prefixes < 4)
  | none => isLong w

/-- A fault of the fetch of a second word: the base word, which has been read, is its information (R395), but for RUNOFF's. -/
def Stop.ofBase (e : Stop) (base : Half) : Stop :=
  match e with
  | .trap t => .trap (if t.cause = 0x05 then t else { t with info := some base })
  | e => e

/-- The words of the instruction at an address, as far as its decoding needs them (R29, R35, R42): `second` marks that
the base word of a two-word instruction has been read. -/
def State.fetchWords (s : State) (a n : Nat) (acc : List Half) (second : Bool) : Nat → State × Except Stop (List Half)
  | 0 => (s, .ok acc)
  | fuel + 1 =>
    match s.fetchHalf a (s.runoffInfo n) with
    | (s1, .error e) => (s1, .error (if second then e.ofBase (acc.getLastD 0) else e))
    | (s1, .ok w) =>
      if second then (s1, .ok (acc ++ [w]))
      else if moreWords w n then s1.fetchWords (a + 2) (n + 1) (acc ++ [w]) (isLong w) fuel
      else (s1, .ok (acc ++ [w]))

/-- The words at the program counter. A frame can leave an odd one, which fails the check of R299 at the fetch (R406). -/
def State.fetch (s : State) : State × Except Stop (List Half) :=
  if s.core.pc.getLsbD 0 then (s, .error (.trap (fetchTrap 0x06 0x03 0 s.core.pc.toNat)))
  else s.fetchWords s.core.pc.toNat 0 [] false 6

/-- The base word that a fetch from an address reads before it stops at a later word, 0 where it stops before it (R398). -/
def State.baseRead (s : State) (a n : Nat) : Nat → Half
  | 0 => 0
  | fuel + 1 =>
    match s.fetchHalf a (s.runoffInfo n) with
    | (_, .error _) => 0
    | (s1, .ok w) => if (Prefix.ofWord w).isSome && decide (n < 4) then s1.baseRead (a + 2) (n + 1) fuel else w

/-- The base word that the fetch at the program counter reads before it stops. -/
def State.baseAt (s : State) : Half := if s.core.pc.getLsbD 0 then 0 else s.baseRead s.core.pc.toNat 0 6

/-- The fault of a word sequence that is no instruction (R43 orders 2 to 5). -/
def decodeTrap (e : DecodeError) (a : Nat) : Trap :=
  match e with
  | .truncated => fetchTrap 0x05 0x00 2 a
  | .zero => ⟨0x04, 0x00, some 0, 0, 0, 0⟩
  | .fifthPrefix w => ⟨0x02, 0x01, some w, 0, 0, 0⟩
  | .prefixKind w => ⟨0x01, 0x04, some w, 0, 0, 0⟩
  | .unassigned w => ⟨0x01, 0x01, some w, 0, 0, 0⟩

/-! ### Faults of an instruction in its context (R43) -/

/-- The site of an instruction: its words and its first word's address. -/
def State.site (s : State) (p : Parts) : Site :=
  ⟨p.base, match p.second with | some w => w.word | none => 0, s.core.pc⟩

/-- A decode fault with the base word as info. -/
def ctxTrap (cause detail : BitVec 8) : Option Trap := some ⟨cause, detail, none, 0, 0, 0⟩

/-- Whether a base word is an MX instruction (R71). -/
def isMx (b : Half) : Bool := decide (b.extractLsb' 9 7 = 0x68#7)

/-- The control register number of MFC and MTC. -/
def ctlNumber (b : Half) : Option Nat :=
  if b.extractLsb' 8 8 = 0x4A#8 ∨ b.extractLsb' 8 8 = 0x4B#8 then some (b.extractLsb' 0 8).toNat else none

/-- The privileged control registers (R402). -/
def privNumber (n : Nat) : Bool :=
  [0x81, 0x82, 0x84, 0x85, 0x86, 0x88, 0x90, 0x91, 0x92, 0x93, 0x98, 0x99].contains n

/-- The decode fault of an instruction where it is about to run: R43 orders 5 to 15. -/
def State.contextFault (s : State) (p : Parts) (a : Attrs) : Option Trap :=
  if (a.svcIll && s.svc) || (isMx p.base && decide (s.stage = .b1)) then ctxTrap 0x01 0x01
  else if (match ctlNumber p.base with
      | some n => s.svc && decide (0x80 ≤ n) && !privNumber n
      | none => false) then ctxTrap 0x01 0x02
  else
    match formFault p a with
    | some f => some ⟨f.cause, f.detail, some f.info, 0, 0, 0⟩
    | none =>
      if a.priv && !s.priv then ctxTrap 0x03 0x00
      else if (match ctlNumber p.base with | some n => decide (0x80 ≤ n) && !s.priv | none => false) then
        ctxTrap 0x03 0x11
      else if (match ctlNumber p.base with
          | some n => (n == 0x98 || n == 0x99) && decide (s.focus ≠ svcOf 0)
          | none => false) then ctxTrap 0x03 0x12
      else if s.core.rep.act && (a.noBody || a.commit) then ctxTrap 0x01 0x07
      else none

/-! ### Moving on (R45, R50, R52) -/

/-- The address after the REP whose first word is at an address (R405): its IMMX words and its base word stepped over. -/
def State.repBody (s : State) (a : Nat) : Nat → State × Nat
  | 0 => (s, a + 2)
  | n + 1 =>
    match s.fetchHalf a 2 with
    | (s1, .ok w) => if w.extractLsb' 10 6 = 0x3C#6 then s1.repBody (a + 2) n else (s1, a + 2)
    | (s1, .error _) => (s1, a + 2)

/-- The repetition state and program counter after a body instruction (R50). -/
def State.stepRep (s : State) (next : Word) : State :=
  let r := s.core.rep
  if r.pos ≠ r.b1 then { s with core := { s.core with pc := next, rep := { r with pos := r.pos + 1 } } }
  else if r.left.toNat ≤ 1 then { s with core := { s.core with pc := next, rep := Rep.idle } }
  else
    let b := match r.body with
      | some x => (s, x)
      | none => let q := s.repBody r.addr.toNat 4; (q.1, BitVec.ofNat 64 q.2)
    { b.1 with core := { b.1.core with
        pc := b.2
        rep := { r with pos := 0, iter := r.iter + 1, left := r.left - 1, body := some b.2 } } }

/-- The state after an instruction at `start` of `len` bytes whose body left `t`. -/
def State.retire (t start : State) (len : Nat) : State :=
  let t1 := { t with core := { t.core with icount := t.core.icount + 1, xfer := false, capt := none } }
  let next := start.core.pc + BitVec.ofNat 64 len
  if start.core.rep.act then t1.stepRep next
  else { t1 with core := { t1.core with pc := next } }

/-- The state after a taken control transfer (R45, R299). -/
def State.jumpTo (t : State) (target : Word) : State :=
  let t1 := t.closeWindows
  { t1 with core := { t1.core with pc := target, xfer := true, icount := t1.core.icount + 1 } }

/-- Whether a core whose due results have landed commits before its next instruction: at the instruction limit, or for a
result that found no free buffer entry (R45, R52, R280). -/
def State.boundaryDue (s : State) : Bool := decide (65536 ≤ s.core.icount) || s.core.long.any fun l => l.left == 0

/-- The state in which an instruction begins: due results have landed, and the region has committed where it is due. -/
def State.boundary (s : State) : State :=
  let s1 := s.landDue
  if s1.boundaryDue then s1.commit else s1

/-- The wait of a core for hosts' answers about a line (R253). -/
def State.awaitHost (s : State) (x : Nat × Bool) : Out := .next (s.startSnoop x.1 x.2 (.core s.focus))

/-- What a commit leads to, once no host answer keeps it waiting (R188, R253). -/
def State.whenClear (s : State) (o : Out) : Out :=
  match s.commitBlock with
  | some x => s.awaitHost x
  | none => o

/-- What follows the boundary before an instruction. -/
def State.atBoundary (s : State) (k : State → Out) : Out :=
  let s1 := s.landDue
  if s1.boundaryDue then s1.whenClear (k s1.commit) else k s1

/-- The region that holds the effect of a commit point closed behind it, so that a restart begins after it (R213, R407; log
10). A no-return atomic of order SC stays in it while hosts have not answered for its line. -/
def State.close (t : State) : State := if t.commitBlock.isSome then t else t.commit

/-- The length in bytes of an instruction's words. -/
def partsLen (p : Parts) : Nat := 2 * p.words.length

/-- A body: whether the commit before it has been made, and the state; the state it leaves or why it stops. -/
abbrev Body := Bool → State → Except Stop State

/-- What a body that stopped leads to: a fault, or the wait of the core in the state it began in. -/
def State.stopped (s : State) (p : Parts) : Stop → Out
  | .trap t => .next (s.takeFault (s.site p) t)
  | .recall line inv => s.awaitHost (line, inv)
  | .hold c => .next { s with core := { s.core with capt := some c } }
  | .wait | .commitFirst | .device => .next s

/-- Whether an instruction is a commit point in its form (R48). -/
def commits (i : Instr) : Bool := (attrsOf i).any (·.commit)

/-- A commit point (R48, R280): the region commits, the body acts in the fresh one, which is closed behind it. -/
def State.runCommitted (s : State) (p : Parts) (k : Body) : Out :=
  s.whenClear
    (let s2 := s.commit
     match k true s2 with
     | .ok t => .next (t.retire s2 (partsLen p)).close
     | .error e => s2.stopped p e)

/-- A device access: a commit point (R204), and no body instruction (R50). -/
def State.runDevice (s : State) (p : Parts) (k : Body) : Out :=
  if s.core.rep.act then .next (s.takeFault (s.site p) ⟨0x01, 0x07, none, 0, 0, 0⟩) else s.runCommitted p k

/-- An instruction that is no commit point; a body that asks for a commit gets one and runs again (R97, R203), a
device access becomes a commit point (R204). -/
def State.runPlain (s : State) (p : Parts) (k : Body) : Out :=
  match k false s.tickLong with
  | .ok t => .next (t.retire s (partsLen p))
  | .error .device => s.runDevice p k
  | .error .commitFirst =>
    s.whenClear
      (let s2 := s.commit
       match k false s2.tickLong with
       | .ok t => .next (t.retire s2 (partsLen p))
       | .error .device => s2.runDevice p k
       | .error e => s2.stopped p e)
  | .error e => s.stopped p e

/-- What waits until the core's line operations are acknowledged: engine, vector-unit and bulk copy commands, which the core's interface
holds (R215; log 26), and releases (R220): launches, triggers and barriers (R179, R317), and the stores and atomics that are ones
(R170). A message, which is a release too, waits in the region buffer. -/
def afterLines : Instr → Bool
  | .sgo _ _ _ | .cpgo _ _ _ | .mxgo _ _ _ | .mxst _ _ _ | .gred _ _ _ | .vmaxx _ _ _ | .launch _ _ _ | .trig _ _ _
  | .bar _ _ _ => true
  | .stg _ _ w | .stx _ _ w | .vstg _ _ w | .stn _ _ w | .amoadd _ _ w | .amoand _ _ w | .amoor _ _ w | .amoxor _ _ w
  | .amomin _ _ w | .amomax _ _ w | .amominn _ _ w | .amomaxn _ _ w | .amoswp _ _ w | .amocas _ _ w | .amofadd _ _ w =>
    releases w.od
  | _ => false

/-- The wait of an instruction for the core's line operations (R215, R220). -/
def State.whenLinesDone (s : State) (i : Instr) (o : Out) : Out :=
  match (if afterLines i then s.hostBlock s.ownStops else none) with
  | some x => s.awaitHost x
  | none => o

/-- Running an instruction of the core in focus (R34, R43): decode faults first, then its body. -/
def runInstr (i : Instr) (s : State) (k : Body) : Out :=
  match i.parts, attrsOf i with
  | some p, some a => s.atBoundary fun s1 =>
    match s1.contextFault p a with
    | some t => .next (s1.takeFault (s1.site p) t)
    | none => s1.whenLinesDone i (if a.commit then s1.runCommitted p k else s1.runPlain p k)
  | _, _ => .refused (.notEnabled "INSTRUCTION")

/-- What the body of a control transfer that began in `s` leads to. -/
def State.goTo (s : State) (p : Parts) : Except Stop (State × Option Word) → Out
  | .ok (t, none) => .next (t.retire s (partsLen p))
  | .ok (t, some a) =>
    if a.getLsbD 0 then .next (s.takeFault (s.site p) ⟨0x06, 0x03, none, a, 0, 0⟩) else .next (t.jumpTo a)
  | .error e => s.stopped p e

/-- Running an instruction whose body says where control goes: none for the next instruction. A body that asks for a commit gets
one and runs again (R203). -/
def runJump (i : Instr) (s : State) (k : State → Except Stop (State × Option Word)) : Out :=
  match i.parts, attrsOf i with
  | some p, some a => s.atBoundary fun s1 =>
    match s1.contextFault p a with
    | some t => .next (s1.takeFault (s1.site p) t)
    | none =>
      match k s1.tickLong with
      | .error .commitFirst => s1.whenClear (s1.commit.goTo p (k s1.commit.tickLong))
      | r => s1.goTo p r
  | _, _ => .refused (.notEnabled "INSTRUCTION")

end Sys2Proof.Machine
end

