-- ==== Sys2Proof/Machine/Global.lean ====
section
/-! DEFINITION. Global accesses (R25, R26, R199 to R204, R481): the check of an address, loads with forwarding from the
region buffer, stores into it, device accesses and atomics. -/

namespace Sys2Proof.Machine

/-- What a checked global address reaches. -/
inductive Spot where
  /-- The accessor's own local address space, through the local window. -/
  | loc (ea : Nat)
  /-- A shareable region of a cluster, through the remote window. -/
  | rem (cl off : Nat)
  /-- A physical address with its leaf. -/
  | phys (pa : Nat) (leaf : Word)
deriving DecidableEq, Repr

/-! ### Address checks (R26, R201) -/

/-- The side of a core in a paired partition: the odd columns are SIDE 1 (R417). -/
def sideOne (sid : Nat) : Bool := decide (xOf sid % 2 = 1)

/-- PMAP[p].PAIR (R380). -/
def State.paired (s : State) (p : Nat) : Bool := (s.part p).pmap.getLsbD 62

/-- The check of a remote-window access to an extent (R26, R417). -/
def State.remoteCheck (s : State) (core off n : Nat) (va : Word) : Except Stop Spot :=
  if s.partOfTile (tileOf core) ≠ s.partOfTile (tileOf s.focus) then trapAt 0x0C 0x00 va
  else if s.paired (s.partOf s.focus) && sideOne core then trapAt 0x0C 0x03 va
  else
    let cl := clusterOf core
    let c := s.cluster cl
    if c.spadBytes < off + n then trapAt 0x0A 0x00 va
    else if c.regions.any fun r => r.shr && decide (r.base ≤ off ∧ off + n ≤ r.base + r.size) then .ok (.rem cl off)
    else trapAt 0x0B 0x00 va

/-- Orders 5 to 7 of R201 for an access of `n` bytes: what an untranslated address reaches; none when the address is to
be translated. -/
def State.windowSpot (s : State) (va : Word) (n : Nat) : Except Stop (Option Spot) :=
  let a := va.toNat
  if 2 ^ 48 ≤ a then trapAt 0x0A 0x01 va
  else if a % n ≠ 0 then trapAt 0x06 0x01 va
  else if a < 0x7E0000000000 ∨ 0x800000000000 ≤ a then .ok none
  else if 0x7F0000000000 ≤ a then
    (if a < 0x7F0001000000 then .ok (some (.loc (a % 16777216))) else trapAt 0x0A 0x00 va)
  else if a < 0x7E1000000000 then
    (match s.remoteCheck (a / 16777216 % 4096) (a % 16777216) n va with
     | .ok x => .ok (some x)
     | .error e => .error e)
  else trapAt 0x0A 0x00 va

/-- Orders 5 to 8 of R201 for an access by the core in focus. -/
def State.resolve (s : State) (need : Need) (va : Word) (n : Nat) : State × Except Stop Spot :=
  match s.windowSpot va n with
  | .error e => (s, .error e)
  | .ok (some x) => (s, .ok x)
  | .ok none =>
    match s.translate s.focus va.toNat need with
    | (s1, .error f) => (s1, .error (xlatStop f 0 need s.focus va.toNat none))
    | (s1, .ok x) => (s1, .ok (.phys x.pa x.leaf))

/-- The check of a local-window access (R481). -/
def State.windowLocal (s : State) (ea n : Nat) (write : Bool) (u : WinUse) : Except Stop LKind :=
  match s.localKind s.focus ea with
  | .status => if write then addrLocal 0 ea else if 8 < n then alignLocal ea else .ok .status
  | _ => s.localCheck s.focus ea n write u

/-! ### Forwarding (R203) -/

/-- The block key of a spot: its place at the naturally aligned 16-byte block. -/
def blockOf : Spot → Option Place
  | .loc _ => none
  | .rem cl off => some (.remote cl (off / 16 * 16))
  | .phys pa _ => some (.phys (pa / 16 * 16))

/-- A spot moved by a number of bytes. -/
def Spot.plus : Spot → Nat → Spot
  | .loc ea, k => .loc (ea + k)
  | .rem cl off, k => .rem cl (off + k)
  | .phys pa l, k => .phys (pa + k) l

/-- The byte offset of a spot in its block. -/
def Spot.off : Spot → Nat
  | .loc ea => ea % 16
  | .rem _ off => off % 16
  | .phys pa _ => pa % 16

/-- One byte of memory as published. -/
def State.publishedByte (s : State) : Spot → Byte
  | .loc ea => s.spad.read (clusterOf s.focus * 16777216 + ea)
  | .rem cl off => s.spad.read (cl * 16777216 + off)
  | .phys pa _ => s.mem.read pa

/-- Whether the region's own buffered local write covers a byte of a block that is reached by the remote window: a remote load is
never served by forwarding from the owner's unpublished writes (R185), so the region commits before it, which keeps their order
(R169; log 68). -/
def ownerAt (cl : Nat) (pl : Place) (i : Nat) (buf : List BufEntry) : Bool :=
  buf.any fun e => match e with
    | .pers blk (.bytes mask _) => decide (pl = .remote cl blk.toNat ∧ nibbles mask i ≠ 0)
    | _ => false

/-- `n` bytes at a spot as the region sees them, little-endian; none when an entry forces a commit first. -/
def State.spotLE (s : State) (x : Spot) : Nat → Option Nat
  | 0 => some 0
  | n + 1 =>
    match blockOf x with
    | none => none
    | some pl =>
      if atomicAt (clusterOf s.focus) pl x.off s.core.buf || ownerAt (clusterOf s.focus) pl x.off s.core.buf then none
      else
        match s.spotLE (x.plus 1) n with
        | none => none
        | some r => some ((forwardAt (clusterOf s.focus) pl x.off (s.publishedByte x) s.core.buf).toNat + 256 * r)

/-! ### Loads -/

/-- Whether a leaf's data may be held in the cluster L1 (R366): WB, and on a host port only with CXL.cache. -/
def State.cachedLeaf (s : State) (pa : Nat) (leaf : Word) : Bool :=
  decide (ptePol leaf = 0) &&
  (if pteHp leaf = 2 then decide (s.ports.toList.getD (pa / 0x4000000000000 % 2) 0 = 2#2) else decide (pteHp leaf ≠ 4))

/-- DD, the dedup-eligible bit of a leaf (R243, R362). -/
def dedupBit (leaf : Word) : Bool := leaf.getLsbD 55

/-- `n` free doublewords as a number, lowest first. -/
def State.freeDws (s : State) : Nat → State × Nat
  | 0 => (s, 0)
  | n + 1 => let q := s.free; let r := q.2.freeDws n; (r.1, q.1.toNat + 2 ^ 64 * r.2)

/-- A device-page read (R204): what a register of a host, peer or expander returns is free (log 17). -/
def State.deviceRead (s : State) (n : Nat) : State × Nat :=
  let q := s.freeDws ((n + 7) / 8)
  (q.1, q.2 % 256 ^ n)

/-- Whether the region's own buffered plain bytes hold a byte (R203). -/
def ownByte (pl : Place) (i : Nat) (buf : List BufEntry) : Bool :=
  buf.any fun e => match e with
    | .glob g => decide (g.place = pl) && (match g.kind with | .bytes mask _ _ => mask.getLsbD i | _ => false)
    | _ => false

/-- The offsets among `n` bytes at a spot that a load reads from memory (R203: the buffer holds the others). -/
def State.fromMemory (s : State) (x : Spot) (n : Nat) : List Nat :=
  (List.range n).filter fun i => match blockOf (x.plus i) with
    | some pl => !ownByte pl (x.plus i).off s.core.buf
    | none => true

/-- The cause of a read of poisoned bytes: HPOIS where a host has sent them, else POISON (R395, R415; log 51). -/
def poisonCause (pa : Nat) : BitVec 8 := if inHost pa 1 then 0x1A else 0x11

/-- A load of `n` bytes at a spot (R203 to R205). `x` marks an uncached load (LDX); `la` is not 0 where a window is
asked for. Poison in any of the `n` bytes raises POISON, for a VLDG in those of lanes that are masked off too (log 78). -/
def State.loadSpot (s : State) (committed : Bool) (la : BitVec 4) (uncached : Bool) (u : WinUse) (n : Nat) (va : Word) :
    Spot → Except Stop (State × Nat)
  | .loc ea =>
    (match s.windowLocal ea n false u with
     | .error e => .error e
     | .ok k => match s.localRead k ea n with | .ok v => .ok (s, v) | .error e => .error e)
  | .rem cl off =>
    if heldBy false s.core.buf then .error .commitFirst else
    (match s.spotLE (.rem cl off) n with
     | none => .error .commitFirst
     | some v =>
       if (s.fromMemory (.rem cl off) n).any fun i => s.storeBad (cl * 16777216 + (off + i)) 1 then trapAt 0x11 0x01 va
       else .ok (s, v))
  | .phys pa leaf =>
    if ptePol leaf = 2 then
      (if la ≠ 0 then trapAt 0x07 0x21 va
       else if committed then .ok (s.deviceRead n)
       else .error .device)
    else if heldBy false s.core.buf then .error .commitFirst
    else
      match s.spotLE (.phys pa leaf) n with
      | none => .error .commitFirst
      | some v =>
        let mem := s.fromMemory (.phys pa leaf) n
        if mem.isEmpty then .ok (s, v)
        else
          match stopFor (s.hostBlock (s.readStops s.focus (!uncached && s.cachedLeaf pa leaf) (lineOf pa))) with
          | .error e => .error e
          | .ok _ =>
            if mem.any fun i => s.meetsPoison (s.cacheFor s.focus) (pa + i) 1 then trapAt (poisonCause pa) (if inHost pa 1 then 0 else 1) va
            else .ok (s.readLine s.focus (!uncached && s.cachedLeaf pa leaf) (dedupBit leaf) (lineOf pa), v)

/-- A load at a virtual address: orders 5 to 9 of R201. -/
def State.loadGlobal (s : State) (committed : Bool) (la : BitVec 4) (uncached : Bool) (u : WinUse) (n : Nat) (va : Word) :
    Except Stop (State × Nat) :=
  match s.resolve .read va n with
  | (_, .error e) => .error e
  | (s1, .ok x) => s1.loadSpot committed la uncached u n va x

/-! ### Stores (R203, R205) -/

/-- Global-store entries in use. -/
def globUsed (buf : List BufEntry) : Nat := (buf.filter fun e => match e with | .glob _ => true | _ => false).length

/-- Plain bytes merged into the newest entry of their block, when that is plain bytes. The block is performed at its home where
one of the stores asks for it (R203, R205; log 55). -/
def mergeGlob (cl : Nat) (va : Word) (pl : Place) (mask : BitVec 16) (data : BitVec 128) (home : Bool) (od sc : BitVec 3) :
    List BufEntry → Option (List BufEntry)
  | [] => none
  | e :: t =>
    match mergeGlob cl va pl mask data home od sc t with
    | some t' => some (e :: t')
    | none =>
      if t.any (atPlace cl pl) then none
      else
        match e with
        | .glob g =>
          (match g.kind with
           | .bytes m d h =>
             if g.place = pl then
               some (.glob { g with
                 vas := if g.vas.contains va then g.vas else g.vas ++ [va]
                 kind := .bytes (m ||| mask) (BitVec.ofNat 128 ((List.range 16).foldl (fun acc i =>
                   acc + (if mask.getLsbD i then data.extractLsb' (8 * i) 8 else d.extractLsb' (8 * i) 8).toNat * 256 ^ i) 0)) (h || home)
                 od := od
                 sc := sc } :: t)
             else none
           | _ => none)
        | _ => none

/-- A nibble merged into the newest entry of its byte, when nothing newer covers the byte. -/
def mergeNibble (cl : Nat) (va : Word) (pl : Place) (o : BitVec 4) (mask : BitVec 2) (d : Byte) : List BufEntry → Option (List BufEntry)
  | [] => none
  | e :: t =>
    match mergeNibble cl va pl o mask d t with
    | some t' => some (e :: t')
    | none =>
      let covers := t.any fun x => match x with
        | .glob g => decide (g.place = pl) && (match g.kind with
            | .nibble o' _ _ => decide (o' = o)
            | .bytes m _ _ => m.getLsbD o.toNat
            | .amo o' op => decide (o'.toNat ≤ o.toNat ∧ o.toNat < o'.toNat + op.bytes))
        | x => atPlace cl pl x
      if covers then none
      else
        match e with
        | .glob g =>
          (match g.kind with
           | .nibble o' m b =>
             if g.place = pl ∧ o' = o then some (.glob { g with
               vas := if g.vas.contains va then g.vas else g.vas ++ [va]
               kind := .nibble o (m ||| mask) (mergeNibbles mask b d) } :: t)
             else none
           | _ => none)
        | _ => none

/-- A new global-store entry; a full buffer asks for a commit first (R203). -/
def State.newGlob (s : State) (g : GEntry) : Except Stop State :=
  if 256 ≤ globUsed s.core.buf then .error .commitFirst
  else .ok { s with core := { s.core with buf := s.core.buf ++ [.glob g] } }

/-- One block of plain bytes buffered, `off` its first byte's place in the block. -/
def State.bufferBlock (s : State) (va : Word) (pl : Place) (off mask v : Nat) (home dd : Bool) (w1 : W1) : Except Stop State :=
  let m := BitVec.ofNat 16 (mask * 2 ^ off)
  let d := BitVec.ofNat 128 (v * 256 ^ off)
  if m = 0 then .ok s
  else
    match mergeGlob (clusterOf s.focus) va pl m d home w1.od w1.sc s.core.buf with
    | some b => .ok { s with core := { s.core with buf := b } }
    | none => s.newGlob ⟨[va], pl, .bytes m d home, w1.od, w1.sc, dd⟩

/-- Naturally aligned `n` bytes under a byte mask buffered, at most four blocks. -/
def State.bufferBytes (s : State) (va : Word) (x : Spot) (n mask v : Nat) (home dd : Bool) (w1 : W1) : Nat → Except Stop State
  | 0 => .ok s
  | fuel + 1 =>
    if n = 0 then .ok s
    else
      match blockOf x with
      | none => .ok s
      | some pl =>
        let k := min n 16
        match s.bufferBlock va pl x.off (mask % 2 ^ k) (v % 256 ^ k) home dd w1 with
        | .error e => .error e
        | .ok t => t.bufferBytes (va + 16) (x.plus 16) (n - 16) (mask / 2 ^ 16) (v / 256 ^ 16) home dd w1 fuel

/-- A device-page write performed at once (R204): the bytes reach the host, peer or expander. -/
def State.deviceWrite (s : State) (pa n mask v : Nat) : State := s.storeHome pa n mask v

/-- A store of `n` bytes under a byte mask at a spot (R203 to R205); `home` marks STX. A release to working scratchpad, performed at
once, follows the region's earlier stores (R170). -/
def State.storeSpot (s : State) (committed home : Bool) (u : WinUse) (n mask v : Nat) (w1 : W1) (va : Word) :
    Spot → Except Stop State
  | .loc ea =>
    (match s.windowLocal ea n true u with
     | .error e => .error e
     | .ok k =>
       if k = .work ∧ mustFollow w1.od s.core.buf then .error .commitFirst else s.landWrite (localTarget k ea n mask v))
  | .rem cl off => s.bufferBytes va (.rem cl off) n mask v home false w1 4
  | .phys pa leaf =>
    if ptePol leaf = 2 then
      (if committed then .ok (s.deviceWrite pa n mask v) else .error .device)
    else s.bufferBytes va (.phys pa leaf) n mask v (home || !s.cachedLeaf pa leaf) (dedupBit leaf) w1 4

/-- A store at a virtual address. -/
def State.storeGlobal (s : State) (committed home : Bool) (u : WinUse) (n mask v : Nat) (w1 : W1) (va : Word) :
    Except Stop State :=
  match s.resolve .write va n with
  | (_, .error e) => .error e
  | (s1, .ok x) => s1.storeSpot committed home u n mask v w1 va x

/-- A nibble entry merged or added. -/
def State.addNibble (s : State) (va : Word) (pl : Place) (off : Nat) (mask : BitVec 2) (b : Byte) (w1 : W1) :
    Except Stop State :=
  let o := BitVec.ofNat 4 off
  match mergeNibble (clusterOf s.focus) va pl o mask b s.core.buf with
  | some x => .ok { s with core := { s.core with buf := x } }
  | none => s.newGlob ⟨[va], pl, .nibble o mask b, w1.od, w1.sc, false⟩

/-- Orders 5 to 8 of R201 for STN's byte: a device page raises PERM detail 0x05 (R204, R371). -/
def State.resolveNibble (s : State) (va : Word) : State × Except Stop Spot :=
  match s.windowSpot va 1 with
  | .error e => (s, .error e)
  | .ok (some x) => (s, .ok x)
  | .ok none =>
    match s.translate s.focus va.toNat .write with
    | (s1, .error f) => (s1, .error (xlatStop f 0 .write s.focus va.toNat none))
    | (s1, .ok x) =>
      if ptePol x.leaf = 2 then (s1, .error (.trap (xlatTrap ⟨0x09, 0x05, x.level, none⟩ 0 .write s.focus va.toNat)))
      else (s1, .ok (.phys x.pa x.leaf))

/-- STN at a nibble address (R200, R207). -/
def State.storeNibble (s : State) (nva : Word) (d : BitVec 4) (w1 : W1) : Except Stop State :=
  let va := nva >>> 1
  let mask : BitVec 2 := if nva.getLsbD 0 then 2 else 1
  let b : Byte := d ++ d
  if 2 ^ 49 ≤ nva.toNat then trapAt 0x0A 0x01 nva
  else
    match s.resolveNibble va with
    | (_, .error e) => .error e
    | (s1, .ok (.loc ea)) =>
      (match s1.windowLocal ea 1 true .scalar with
       | .error e => .error e
       | .ok k =>
         if k = .work ∧ mustFollow w1.od s1.core.buf then .error .commitFirst
         else s1.landMem (BitVec.ofNat 24 ea) (mask.setWidth 128) (b.setWidth 512))
    | (s1, .ok x) =>
      match blockOf x with
      | some pl => s1.addNibble va pl x.off mask b w1
      | none => .ok s1

end Sys2Proof.Machine
end

