-- ==== Sys2Proof/Machine/Control.lean ====
section
/-! DEFINITION. Control: MAJ 0x0 but TRAP and ERET (R53, R294), branches, calls and repetition (R295 to R300), channel
and class-mask instructions (R301, R302). -/

namespace Sys2Proof.Machine

/-- NOP (R53). -/
def execNop (px : List Prefix) (st : State) : Out := runInstr (.nop px) st (fun _ st => .ok st)

/-! ### Ending and committing (R294) -/

/-- An instruction that commits with the program counter behind it. -/
def runEnding (i : Instr) (s : State) (k : State → State) : Out :=
  match i.parts, attrsOf i with
  | some p, some a =>
    s.atBoundary fun s1 =>
      match s1.contextFault p a with
      | some t => .next (s1.takeFault (s1.site p) t)
      | none => s1.whenClear (.next (k (s1.retire s1 (partsLen p)).commit))
  | _, _ => .refused (.notEnabled "INSTRUCTION")

/-- The activation ends. -/
def State.endActivation (s : State) : State := { s with core := { s.core with act := none } }

/-- A channel's state replaced. -/
def Core.setChan (c : Core) (n : BitVec 6) (x : Chan) : Core := { c with chans := c.chans.set n.toNat x n.isLt }

/-- A bare pend on a channel (R274). -/
def Core.pend (c : Core) (n : BitVec 6) : Core := c.setChan n { c.chan n with bare := true }

/-- DONE (R294). -/
def execDone (px : List Prefix) (st : State) : Out := runEnding (.done px) st (fun t => t.endActivation)

/-- COMMIT (R294). -/
def execCommit (px : List Prefix) (st : State) : Out := runEnding (.commit px) st (fun t => t)

/-- YIELD: a bare pend on the running channel, then the activation ends (R294). -/
def execYield (px : List Prefix) (st : State) : Out :=
  runEnding (.yield px) st (fun t => (t.upd (fun c => c.pend (c.act.getD 0))).endActivation)

/-- RET: PC := M23 (R294). -/
def execRet (px : List Prefix) (st : State) : Out :=
  runJump (.ret px) st (fun t => .ok (t, some (t.core.r.slot 23)))

/-! ### Branches and calls (R295 to R299) -/

/-- The address of the base word. -/
def State.baseAddr (s : State) (px : List Prefix) : Word := s.core.pc + BitVec.ofNat 64 (2 * px.length)

/-- A branch target: the base word's address plus twice the signed offset (R295). -/
def State.target (s : State) (px : List Prefix) (f field : Nat) : Word :=
  s.baseAddr px + 2 * immSigned px f field

/-- Whether the condition CC holds (R295). -/
def State.cond (s : State) (cc : BitVec 3) : Bool :=
  let g := s.core.r.flg
  match cc.toNat with
  | 0 => flagZ' g
  | 1 => !flagZ' g
  | 2 => g.getLsbD 2 != g.getLsbD 0
  | 3 => g.getLsbD 2 == g.getLsbD 0
  | 4 => g.getLsbD 1
  | 5 => !g.getLsbD 1
  | 6 => s.core.r.mask 0 != 0
  | _ => true
where
  /-- Z. -/
  flagZ' (g : Word) : Bool := g.getLsbD 3

/-- BR (R295). -/
def execBr (px : List Prefix) (cc : BitVec 3) (off : BitVec 9) (st : State) : Out :=
  runJump (.br px cc off) st (fun t =>
    .ok (t, if t.cond cc then some (t.target px 9 off.toNat) else none))

/-- JMP (R297). -/
def execJmp (px : List Prefix) (off : BitVec 11) (st : State) : Out :=
  runJump (.jmp px off) st (fun t => .ok (t, some (t.target px 11 off.toNat)))

/-- The link register written: M23 := the base word's address + 2, PRES[23] := 1. -/
def State.link (s : State) (px : List Prefix) : State :=
  { s with core := s.core.putSlot 23 (s.baseAddr px + 2) true }

/-- BRL (R297). -/
def execBrl (px : List Prefix) (off : BitVec 11) (st : State) : Out :=
  runJump (.brl px off) st (fun t => .ok (t.link px, some (t.target px 11 off.toNat)))

/-- The slot a JMPS or BRLS names. -/
def argSlot (arg : BitVec 8) : BitVec 5 := arg.extractLsb' 0 5

/-- JMPS (R298). -/
def execJmps (px : List Prefix) (arg : BitVec 8) (st : State) : Out :=
  runJump (.jmps px arg) st (fun t => .ok (t, some (t.core.r.slot (argSlot arg))))

/-- BRLS: the target is read before M23 is written (R298). -/
def execBrls (px : List Prefix) (arg : BitVec 8) (st : State) : Out :=
  runJump (.brls px arg) st (fun t => .ok (t.link px, some (t.core.r.slot (argSlot arg))))

/-! ### Repetition (R50, R300) -/

/-- The words of one instruction stepped over by their lengths: prefix words, base word, second word (R29, R300). -/
def State.stepOver (s : State) (a : Nat) : Nat → State × Except Stop Nat
  | 0 => (s, .ok a)
  | n + 1 =>
    match s.fetchHalf a 2 with
    | (s1, .error t) => (s1, .error t)
    | (s1, .ok w) =>
      if (Prefix.ofWord w).isSome then s1.stepOver (a + 2) n
      else if isLong w then
        (match s1.fetchHalf (a + 2) 2 with
         | (s2, .error t) => (s2, .error t)
         | (s2, .ok _) => (s2, .ok (a + 4)))
      else (s1, .ok (a + 2))

/-- `n` instructions stepped over; a chain of any length is stepped over word by word. -/
def State.stepOvers (s : State) (a : Nat) : Nat → State × Except Stop Nat
  | 0 => (s, .ok a)
  | n + 1 =>
    match s.stepOver a 64 with
    | (s1, .ok b) => s1.stepOvers b n
    | (s1, .error t) => (s1, .error t)

/-- The count of a REP (R300). -/
def repCount (px : List Prefix) (a : Word) : Nat := if noImmx px then a.toNat % 512 + 1 else immxVal px 0

/-- REP (R300). With a count of 0 the body is stepped over; otherwise the repetition state starts. -/
def execRep (px : List Prefix) (arg : BitVec 8) (st : State) : Out :=
  match (Instr.rep px arg).parts, attrsOf (.rep px arg) with
  | some p, some a =>
    st.atBoundary fun s1 =>
     (match s1.contextFault p a with
     | some t => .next (s1.takeFault (s1.site p) t)
     | none =>
       let n := repCount px s1.core.r.a
       let next := s1.core.pc + BitVec.ofNat 64 (partsLen p)
       let t := s1.tickLong
       let t1 := { t with core := { t.core with icount := t.core.icount + 1, xfer := false } }
       if n = 0 then
         match t1.stepOvers next.toNat ((arg.extractLsb' 5 3).toNat + 1) with
         | (_, .error e) => s1.stopped p e
         | (u, .ok b) => .next { u with core := { u.core with pc := BitVec.ofNat 64 b } }
       else
         .next { t1 with core := { t1.core with
           pc := next
           rep := ⟨true, BitVec.ofNat 40 n, arg.extractLsb' 5 3, arg.extractLsb' 2 3, 0, 0, s1.core.pc, some next⟩ } })
  | _, _ => .refused (.notEnabled "INSTRUCTION")

/-! ### Channels and class masks (R301, R302) -/

/-- CHEN as software reads it: bit 56 reads 1 and ignores writes (R272). -/
def chenBit56 : BitVec 64 := 0x0100000000000000#64

/-- The channel an ARG names. -/
def argChan (arg : BitVec 8) : BitVec 6 := arg.extractLsb' 0 6

/-- CHEN; channel 56's bit never changes (R272, R301). -/
def execChen (px : List Prefix) (arg : BitVec 8) (st : State) : Out :=
  runInstr (.chen px arg) st (fun _ st =>
    .ok (if argChan arg = 56 then st
      else st.upd fun c => { c with ctl := { c.ctl with chen := c.ctl.chen ||| BitVec.ofNat 64 (2 ^ (argChan arg).toNat) } }))

/-- CHDIS; channel 56's bit never changes (R272, R301). -/
def execChdis (px : List Prefix) (arg : BitVec 8) (st : State) : Out :=
  runInstr (.chdis px arg) st (fun _ st =>
    .ok (if argChan arg = 56 then st
      else st.upd fun c =>
        { c with ctl := { c.ctl with chen := c.ctl.chen &&& ~~~(BitVec.ofNat 64 (2 ^ (argChan arg).toNat)) } }))

/-- OPND detail 0x43 for channel 56, which has no handler (R301). -/
def chan56 {α : Type} : Except Stop α := trapAt 0x07 0x43 56

/-- CHPEND (R301). -/
def execChpend (px : List Prefix) (arg : BitVec 8) (st : State) : Out :=
  runInstr (.chpend px arg) st (fun _ st =>
    if argChan arg = 56 then chan56 else .ok (st.upd fun c => c.pend (argChan arg)))

/-- CHCLR (R301). -/
def execChclr (px : List Prefix) (arg : BitVec 8) (st : State) : Out :=
  runInstr (.chclr px arg) st (fun _ st =>
    .ok (st.upd fun c => c.setChan (argChan arg) { c.chan (argChan arg) with bare := false }))

/-- CHPRI (R301). -/
def execChpri (px : List Prefix) (arg : BitVec 8) (st : State) : Out :=
  runInstr (.chpri px arg) st (fun _ st =>
    let p := BitVec.ofNat 3 (immxVal px 0)
    if argChan arg = 56 then chan56
    else .ok (st.upd fun c => c.setChan (argChan arg) { c.chan (argChan arg) with pri := p, epri := p, pass := 0 }))

/-- CMASK (R302). -/
def execCmask (px : List Prefix) (arg : BitVec 8) (st : State) : Out :=
  runInstr (.cmask px arg) st (fun _ st =>
    .ok (st.upd fun c => { c with ctl := { c.ctl with cmask := c.ctl.cmask ||| arg } }))

/-- CUNMASK (R302). -/
def execCunmask (px : List Prefix) (arg : BitVec 8) (st : State) : Out :=
  runInstr (.cunmask px arg) st (fun _ st =>
    .ok (st.upd fun c => { c with ctl := { c.ctl with cmask := c.ctl.cmask &&& ~~~arg } }))

end Sys2Proof.Machine
end

