-- ==== Sys2Proof/Machine/Flags.lean ====
section
/-! DEFINITION. The integer results and their flags (R95, R99, R100): each function gives the result, which of Z, N, C,
V it writes (bits 3 to 0 of a mask), and their values. -/

namespace Sys2Proof.Machine

/-- A result with the flags it writes. -/
structure AluOut where
  r : Word
  mask : BitVec 4
  zncv : BitVec 4
deriving DecidableEq, Repr

/-- Z, N, C, V as a nibble. -/
def nib (z n c v : Bool) : BitVec 4 := ((BitVec.ofBool z ++ BitVec.ofBool n) ++ BitVec.ofBool c) ++ BitVec.ofBool v

/-- A result that writes Z and N (R95). -/
def outZN (r : Word) : AluOut := ⟨r, 12, nib (r == 0) r.msb false false⟩
/-- A result that writes Z alone. -/
def outZ (r : Word) : AluOut := ⟨r, 8, nib (r == 0) false false false⟩
/-- A result that writes no flag. -/
def outNone (r : Word) : AluOut := ⟨r, 0, 0⟩
/-- A result that writes Z, N, C and V. -/
def outZNCV (r : Word) (c v : Bool) : AluOut := ⟨r, 15, nib (r == 0) r.msb c v⟩
/-- A result that writes Z, N and V. -/
def outZNV (r : Word) (v : Bool) : AluOut := ⟨r, 13, nib (r == 0) r.msb false v⟩
/-- A result that writes Z and N, and C when it is given. -/
def outShift (r : Word) (c : Option Bool) : AluOut :=
  match c with
  | none => outZN r
  | some b => ⟨r, 14, nib (r == 0) r.msb b false⟩

/-- Whether an exact signed value fits in 64 bits (R95, V). -/
def fitsSigned (i : Int) : Bool := decide (-9223372036854775808 ≤ i ∧ i ≤ 9223372036854775807)

/-- a + b + c. -/
def aluAdd (a b : Word) (c : Bool) : AluOut :=
  let r := a + b + BitVec.ofNat 64 c.toNat
  outZNCV r (decide (2 ^ 64 ≤ a.toNat + b.toNat + c.toNat)) (!fitsSigned (a.toInt + b.toInt + c.toNat))

/-- a − b − c: C is the borrow. -/
def aluSub (a b : Word) (c : Bool) : AluOut :=
  let r := a - b - BitVec.ofNat 64 c.toNat
  outZNCV r (decide (a.toNat < b.toNat + c.toNat)) (!fitsSigned (a.toInt - b.toInt - c.toNat))

/-- SHL (R99, R100). -/
def aluShl (a n : Word) : AluOut :=
  let k := n.toNat
  outShift (if k < 64 then a <<< k else 0)
    (if k = 0 then none else some (decide (k ≤ 64) && a.getLsbD (64 - k)))

/-- SHR (R99, R100). -/
def aluShr (a n : Word) : AluOut :=
  let k := n.toNat
  outShift (if k < 64 then a >>> k else 0)
    (if k = 0 then none else some (decide (k ≤ 64) && a.getLsbD (k - 1)))

/-- SAR (R99, R100). -/
def aluSar (a n : Word) : AluOut :=
  let k := n.toNat
  outShift (if k < 64 then a.sshiftRight k else if a.msb then BitVec.allOnes 64 else 0)
    (if k = 0 then none else some (if k ≤ 64 then a.getLsbD (k - 1) else a.msb))

/-- ROL (R99, R100). -/
def aluRol (a n : Word) : AluOut :=
  let k := n.toNat % 64
  let r := a.rotateLeft k
  outShift r (if k = 0 then none else some (r.getLsbD 0))

/-- ROR (R99, R100). -/
def aluRor (a n : Word) : AluOut :=
  let k := n.toNat % 64
  let r := a.rotateRight k
  outShift r (if k = 0 then none else some (r.getLsbD 63))

/-- MUL: C when the unsigned product exceeds 64 bits, V when the signed one does not fit. -/
def aluMul (a b : Word) : AluOut :=
  outZNCV (a * b) (decide (2 ^ 64 ≤ a.toNat * b.toNat)) (!fitsSigned (a.toInt * b.toInt))

/-- MULH. -/
def aluMulh (a b : Word) : AluOut := outZN ((BitVec.ofInt 128 (a.toInt * b.toInt)).extractLsb' 64 64)
/-- MULHN. -/
def aluMulhn (a b : Word) : AluOut := outZN ((BitVec.ofNat 128 (a.toNat * b.toNat)).extractLsb' 64 64)

/-- The number of leading zero bits among the low `n` bits. -/
def clzFrom (x : Word) : Nat → Nat
  | 0 => 0
  | n + 1 => if x.getLsbD n then 0 else clzFrom x n + 1

/-- The number of trailing zero bits from bit `64 − n`. -/
def ctzFrom (x : Word) : Nat → Nat
  | 0 => 0
  | n + 1 => if x.getLsbD (64 - (n + 1)) then 0 else ctzFrom x n + 1

/-- The number of one bits among the low `n`. -/
def popFrom (x : Word) : Nat → Nat
  | 0 => 0
  | n + 1 => popFrom x n + (x.getLsbD n).toNat

/-- Bit i moved to 63 − i. -/
def bitReverse (x : Word) : Nat → Nat
  | 0 => 0
  | n + 1 => bitReverse x n + (x.getLsbD n).toNat * 2 ^ (63 - n)

/-- Byte i moved to 7 − i. -/
def byteSwap (x : Word) : Nat → Nat
  | 0 => 0
  | n + 1 => byteSwap x n + (x.extractLsb' (8 * n) 8).toNat * 256 ^ (7 - n)

/-- SEXT: A[j:0] sign-extended from bit j, j = src[5:0]. -/
def aluSext (a src : Word) : AluOut := outZN (signExt (src.toNat % 64 + 1) a.toNat)
/-- ZEXT. -/
def aluZext (a src : Word) : AluOut := outZN (BitVec.ofNat 64 (a.toNat % 2 ^ (src.toNat % 64 + 1)))

/-- The signed value saturated to 64 bits. -/
def saturate64 (i : Int) : Word :=
  if i < -9223372036854775808 then 0x8000000000000000#64
  else if 9223372036854775807 < i then 0x7FFFFFFFFFFFFFFF#64
  else BitVec.ofInt 64 i

/-- ADDS. -/
def aluAdds (a b : Word) : AluOut := outZNV (saturate64 (a.toInt + b.toInt)) (!fitsSigned (a.toInt + b.toInt))
/-- SUBS. -/
def aluSubs (a b : Word) : AluOut := outZNV (saturate64 (a.toInt - b.toInt)) (!fitsSigned (a.toInt - b.toInt))
/-- ABS. -/
def aluAbs (b : Word) : AluOut := outZNV (if b.msb then 0 - b else b) (b == 0x8000000000000000#64)

/-- Z of FLG. -/
def flagZ (flg : Word) : Bool := flg.getLsbD 3
/-- N of FLG. -/
def flagN (flg : Word) : Bool := flg.getLsbD 2
/-- C of FLG. -/
def flagC (flg : Word) : Bool := flg.getLsbD 1
/-- V of FLG. -/
def flagV (flg : Word) : Bool := flg.getLsbD 0

end Sys2Proof.Machine
end

