-- ==== Sys2Proof/Machine/Int.lean ====
section
/-! DEFINITION. The integer instructions, MAJ 0x1 (R93 to R101). -/

namespace Sys2Proof.Machine

/-- A binary or unary instruction (R93, R99): src := ReadOp(S), the result to A or DST, then the flags (log 16), post-steps. -/
def aluBody (px : List Prefix) (s : BitVec 6) (f : Word → Word → Word → AluOut) : Body := fun _ st =>
  match st.readOp (ctxS px s 8) s with
  | .error e => .error e
  | .ok src =>
    let o := f st.core.r.flg st.core.r.a src
    match st.writeResult px s 8 o.r with
    | .error e => .error e
    | .ok t => .ok ((t.setZncv o.mask o.zncv).post st (stepsSD px s))

/-- A comparison (R93): the first operand is DST's S or A, no result. -/
def cmpBody (px : List Prefix) (s : BitVec 6) (f : Word → Word → AluOut) : Body := fun _ st =>
  match st.readOp (ctxS px s 8) s with
  | .error e => .error e
  | .ok src =>
    match st.firstOperand px s 8 with
    | .error e => .error e
    | .ok x =>
      let o := f x src
      .ok ((st.setZncv o.mask o.zncv).post st (stepsSD px s))

/-- The context of an operand whose instruction consumes the chain itself (R101): no extension, no displacement. -/
def ctxBare (px : List Prefix) (s : BitVec 6) : OpCtx :=
  ⟨widthBytes (dstW px) 8, (dstW px).getLsbD 3, BitVec.ofNat 64 (s.toNat % 8), 0⟩

/-- A result to DST or A when the instruction consumes the chain itself. -/
def State.writeBare (s : State) (px : List Prefix) (v : Word) : Except Stop State :=
  match dstOf px with
  | none => .ok (s.setA v)
  | some d => s.writeOp (ctxBare px d.1) d.1 v

/-- BFX and BFI (R101): the field's position and length come from the chain. -/
def fieldBody (px : List Prefix) (s : BitVec 6) (f : Word → Word → Nat → Nat → Word) : Body := fun _ st =>
  let v := immxVal px 0
  let pos := v % 64
  let len := v / 64 % 64 + 1
  if 4096 ≤ v ∨ 64 < pos + len then trapAt 0x07 0x01 (BitVec.ofNat 64 v)
  else
    match st.readOp (ctxBare px s) s with
    | .error e => .error e
    | .ok src =>
      let o := outZN (f st.core.r.a src pos len)
      match st.writeBare px o.r with
      | .error e => .error e
      | .ok t => .ok ((t.setZncv o.mask o.zncv).post st (stepsSD px s))

/-- LDA: r = src (R99). -/
def execLda (px : List Prefix) (s : BitVec 6) (st : State) : Out :=
  runInstr (.lda px s) st (aluBody px s (fun _ _ src => outZN src))

/-- ADD: r = A + src (R99). -/
def execAdd (px : List Prefix) (s : BitVec 6) (st : State) : Out :=
  runInstr (.add px s) st (aluBody px s (fun _ a src => aluAdd a src false))

/-- ADC: r = A + src + C (R99). -/
def execAdc (px : List Prefix) (s : BitVec 6) (st : State) : Out :=
  runInstr (.adc px s) st (aluBody px s (fun g a src => aluAdd a src (flagC g)))

/-- SUB: r = A − src (R99). -/
def execSub (px : List Prefix) (s : BitVec 6) (st : State) : Out :=
  runInstr (.sub px s) st (aluBody px s (fun _ a src => aluSub a src false))

/-- SBC: r = A − src − C (R99). -/
def execSbc (px : List Prefix) (s : BitVec 6) (st : State) : Out :=
  runInstr (.sbc px s) st (aluBody px s (fun g a src => aluSub a src (flagC g)))

/-- RSB: r = src − A (R99). -/
def execRsb (px : List Prefix) (s : BitVec 6) (st : State) : Out :=
  runInstr (.rsb px s) st (aluBody px s (fun _ a src => aluSub src a false))

/-- AND: r = A AND src (R99). -/
def execAnd (px : List Prefix) (s : BitVec 6) (st : State) : Out :=
  runInstr (.and px s) st (aluBody px s (fun _ a src => outZN (a &&& src)))

/-- OR: r = A OR src (R99). -/
def execOr (px : List Prefix) (s : BitVec 6) (st : State) : Out :=
  runInstr (.or px s) st (aluBody px s (fun _ a src => outZN (a ||| src)))

/-- XOR: r = A XOR src (R99). -/
def execXor (px : List Prefix) (s : BitVec 6) (st : State) : Out :=
  runInstr (.xor px s) st (aluBody px s (fun _ a src => outZN (a ^^^ src)))

/-- ANDN: r = A AND NOT src (R99). -/
def execAndn (px : List Prefix) (s : BitVec 6) (st : State) : Out :=
  runInstr (.andn px s) st (aluBody px s (fun _ a src => outZN (a &&& ~~~src)))

/-- SHL: A shifted left (R99). -/
def execShl (px : List Prefix) (s : BitVec 6) (st : State) : Out :=
  runInstr (.shl px s) st (aluBody px s (fun _ a src => aluShl a src))

/-- SHR: A shifted right, logical (R99). -/
def execShr (px : List Prefix) (s : BitVec 6) (st : State) : Out :=
  runInstr (.shr px s) st (aluBody px s (fun _ a src => aluShr a src))

/-- SAR: A shifted right, arithmetic (R99). -/
def execSar (px : List Prefix) (s : BitVec 6) (st : State) : Out :=
  runInstr (.sar px s) st (aluBody px s (fun _ a src => aluSar a src))

/-- ROL: A rotated left (R99). -/
def execRol (px : List Prefix) (s : BitVec 6) (st : State) : Out :=
  runInstr (.rol px s) st (aluBody px s (fun _ a src => aluRol a src))

/-- ROR: A rotated right (R99). -/
def execRor (px : List Prefix) (s : BitVec 6) (st : State) : Out :=
  runInstr (.ror px s) st (aluBody px s (fun _ a src => aluRor a src))

/-- MUL: the low 64 bits of A × src (R99). -/
def execMul (px : List Prefix) (s : BitVec 6) (st : State) : Out :=
  runInstr (.mul px s) st (aluBody px s (fun _ a src => aluMul a src))

/-- MULH: the high half of the signed product (R99). -/
def execMulh (px : List Prefix) (s : BitVec 6) (st : State) : Out :=
  runInstr (.mulh px s) st (aluBody px s (fun _ a src => aluMulh a src))

/-- MULHN: the high half of the unsigned product (R99). -/
def execMulhn (px : List Prefix) (s : BitVec 6) (st : State) : Out :=
  runInstr (.mulhn px s) st (aluBody px s (fun _ a src => aluMulhn a src))

/-- MIN: the signed minimum (R99). -/
def execMin (px : List Prefix) (s : BitVec 6) (st : State) : Out :=
  runInstr (.min px s) st (aluBody px s (fun _ a src => outZN (if a.slt src then a else src)))

/-- MAX: the signed maximum (R99). -/
def execMax (px : List Prefix) (s : BitVec 6) (st : State) : Out :=
  runInstr (.max px s) st (aluBody px s (fun _ a src => outZN (if a.slt src then src else a)))

/-- MINN: the unsigned minimum (R99). -/
def execMinn (px : List Prefix) (s : BitVec 6) (st : State) : Out :=
  runInstr (.minn px s) st (aluBody px s (fun _ a src => outZN (if a.ult src then a else src)))

/-- MAXN: the unsigned maximum (R99). -/
def execMaxn (px : List Prefix) (s : BitVec 6) (st : State) : Out :=
  runInstr (.maxn px s) st (aluBody px s (fun _ a src => outZN (if a.ult src then src else a)))

/-- NEG: r = 0 − src (R99). -/
def execNeg (px : List Prefix) (s : BitVec 6) (st : State) : Out :=
  runInstr (.neg px s) st (aluBody px s (fun _ _ src => aluSub 0 src false))

/-- NOT: r = NOT src (R99). -/
def execNot (px : List Prefix) (s : BitVec 6) (st : State) : Out :=
  runInstr (.not px s) st (aluBody px s (fun _ _ src => outZN (~~~src)))

/-- CLZ: leading zeros of src (R99). -/
def execClz (px : List Prefix) (s : BitVec 6) (st : State) : Out :=
  runInstr (.clz px s) st (aluBody px s (fun _ _ src => outZ (BitVec.ofNat 64 (clzFrom src 64))))

/-- CTZ: trailing zeros of src (R99). -/
def execCtz (px : List Prefix) (s : BitVec 6) (st : State) : Out :=
  runInstr (.ctz px s) st (aluBody px s (fun _ _ src => outZ (BitVec.ofNat 64 (ctzFrom src 64))))

/-- POPC: one bits of src (R99). -/
def execPopc (px : List Prefix) (s : BitVec 6) (st : State) : Out :=
  runInstr (.popc px s) st (aluBody px s (fun _ _ src => outZ (BitVec.ofNat 64 (popFrom src 64))))

/-- BREV: src with its bits reversed (R99). -/
def execBrev (px : List Prefix) (s : BitVec 6) (st : State) : Out :=
  runInstr (.brev px s) st (aluBody px s (fun _ _ src => outZN (BitVec.ofNat 64 (bitReverse src 64))))

/-- BSWP: src with its bytes reversed (R99). -/
def execBswp (px : List Prefix) (s : BitVec 6) (st : State) : Out :=
  runInstr (.bswp px s) st (aluBody px s (fun _ _ src => outZN (BitVec.ofNat 64 (byteSwap src 8))))

/-- SEXT: A[j:0] sign-extended (R99). -/
def execSext (px : List Prefix) (s : BitVec 6) (st : State) : Out :=
  runInstr (.sext px s) st (aluBody px s (fun _ a src => aluSext a src))

/-- ZEXT: A[j:0] zero-extended (R99). -/
def execZext (px : List Prefix) (s : BitVec 6) (st : State) : Out :=
  runInstr (.zext px s) st (aluBody px s (fun _ a src => aluZext a src))

/-- SELZ: src if Z = 1, else A (R99). -/
def execSelz (px : List Prefix) (s : BitVec 6) (st : State) : Out :=
  runInstr (.selz px s) st (aluBody px s (fun g a src => outNone (if flagZ g then src else a)))

/-- SELNZ: src if Z = 0, else A (R99). -/
def execSelnz (px : List Prefix) (s : BitVec 6) (st : State) : Out :=
  runInstr (.selnz px s) st (aluBody px s (fun g a src => outNone (if flagZ g then a else src)))

/-- ADDS: A + src, saturated (R99). -/
def execAdds (px : List Prefix) (s : BitVec 6) (st : State) : Out :=
  runInstr (.adds px s) st (aluBody px s (fun _ a src => aluAdds a src))

/-- SUBS: A − src, saturated (R99). -/
def execSubs (px : List Prefix) (s : BitVec 6) (st : State) : Out :=
  runInstr (.subs px s) st (aluBody px s (fun _ a src => aluSubs a src))

/-- ABS: |src| (R99). -/
def execAbs (px : List Prefix) (s : BitVec 6) (st : State) : Out :=
  runInstr (.abs px s) st (aluBody px s (fun _ _ src => aluAbs src))

/-- CMP: the flags of A − src (R99). -/
def execCmp (px : List Prefix) (s : BitVec 6) (st : State) : Out :=
  runInstr (.cmp px s) st (cmpBody px s (fun x src => aluSub x src false))

/-- TST: the flags of A AND src (R99). -/
def execTst (px : List Prefix) (s : BitVec 6) (st : State) : Out :=
  runInstr (.tst px s) st (cmpBody px s (fun x src => outZN (x &&& src)))

/-- BFX: the field of src (R101). -/
def execBfx (px : List Prefix) (s : BitVec 6) (st : State) : Out :=
  runInstr (.bfx px s) st (fieldBody px s (fun _ src pos len => BitVec.ofNat 64 (src.toNat / 2 ^ pos % 2 ^ len)))

/-- BFI: A with the field replaced by src's low bits (R101). -/
def execBfi (px : List Prefix) (s : BitVec 6) (st : State) : Out :=
  runInstr (.bfi px s) st (fieldBody px s (fun a src pos len =>
    BitVec.ofNat 64 (a.toNat / 2 ^ (pos + len) * 2 ^ (pos + len) + src.toNat % 2 ^ len * 2 ^ pos + a.toNat % 2 ^ pos)))

/-- The body of STA (R99): WriteOp(S, A or DST's value). -/
def staBody (px : List Prefix) (s : BitVec 6) : Body := fun _ st =>
  match st.firstOperand px s 8 with
  | .error e => .error e
  | .ok v =>
    match st.writeOp (ctxS px s 8) s v with
    | .error e => .error e
    | .ok t => .ok (t.post st (stepsSD px s))

/-- STA (R99). -/
def execSta (px : List Prefix) (s : BitVec 6) (st : State) : Out :=
  runInstr (.sta px s) st (staBody px s)

/-- The body of MAC (R99): A + src × s2, s2 read through DST's S. -/
def macBody (px : List Prefix) (s : BitVec 6) : Body := fun _ st =>
  match st.readOp (ctxS px s 8) s with
  | .error e => .error e
  | .ok src =>
    match st.firstOperand px s 8 with
    | .error e => .error e
    | .ok s2 =>
      let o := outZN (st.core.r.a + src * s2)
      .ok (((st.setA o.r).setZncv o.mask o.zncv).post st (stepsSD px s))

/-- MAC (R99). -/
def execMac (px : List Prefix) (s : BitVec 6) (st : State) : Out :=
  runInstr (.mac px s) st (macBody px s)

/-- The body of XCHG (R96, R99): both are read, X is written first, then S. -/
def xchgBody (px : List Prefix) (s : BitVec 6) : Body := fun _ st =>
  match st.readOp (ctxS px s 8) s with
  | .error e => .error e
  | .ok old =>
    match st.firstOperand px s 8 with
    | .error e => .error e
    | .ok x =>
      match st.writeTarget (ctxS px s 8) s x with
      | .error e => .error e
      | .ok w =>
        match st.writeResult px s 8 old with
        | .error e => .error e
        | .ok t =>
          match t.landWrite w with
          | .error e => .error e
          | .ok t' => .ok (t'.post st (stepsSD px s))

/-- XCHG (R99). -/
def execXchg (px : List Prefix) (s : BitVec 6) (st : State) : Out :=
  runInstr (.xchg px s) st (xchgBody px s)

end Sys2Proof.Machine
end

