-- ==== Sys2Proof/Machine/ImmPtr.lean ====
section
/-! DEFINITION. The immediate and slot forms of MAJ 0x4 (R102 to R104), the pointer instructions of MAJ 0x5 (R105) and
the mask instructions of MAJ 0xB (R117). -/

namespace Sys2Proof.Machine

/-- An immediate form (R102): the counterpart of MAJ 0x1 with imm in place of src. -/
def immBody (px : List Prefix) (imm : Word) (f : Word → Word → AluOut) : Body := fun _ st =>
  let o := f st.core.r.a imm
  match st.writeBare px o.r with
  | .error e => .error e
  | .ok t => .ok ((t.setZncv o.mask o.zncv).post st (stepsSD px 0))

/-- LDI (R102). -/
def execLdi (px : List Prefix) (imm : BitVec 8) (st : State) : Out :=
  runInstr (.ldi px imm) st (immBody px (immSigned px 8 imm.toNat) (fun _ i => outZN i))

/-- ADDI (R102). -/
def execAddi (px : List Prefix) (imm : BitVec 8) (st : State) : Out :=
  runInstr (.addi px imm) st (immBody px (immSigned px 8 imm.toNat) (fun a i => aluAdd a i false))

/-- ANDI (R102). -/
def execAndi (px : List Prefix) (imm : BitVec 8) (st : State) : Out :=
  runInstr (.andi px imm) st (immBody px (immUnsigned px 8 imm.toNat) (fun a i => outZN (a &&& i)))

/-- ORI (R102). -/
def execOri (px : List Prefix) (imm : BitVec 8) (st : State) : Out :=
  runInstr (.ori px imm) st (immBody px (immUnsigned px 8 imm.toNat) (fun a i => outZN (a ||| i)))

/-- XORI (R102). -/
def execXori (px : List Prefix) (imm : BitVec 8) (st : State) : Out :=
  runInstr (.xori px imm) st (immBody px (immUnsigned px 8 imm.toNat) (fun a i => outZN (a ^^^ i)))

/-- SHLI (R102). -/
def execShli (px : List Prefix) (imm : BitVec 8) (st : State) : Out :=
  runInstr (.shli px imm) st (immBody px (immUnsigned px 8 imm.toNat) (fun a i => aluShl a i))

/-- SHRI (R102). -/
def execShri (px : List Prefix) (imm : BitVec 8) (st : State) : Out :=
  runInstr (.shri px imm) st (immBody px (immUnsigned px 8 imm.toNat) (fun a i => aluShr a i))

/-- SARI (R102). -/
def execSari (px : List Prefix) (imm : BitVec 8) (st : State) : Out :=
  runInstr (.sari px imm) st (immBody px (immUnsigned px 8 imm.toNat) (fun a i => aluSar a i))

/-- MULI (R102). -/
def execMuli (px : List Prefix) (imm : BitVec 8) (st : State) : Out :=
  runInstr (.muli px imm) st (immBody px (immSigned px 8 imm.toNat) (fun a i => aluMul a i))

/-- The body of CMPI (R102): the flags of the first operand minus imm. -/
def cmpiBody (px : List Prefix) (imm : BitVec 8) : Body := fun _ st =>
  let first := match dstOf px with
    | none => Except.ok st.core.r.a
    | some d => st.readOp (ctxBare px d.1) d.1
  match first with
  | .error e => .error e
  | .ok x =>
    let o := aluSub x (immSigned px 8 imm.toNat) false
    .ok ((st.setZncv o.mask o.zncv).post st (stepsSD px 0))

/-- CMPI (R102). -/
def execCmpi (px : List Prefix) (imm : BitVec 8) (st : State) : Out :=
  runInstr (.cmpi px imm) st (cmpiBody px imm)

/-- The body of SPRES (R103): Z := NOT PRES[n]; with c = 1 the presence bit is cleared. -/
def spresBody (imm : BitVec 8) : Body := fun _ st =>
  let n := imm.extractLsb' 0 5
  let t := st.setZ (!st.core.r.pres.getLsbD n.toNat)
  if imm.getLsbD 5 then
    match t.core.writePres n false with
    | .ok c => .ok { t with core := c }
    | .error e => .error e
  else .ok t

/-- SPRES (R103). -/
def execSpres (px : List Prefix) (imm : BitVec 8) (st : State) : Out :=
  runInstr (.spres px imm) st (spresBody imm)

/-- Clearing `k` slots from slot n (R104). -/
def clearSlots (c : Core) (n : Nat) : Nat → Except Stop Core
  | 0 => .ok c
  | k + 1 =>
    match c.writeSlot (BitVec.ofNat 5 n) 0 false with
    | .ok c' => clearSlots c' (n + 1) k
    | .error e => .error e

/-- SCLR (R104). -/
def execSclr (px : List Prefix) (imm : BitVec 8) (st : State) : Out :=
  runInstr (.sclr px imm) st (fun _ st =>
    match clearSlots st.core (imm.extractLsb' 0 5).toNat ((imm.extractLsb' 5 3).toNat + 1) with
    | .ok c => .ok { st with core := c }
    | .error e => .error e)

/-! ### Pointers (R105) -/

/-- A pointer register replaced. -/
def State.setPtr (s : State) (n : BitVec 3) (v : Word) : State :=
  { s with core := { s.core with r := { s.core.r with p := s.core.r.p.set n.toNat v n.isLt } } }

/-- OPND detail 0x02 for an immediate out of range (R105). -/
def ptrRange {α : Type} (v : Word) : Except Stop α := trapAt 0x07 0x02 v

/-- PSET: P.ADDR := imm (R105). -/
def execPset (px : List Prefix) (pr : BitVec 3) (imm : BitVec 6) (st : State) : Out :=
  runInstr (.pset px pr imm) st (fun _ st =>
    let v := immUnsigned px 6 imm.toNat
    if 16777216 ≤ v.toNat then ptrRange v else .ok (st.setPtr pr (ptrSetAddr (st.core.r.ptr pr) v.toNat)))

/-- PGET: A := P (R105). -/
def execPget (px : List Prefix) (pr : BitVec 3) (imm : BitVec 6) (st : State) : Out :=
  runInstr (.pget px pr imm) st (fun _ st => .ok (st.setA (st.core.r.ptr pr)))

/-- PADD: PostStep with imm in place of STEP (R105). -/
def execPadd (px : List Prefix) (pr : BitVec 3) (imm : BitVec 6) (st : State) : Out :=
  runInstr (.padd px pr imm) st (fun _ st =>
    .ok (st.setPtr pr (ptrAdvance (st.core.r.ptr pr) (immSigned px 6 imm.toNat).toInt)))

/-- PSTEP: P.STEP := imm (R105). -/
def execPstep (px : List Prefix) (pr : BitVec 3) (imm : BitVec 6) (st : State) : Out :=
  runInstr (.pstep px pr imm) st (fun _ st =>
    let v := immSigned px 6 imm.toNat
    if v.toInt < -32768 ∨ 32767 < v.toInt then ptrRange v
    else
      let p := st.core.r.ptr pr
      .ok (st.setPtr pr ((p.extractLsb' 48 16 ++ v.extractLsb' 0 16) ++ p.extractLsb' 0 32)))

/-- PMOD: P.MOD := imm (R105). -/
def execPmod (px : List Prefix) (pr : BitVec 3) (imm : BitVec 6) (st : State) : Out :=
  runInstr (.pmod px pr imm) st (fun _ st =>
    let v := immUnsigned px 6 imm.toNat
    if 65536 ≤ v.toNat then ptrRange v
    else .ok (st.setPtr pr (v.extractLsb' 0 16 ++ (st.core.r.ptr pr).extractLsb' 0 48)))

/-- PLEA: A := (P.ADDR + imm) mod 2^24 (R105). -/
def execPlea (px : List Prefix) (pr : BitVec 3) (imm : BitVec 6) (st : State) : Out :=
  runInstr (.plea px pr imm) st (fun _ st =>
    .ok (st.setA (((st.core.r.ptr pr + immSigned px 6 imm.toNat).extractLsb' 0 24).setWidth 64)))

/-- PSWP: P and A exchange all 64 bits (R105). -/
def execPswp (px : List Prefix) (pr : BitVec 3) (imm : BitVec 6) (st : State) : Out :=
  runInstr (.pswp px pr imm) st (fun _ st => .ok ((st.setPtr pr st.core.r.a).setA (st.core.r.ptr pr)))

/-- PCMP: the flags of P.ADDR against imm mod 2^24 (R105). -/
def execPcmp (px : List Prefix) (pr : BitVec 3) (imm : BitVec 6) (st : State) : Out :=
  runInstr (.pcmp px pr imm) st (fun _ st =>
    let x := (st.core.r.ptr pr).extractLsb' 0 24
    let y := (immSigned px 6 imm.toNat).extractLsb' 0 24
    .ok (st.setZncv 15 (nib (x == y) false (x.ult y) false)))

/-! ### Masks (R117) -/

/-- A mask register replaced. -/
def State.setMask (s : State) (n : BitVec 2) (v : Word) : State :=
  { s with core := { s.core with r := { s.core.r with k := s.core.r.k.set n.toNat v n.isLt } } }

/-- ARG[7:6], ARG[5:4], ARG[3:2] of a mask instruction: d, a, b. -/
def maskD (arg : BitVec 8) : BitVec 2 := arg.extractLsb' 6 2
/-- The first source. -/
def maskA (arg : BitVec 8) : BitVec 2 := arg.extractLsb' 4 2
/-- The second source. -/
def maskB (arg : BitVec 8) : BitVec 2 := arg.extractLsb' 2 2

/-- KAND (R117). -/
def execKand (px : List Prefix) (arg : BitVec 8) (st : State) : Out :=
  runInstr (.kand px arg) st (fun _ st => .ok (st.setMask (maskD arg) (st.core.r.mask (maskA arg) &&& st.core.r.mask (maskB arg))))

/-- KOR (R117). -/
def execKor (px : List Prefix) (arg : BitVec 8) (st : State) : Out :=
  runInstr (.kor px arg) st (fun _ st => .ok (st.setMask (maskD arg) (st.core.r.mask (maskA arg) ||| st.core.r.mask (maskB arg))))

/-- KXOR (R117). -/
def execKxor (px : List Prefix) (arg : BitVec 8) (st : State) : Out :=
  runInstr (.kxor px arg) st (fun _ st => .ok (st.setMask (maskD arg) (st.core.r.mask (maskA arg) ^^^ st.core.r.mask (maskB arg))))

/-- KNOT (R117). -/
def execKnot (px : List Prefix) (arg : BitVec 8) (st : State) : Out :=
  runInstr (.knot px arg) st (fun _ st => .ok (st.setMask (maskD arg) (~~~(st.core.r.mask (maskA arg)))))

/-- KMOV (R117). -/
def execKmov (px : List Prefix) (arg : BitVec 8) (st : State) : Out :=
  runInstr (.kmov px arg) st (fun _ st => .ok (st.setMask (maskD arg) (st.core.r.mask (maskA arg))))

/-- KANY: Z := 1 if Ka = 0 (R117). -/
def execKany (px : List Prefix) (arg : BitVec 8) (st : State) : Out :=
  runInstr (.kany px arg) st (fun _ st => .ok (st.setZ (st.core.r.mask (maskA arg) == 0)))

/-- The lane count of a width code: 64, 32, 16, 8 (R117). -/
def laneCount (w : BitVec 2) : Nat := 64 / 2 ^ w.toNat

/-- KALL: Z := 0 if the mask's lanes are all ones (R117). -/
def execKall (px : List Prefix) (arg : BitVec 8) (st : State) : Out :=
  runInstr (.kall px arg) st (fun _ st =>
    let l := laneCount (arg.extractLsb' 0 2)
    .ok (st.setZ (decide ((st.core.r.mask (maskA arg)).toNat % 2 ^ l ≠ 2 ^ l - 1))))

/-- KPOP: A := the number of one bits of Ka; Z (R117). -/
def execKpop (px : List Prefix) (arg : BitVec 8) (st : State) : Out :=
  runInstr (.kpop px arg) st (fun _ st =>
    let n := popFrom (st.core.r.mask (maskA arg)) 64
    .ok ((st.setA (BitVec.ofNat 64 n)).setZ (decide (n = 0))))

/-- KSETI: Kd := (v << 6) OR ARG[5:0] (R117). -/
def execKseti (px : List Prefix) (arg : BitVec 8) (st : State) : Out :=
  runInstr (.kseti px arg) st (fun _ st =>
    .ok (st.setMask (maskD arg) (immUnsigned px 6 (arg.toNat % 64))))

end Sys2Proof.Machine
end

