-- ==== Sys2Proof/Machine/ScalarFp.lean ====
section
/-! DEFINITION. Scalar floating point, MAJ 0x2 (R106 to R108), conversions, MAJ 0x3 (R109), and scalar division and
square root, MAJ 0xE (R110). -/

namespace Sys2Proof.Machine

/-- The mode in force without stochastic rounding: PAGE.RM if non-zero, else FLG.RM (R55, R86). -/
def State.mode (s : State) (px : List Prefix) : RMode :=
  match (pageRm px).toNat with
  | 0 => modeOfFlg (s.core.r.flg.extractLsb' 12 3)
  | 1 => .rne
  | 2 => .rz
  | 3 => .rup
  | 4 => .rdn
  | _ => .rna

/-- The address of the running instruction's base word minus the code base, PCOFF (R87). -/
def State.pcoff (s : State) (px : List Prefix) : BitVec 32 :=
  BitVec.ofNat 32 (s.core.pc.toNat + 2 * px.length + 2 ^ 64 - s.codeRegion.1)

/-- SRBits for the core in focus (R87). -/
def State.srOf (s : State) (px : List Prefix) (src : BitVec 64) (e : Nat) : Nat :=
  srBits s.core.ctl.xseed s.core.lid.toNat s.focus (s.pcoff px) src e

/-- The mode of a conversion (R86): SR when PAGE.RM names it, or by FLG.SRE for a destination of 16 bits or fewer. -/
def State.cvtMode (s : State) (px : List Prefix) (bits : Nat) (src : BitVec 64) (e : Nat) : RMode :=
  if pageRm px = 6#3 ∨ (pageRm px = 0#3 ∧ bits ≤ 16 ∧ s.core.r.flg.getLsbD 15) then .sr (s.srOf px src e)
  else s.mode px

/-- The context of an FP operand: the memory width is the format's (R94). -/
def ctxFp (px : List Prefix) (s : BitVec 6) (n : Nat) : OpCtx :=
  ⟨n, false, smallImm px s, if specPtr s then dispOf px else 0⟩

/-- The context of a DST operand of FP width. -/
def ctxFpD (px : List Prefix) (s d : BitVec 6) (n : Nat) : OpCtx :=
  ⟨n, false, BitVec.ofNat 64 (d.toNat % 8), if specImm s || specPtr s then 0 else if specPtr d then dispOf px else 0⟩

/-- A result of a memory width `n` to DST or A. -/
def State.fpTarget (s : State) (px : List Prefix) (sp : BitVec 6) (n : Nat) (v : Nat) : Except Stop LongWrite :=
  match dstOf px with
  | none => .ok ⟨.a, 0xFF, BitVec.ofNat 512 v⟩
  | some d => s.writeTarget (ctxFpD px sp d.1 n) d.1 (BitVec.ofNat 64 v)

/-- Landing one checked write. -/
def State.landTarget (s : State) (r : Except Stop LongWrite) : Except Stop State :=
  match r with
  | .ok w => s.landWrite w
  | .error e => .error e

/-- A scalar FP instruction (R106): src of `n` bytes, the operation on the low bits of A and src, sticky flags. -/
def fpBody (px : List Prefix) (s : BitVec 6) (t : BitVec 2) (n : Nat) (f : RMode → Nat → Nat → Nat × Flags5) : Body :=
  fun _ st =>
    match st.readOp (ctxFp px s n) s with
    | .error e => .error e
    | .ok src =>
      let fmt := fmtOf t
      let o := f (st.mode px) (st.core.r.a.toNat % 2 ^ fmt.bits) src.toNat
      match st.landTarget (st.fpTarget px s fmt.bytes o.1) with
      | .error e => .error e
      | .ok u => .ok ((u.orSticky o.2).post st (stepsSD px s))

/-- FADD: A + src (R106). -/
def execFadd (px : List Prefix) (s : BitVec 6) (t : BitVec 2) (st : State) : Out :=
  runInstr (.fadd px s t) st (fpBody px s t (fmtOf t).bytes (fun m a b => fAdd (fmtOf t) m a (b % 2 ^ (fmtOf t).bits)))

/-- FSUB: A − src (R106). -/
def execFsub (px : List Prefix) (s : BitVec 6) (t : BitVec 2) (st : State) : Out :=
  runInstr (.fsub px s t) st (fpBody px s t (fmtOf t).bytes (fun m a b => fSub (fmtOf t) m a (b % 2 ^ (fmtOf t).bits)))

/-- FMUL: A × src (R106). -/
def execFmul (px : List Prefix) (s : BitVec 6) (t : BitVec 2) (st : State) : Out :=
  runInstr (.fmul px s t) st (fpBody px s t (fmtOf t).bytes (fun m a b => fMul (fmtOf t) m a (b % 2 ^ (fmtOf t).bits)))

/-- FRSUB: src − A (R106). -/
def execFrsub (px : List Prefix) (s : BitVec 6) (t : BitVec 2) (st : State) : Out :=
  runInstr (.frsub px s t) st (fpBody px s t (fmtOf t).bytes (fun m a b => fSub (fmtOf t) m (b % 2 ^ (fmtOf t).bits) a))

/-- FMIN: minimum (R106). -/
def execFmin (px : List Prefix) (s : BitVec 6) (t : BitVec 2) (st : State) : Out :=
  runInstr (.fmin px s t) st (fpBody px s t (fmtOf t).bytes (fun _ a b => fMinMax (fmtOf t) false false a b))

/-- FMAX: maximum (R106). -/
def execFmax (px : List Prefix) (s : BitVec 6) (t : BitVec 2) (st : State) : Out :=
  runInstr (.fmax px s t) st (fpBody px s t (fmtOf t).bytes (fun _ a b => fMinMax (fmtOf t) true false a b))

/-- FMINN: minimumNumber (R106). -/
def execFminn (px : List Prefix) (s : BitVec 6) (t : BitVec 2) (st : State) : Out :=
  runInstr (.fminn px s t) st (fpBody px s t (fmtOf t).bytes (fun _ a b => fMinMax (fmtOf t) false true a b))

/-- FMAXN: maximumNumber (R106). -/
def execFmaxn (px : List Prefix) (s : BitVec 6) (t : BitVec 2) (st : State) : Out :=
  runInstr (.fmaxn px s t) st (fpBody px s t (fmtOf t).bytes (fun _ a b => fMinMax (fmtOf t) true true a b))

/-- FABS: |src| (R106). -/
def execFabs (px : List Prefix) (s : BitVec 6) (t : BitVec 2) (st : State) : Out :=
  runInstr (.fabs px s t) st (fpBody px s t (fmtOf t).bytes (fun _ _ b => (fAbs (fmtOf t) b, 0)))

/-- FNEG: −src (R106). -/
def execFneg (px : List Prefix) (s : BitVec 6) (t : BitVec 2) (st : State) : Out :=
  runInstr (.fneg px s t) st (fpBody px s t (fmtOf t).bytes (fun _ _ b => (fNeg (fmtOf t) b, 0)))

/-- FRINT: src rounded to an integral value (R106). -/
def execFrint (px : List Prefix) (s : BitVec 6) (t : BitVec 2) (st : State) : Out :=
  runInstr (.frint px s t) st (fpBody px s t (fmtOf t).bytes (fun m _ b => fRint (fmtOf t) m (b % 2 ^ (fmtOf t).bits)))

/-- FSGNJ: |A| with the sign of src (R106). -/
def execFsgnj (px : List Prefix) (s : BitVec 6) (t : BitVec 2) (st : State) : Out :=
  runInstr (.fsgnj px s t) st (fpBody px s t (fmtOf t).bytes (fun _ a b => (fSgnj (fmtOf t) a b, 0)))

/-- FSCL: A × 2^k, k the 64-bit signed src (R106). -/
def execFscl (px : List Prefix) (s : BitVec 6) (t : BitVec 2) (st : State) : Out :=
  runInstr (.fscl px s t) st (fpBody px s t 8 (fun m a b => fScale (fmtOf t) m a (BitVec.ofNat 64 b).toInt))

/-- The body of FCLASS (R108): a 64-bit class mask. -/
def fclassBody (px : List Prefix) (s : BitVec 6) (t : BitVec 2) : Body := fun _ st =>
  match st.readOp (ctxFp px s (fmtOf t).bytes) s with
  | .error e => .error e
  | .ok src =>
    match st.landTarget (st.fpTarget px s (fmtOf t).bytes (fClass (fmtOf t) src.toNat)) with
    | .error e => .error e
    | .ok u => .ok (u.post st (stepsSD px s))

/-- FCLASS (R108). -/
def execFclass (px : List Prefix) (s : BitVec 6) (t : BitVec 2) (st : State) : Out :=
  runInstr (.fclass px s t) st (fclassBody px s t)

/-- The first operand or second source of an FP instruction, read at the format's width. -/
def State.fpSecond (s : State) (px : List Prefix) (sp : BitVec 6) (n : Nat) : Except Stop Word :=
  match dstOf px with
  | none => .ok s.core.r.a
  | some d => s.readOp (ctxFpD px sp d.1 n) d.1

/-- The body of FFMA: A + src × s2, rounded once, into A (R106). -/
def ffmaBody (px : List Prefix) (s : BitVec 6) (t : BitVec 2) : Body := fun _ st =>
  let f := fmtOf t
  match st.readOp (ctxFp px s f.bytes) s with
  | .error e => .error e
  | .ok src =>
    match st.fpSecond px s f.bytes with
    | .error e => .error e
    | .ok s2 =>
      let o := fFma f (st.mode px) (st.core.r.a.toNat % 2 ^ f.bits) (src.toNat % 2 ^ f.bits) (s2.toNat % 2 ^ f.bits)
      .ok (((st.setA (BitVec.ofNat 64 o.1)).orSticky o.2).post st (stepsSD px s))

/-- FFMA (R106). -/
def execFfma (px : List Prefix) (s : BitVec 6) (t : BitVec 2) (st : State) : Out :=
  runInstr (.ffma px s t) st (ffmaBody px s t)

/-- Z, N, C, V of a comparison (R107). -/
def relFlags (r : FRel) : BitVec 4 :=
  match r with
  | .eq => nib true false false false
  | .lt => nib false true true false
  | .gt => nib false false false false
  | .un => nib false false false true

/-- The body of FCMP (R107). -/
def fcmpBody (px : List Prefix) (s : BitVec 6) (t : BitVec 2) : Body := fun _ st =>
  let f := fmtOf t
  match st.readOp (ctxFp px s f.bytes) s with
  | .error e => .error e
  | .ok src =>
    match st.fpSecond px s f.bytes with
    | .error e => .error e
    | .ok x =>
      let a := x.toNat % 2 ^ f.bits
      let b := src.toNat % 2 ^ f.bits
      let iv := flagIf ((f.decode a).isSnan || (f.decode b).isSnan) fIV
      .ok (((st.setZncv 15 (relFlags (fCompare f a b))).orSticky iv).post st (stepsSD px s))

/-- FCMP (R107). -/
def execFcmp (px : List Prefix) (s : BitVec 6) (t : BitVec 2) (st : State) : Out :=
  runInstr (.fcmp px s t) st (fcmpBody px s t)

/-! ### CVT (R66, R109) -/

/-- The width in bytes of a CVT format code (R66). -/
def cvtBytes (c : BitVec 3) : Nat :=
  match c.toNat with
  | 0 | 4 | 5 => 8
  | 1 | 6 | 7 => 4
  | _ => 2

/-- The integer a CVT source holds, for the integer codes. -/
def cvtInt (c : BitVec 3) (x : Nat) : Int :=
  match c.toNat with
  | 4 => toSignedBits 64 x
  | 5 => ((x % 2 ^ 64 : Nat) : Int)
  | 6 => toSignedBits 32 x
  | _ => ((x % 2 ^ 32 : Nat) : Int)
where
  /-- The low w bits as a signed integer. -/
  toSignedBits (w x : Nat) : Int :=
    let v := x % 2 ^ w
    if 2 * v < 2 ^ w then (v : Int) else (v : Int) - (2 ^ w : Nat)

/-- A result pattern of an integer destination extended to 64 bits (R91, R109). -/
def cvtExtend (d : BitVec 3) (v : Nat) : Nat := if d = 6#3 then (signExt 32 v).toNat else v

/-- Convert(D, x) (R91, R92, R109). -/
def cvtValue (d c : BitVec 3) (mode : RMode) (sat : Bool) (x : Nat) : Nat × Flags5 :=
  let signed := d = 4#3 ∨ d = 6#3
  let w := 8 * cvtBytes d
  if d.toNat < 4 then
    (if c.toNat < 4 then fpToFp (fmtOf (c.extractLsb' 0 2)) (fmtOf (d.extractLsb' 0 2)) mode false
        (x % 2 ^ (fmtOf (c.extractLsb' 0 2)).bits)
     else intToFp (fmtOf (d.extractLsb' 0 2)) mode (cvtInt c x))
  else
    let r := if c.toNat < 4 then fpToInt (fmtOf (c.extractLsb' 0 2)) signed w mode sat
        (x % 2 ^ (fmtOf (c.extractLsb' 0 2)).bits)
      else intRange signed w sat (cvtInt c x) false
    (cvtExtend d r.1, r.2)

/-- The body of CVT (R109). -/
def cvtBody (px : List Prefix) (s : BitVec 6) (d c : BitVec 3) : Body := fun _ st =>
  match st.readOp (ctxFp px s (cvtBytes c)) s with
  | .error e => .error e
  | .ok src =>
    let x := src.toNat % 2 ^ (8 * cvtBytes c)
    let mode := if d.toNat < 4 then st.cvtMode px (8 * cvtBytes d) (BitVec.ofNat 64 x) 0 else st.mode px
    let o := cvtValue d c mode (pageSat px) x
    match st.landTarget (st.fpTarget px s (cvtBytes d) o.1) with
    | .error e => .error e
    | .ok u => .ok ((u.orSticky o.2).post st (stepsSD px s))

/-- CVT (R109). -/
def execCvt (px : List Prefix) (s : BitVec 6) (d c : BitVec 3) (st : State) : Out :=
  runInstr (.cvt px s d c) st (cvtBody px s d c)

/-! ### Long scalar arithmetic (R45, R110) -/

/-- A long result with its window: one write, sticky flags, Z, N, C, V. -/
def longOf (w1 : W1) (t : LongWrite) (sticky : Flags5) (mask zncv : BitVec 4) : LongRes :=
  ⟨w1.la.toNat, [t], sticky, mask, zncv, []⟩

/-- Issuing a long instruction: the post-steps are applied, the result lands after its window. A result for the window image of a
pointer that the instruction itself post-steps lands over the stepped pointer when LA is not 0 (log 71). -/
def State.issueLong (st : State) (r : Except Stop LongWrite) (w1 : W1) (sticky : Flags5) (mask zncv : BitVec 4)
    (steps : List (BitVec 3)) : Except Stop State :=
  match r with
  | .error e => .error e
  | .ok t =>
    match st.addLong (longOf w1 t sticky mask zncv) with
    | .error e => .error e
    | .ok u => .ok (u.post st steps)

/-- FDIV and FSQRT. -/
def flongBody (px : List Prefix) (s : BitVec 6) (w1 : W1) (f : Fmt → RMode → Nat → Nat → Nat × Flags5) : Body :=
  fun _ st =>
    let fm := fmtOf (w1.aux.extractLsb' 0 2)
    match st.readOp (ctxFp px s fm.bytes) s with
    | .error e => .error e
    | .ok src =>
      let o := f fm (st.mode px) (st.core.r.a.toNat % 2 ^ fm.bits) (src.toNat % 2 ^ fm.bits)
      st.issueLong (st.fpTarget px s fm.bytes o.1) w1 o.2 0 0 (stepsSD px s)

/-- FDIV: Round(A ÷ src) (R110). -/
def execFdiv (px : List Prefix) (s : BitVec 6) (w1 : W1) (st : State) : Out :=
  runInstr (.fdiv px s w1) st (flongBody px s w1 (fun fm m a b => fDivide fm m a b))

/-- FSQRT: Round(√src) (R110). -/
def execFsqrt (px : List Prefix) (s : BitVec 6) (w1 : W1) (st : State) : Out :=
  runInstr (.fsqrt px s w1) st (flongBody px s w1 (fun fm m _ b => fSqrt fm m b))

/-- A quotient or remainder with Z, N and V (R110). -/
def divOut (r : Word) (v : Bool) : AluOut := outZNV r v

/-- DIV, DIVN, REM, REMN. -/
def divBody (px : List Prefix) (s : BitVec 6) (w1 : W1) (f : Word → Word → AluOut) : Body := fun _ st =>
  match st.readOp (ctxS px s 8) s with
  | .error e => .error e
  | .ok src =>
    let o := f st.core.r.a src
    st.issueLong (st.resultTarget px s 8 o.r) w1 0 o.mask o.zncv (stepsSD px s)

/-- Whether a signed division is −2^63 by −1. -/
def divWraps (a b : Word) : Bool := a == 0x8000000000000000#64 && b == BitVec.allOnes 64

/-- DIV (R110). -/
def execDiv (px : List Prefix) (s : BitVec 6) (w1 : W1) (st : State) : Out :=
  runInstr (.div px s w1) st (divBody px s w1 (fun a b =>
    if b = 0 then divOut (BitVec.allOnes 64) true
    else if divWraps a b then divOut a true
    else divOut (BitVec.ofInt 64 (Int.tdiv a.toInt b.toInt)) false))

/-- DIVN (R110). -/
def execDivn (px : List Prefix) (s : BitVec 6) (w1 : W1) (st : State) : Out :=
  runInstr (.divn px s w1) st (divBody px s w1 (fun a b =>
    if b = 0 then divOut (BitVec.allOnes 64) true else divOut (BitVec.ofNat 64 (a.toNat / b.toNat)) false))

/-- REM (R110). -/
def execRem (px : List Prefix) (s : BitVec 6) (w1 : W1) (st : State) : Out :=
  runInstr (.rem px s w1) st (divBody px s w1 (fun a b =>
    if b = 0 then divOut a true
    else if divWraps a b then divOut 0 true
    else divOut (BitVec.ofInt 64 (Int.tmod a.toInt b.toInt)) false))

/-- REMN (R110). -/
def execRemn (px : List Prefix) (s : BitVec 6) (w1 : W1) (st : State) : Out :=
  runInstr (.remn px s w1) st (divBody px s w1 (fun a b =>
    if b = 0 then divOut a true else divOut (BitVec.ofNat 64 (a.toNat % b.toNat)) false))

end Sys2Proof.Machine
end

