-- ==== Sys2Proof/Machine/Vector.lean ====
section
/-! DEFINITION. The vector unit: MAJ 0x6 (R112 to R114), MAJ 0x7 (R115, R116) and the vector division and square root
(R110), lane by lane under the masks of R111. -/

namespace Sys2Proof.Machine

/-- Lane i of width w bits (R111). -/
def laneAt (w v i : Nat) : Nat := v / 2 ^ (w * i) % 2 ^ w

/-- The first `n` lanes of width w given by a function, with the flags of all of them. -/
def mapLanes (w : Nat) (f : Nat → Nat × Flags5) : Nat → Nat × Flags5
  | 0 => (0, 0)
  | n + 1 =>
    let r := mapLanes w f n
    let x := f n
    (r.1 + x.1 % 2 ^ w * 2 ^ (w * n), r.2 ||| x.2)

/-- Whether lane i is written (R38, R111). -/
def State.laneOn (st : State) (px : List Prefix) (i : Nat) : Bool :=
  !pageXe px || (st.core.r.mask (pageXk px)).getLsbD i

/-- VAd with its enabled lanes replaced, and the flags of those lanes (R111). -/
def State.laneMap (st : State) (px : List Prefix) (d : BitVec 2) (w : Nat) (f : Nat → Nat × Flags5) : Nat × Flags5 :=
  let old := (st.core.r.vec d).toNat
  mapLanes w (fun i => if st.laneOn px i then f i else (laneAt w old i, 0)) (512 / w)

/-- A vector register replaced. -/
def State.setVec (st : State) (d : BitVec 2) (v : Nat) : State :=
  { st with core := { st.core with r := { st.core.r with va := st.core.r.va.set d.toNat (BitVec.ofNat 512 v) d.isLt } } }

/-- The memory operand of a format-V instruction: `n` bytes (R111). -/
def State.vecOperand (st : State) (px : List Prefix) (pp : BitVec 3) (n : Nat) (u : WinUse) : Except Stop Nat :=
  st.loadLocal (st.eaOf pp (dispOf px)) n u

/-- The post-step M requests (R111). -/
def vecSteps (pp : BitVec 3) (m : Bool) : List (BitVec 3) := if m then [pp] else []

/-- A lane-wise instruction: VAd[i] := f VAd[i] mem[i] VA(d XOR 1)[i]. -/
def laneBody (px : List Prefix) (va : BitVec 2) (pp : BitVec 3) (m : Bool) (w : Nat)
    (f : State → Nat → Nat → Nat → Nat × Flags5) : Body := fun _ st =>
  match st.vecOperand px pp 64 .vec with
  | .error e => .error e
  | .ok x =>
    let d := (st.core.r.vec va).toNat
    let b := (st.core.r.vec (va ^^^ 1)).toNat
    let r := st.laneMap px va w (fun i => f st (laneAt w d i) (laneAt w x i) (laneAt w b i))
    .ok (((st.setVec va r.1).orSticky r.2).post st (vecSteps pp m))

/-- A signed reading of a w-bit lane. -/
def laneInt (w x : Nat) : Int := if 2 * (x % 2 ^ w) < 2 ^ w then ((x % 2 ^ w : Nat) : Int) else (x % 2 ^ w : Nat) - (2 ^ w : Nat)

/-- The bits of a comparison mask: enabled lanes from the comparison, others from Kd, nothing above L (R113). -/
def cmpMask (f : Fmt) (on : Nat → Bool) (old : Word) (quiet : Bool) (test : FRel → Bool) (a b : Nat) :
    Nat → Nat × Flags5
  | 0 => (0, 0)
  | n + 1 =>
    let r := cmpMask f on old quiet test a b n
    let x := laneAt f.bits a n
    let y := laneAt f.bits b n
    if on n then
      let nan := if quiet then (f.decode x).isSnan || (f.decode y).isSnan else (f.decode x).isNan || (f.decode y).isNan
      (r.1 + (test (fCompare f x y)).toNat * 2 ^ n, r.2 ||| flagIf nan fIV)
    else (r.1 + (old.getLsbD n).toNat * 2 ^ n, r.2)

/-- VFCEQ, VFCLT, VFCLE (R113). -/
def vcmpBody (px : List Prefix) (va : BitVec 2) (pp : BitVec 3) (m : Bool) (t : BitVec 2) (quiet : Bool)
    (test : FRel → Bool) : Body := fun _ st =>
  match st.vecOperand px pp 64 .vec with
  | .error e => .error e
  | .ok x =>
    let f := fmtOf t
    let r := cmpMask f (st.laneOn px) (st.core.r.mask va) quiet test (st.core.r.vec va).toNat x (512 / f.bits)
    .ok (((st.setMask va (BitVec.ofNat 64 r.1)).orSticky r.2).post st (vecSteps pp m))

/-- One level of the pairwise tree of R114: n sums of neighbours. -/
def treeLevel (f : Fmt) (mode : RMode) (v : Nat) : Nat → Nat × Flags5 :=
  mapLanes f.bits (fun i => fAdd f mode (laneAt f.bits v (2 * i)) (laneAt f.bits v (2 * i + 1)))

/-- The pairwise tree sum (R114): `k` levels over 2^k lanes. -/
def treeSum (f : Fmt) (mode : RMode) (v : Nat) (fl : Flags5) : Nat → Nat × Flags5
  | 0 => (laneAt f.bits v 0, fl)
  | k + 1 =>
    let r := treeLevel f mode v (2 ^ k)
    treeSum f mode r.1 (fl ||| r.2) k

/-- VFREDS (R114). -/
def vredsBody (px : List Prefix) (va : BitVec 2) (t : BitVec 2) : Body := fun _ st =>
  let f := fmtOf t
  let d := (st.core.r.vec va).toNat
  let v := (mapLanes f.bits (fun i => (if st.laneOn px i then laneAt f.bits d i else f.signed true 0, 0)) (512 / f.bits)).1
  let r := treeSum f (st.mode px) v 0 (Nat.log2 (512 / f.bits))
  .ok ((st.setA (BitVec.ofNat 64 r.1)).orSticky r.2)

/-- VFADD (R112). -/
def execVfadd (px : List Prefix) (va : BitVec 2) (pp : BitVec 3) (m : Bool) (t : BitVec 2) (st : State) : Out :=
  runInstr (.vfadd px va pp m t) st (laneBody px va pp m (fmtOf t).bits (fun s a x _ => fAdd (fmtOf t) (s.mode px) a x))

/-- VFSUB (R112). -/
def execVfsub (px : List Prefix) (va : BitVec 2) (pp : BitVec 3) (m : Bool) (t : BitVec 2) (st : State) : Out :=
  runInstr (.vfsub px va pp m t) st (laneBody px va pp m (fmtOf t).bits (fun s a x _ => fSub (fmtOf t) (s.mode px) a x))

/-- VFMUL (R112). -/
def execVfmul (px : List Prefix) (va : BitVec 2) (pp : BitVec 3) (m : Bool) (t : BitVec 2) (st : State) : Out :=
  runInstr (.vfmul px va pp m t) st (laneBody px va pp m (fmtOf t).bits (fun s a x _ => fMul (fmtOf t) (s.mode px) a x))

/-- VFMA: VAd[i] + mem[i] × VA(d XOR 1)[i], rounded once (R112). -/
def execVfma (px : List Prefix) (va : BitVec 2) (pp : BitVec 3) (m : Bool) (t : BitVec 2) (st : State) : Out :=
  runInstr (.vfma px va pp m t) st (laneBody px va pp m (fmtOf t).bits (fun s a x b => fFma (fmtOf t) (s.mode px) a x b))

/-- VFSCL: mem[i] is a signed integer of the lane width (R112). -/
def execVfscl (px : List Prefix) (va : BitVec 2) (pp : BitVec 3) (m : Bool) (t : BitVec 2) (st : State) : Out :=
  runInstr (.vfscl px va pp m t) st (laneBody px va pp m (fmtOf t).bits (fun s a x _ =>
    fScale (fmtOf t) (s.mode px) a (laneInt (fmtOf t).bits x)))

/-- VFRSUB (R112). -/
def execVfrsub (px : List Prefix) (va : BitVec 2) (pp : BitVec 3) (m : Bool) (t : BitVec 2) (st : State) : Out :=
  runInstr (.vfrsub px va pp m t) st (laneBody px va pp m (fmtOf t).bits (fun s a x _ => fSub (fmtOf t) (s.mode px) x a))

/-- VFMIN (R112). -/
def execVfmin (px : List Prefix) (va : BitVec 2) (pp : BitVec 3) (m : Bool) (t : BitVec 2) (st : State) : Out :=
  runInstr (.vfmin px va pp m t) st (laneBody px va pp m (fmtOf t).bits (fun _ a x _ => fMinMax (fmtOf t) false false a x))

/-- VFMAX (R112). -/
def execVfmax (px : List Prefix) (va : BitVec 2) (pp : BitVec 3) (m : Bool) (t : BitVec 2) (st : State) : Out :=
  runInstr (.vfmax px va pp m t) st (laneBody px va pp m (fmtOf t).bits (fun _ a x _ => fMinMax (fmtOf t) true false a x))

/-- VFCEQ (R113). -/
def execVfceq (px : List Prefix) (va : BitVec 2) (pp : BitVec 3) (m : Bool) (t : BitVec 2) (st : State) : Out :=
  runInstr (.vfceq px va pp m t) st (vcmpBody px va pp m t true (fun r => r == .eq))

/-- VFCLT (R113). -/
def execVfclt (px : List Prefix) (va : BitVec 2) (pp : BitVec 3) (m : Bool) (t : BitVec 2) (st : State) : Out :=
  runInstr (.vfclt px va pp m t) st (vcmpBody px va pp m t false (fun r => r == .lt))

/-- VFCLE (R113). -/
def execVfcle (px : List Prefix) (va : BitVec 2) (pp : BitVec 3) (m : Bool) (t : BitVec 2) (st : State) : Out :=
  runInstr (.vfcle px va pp m t) st (vcmpBody px va pp m t false (fun r => r == .lt || r == .eq))

/-- VFABS (R112). -/
def execVfabs (px : List Prefix) (va : BitVec 2) (pp : BitVec 3) (m : Bool) (t : BitVec 2) (st : State) : Out :=
  runInstr (.vfabs px va pp m t) st (laneBody px va pp m (fmtOf t).bits (fun _ _ x _ => (fAbs (fmtOf t) x, 0)))

/-- VFNEG (R112). -/
def execVfneg (px : List Prefix) (va : BitVec 2) (pp : BitVec 3) (m : Bool) (t : BitVec 2) (st : State) : Out :=
  runInstr (.vfneg px va pp m t) st (laneBody px va pp m (fmtOf t).bits (fun _ _ x _ => (fNeg (fmtOf t) x, 0)))

/-- VFMINN (R112). -/
def execVfminn (px : List Prefix) (va : BitVec 2) (pp : BitVec 3) (m : Bool) (t : BitVec 2) (st : State) : Out :=
  runInstr (.vfminn px va pp m t) st (laneBody px va pp m (fmtOf t).bits (fun _ a x _ => fMinMax (fmtOf t) false true a x))

/-- VFMAXN (R112). -/
def execVfmaxn (px : List Prefix) (va : BitVec 2) (pp : BitVec 3) (m : Bool) (t : BitVec 2) (st : State) : Out :=
  runInstr (.vfmaxn px va pp m t) st (laneBody px va pp m (fmtOf t).bits (fun _ a x _ => fMinMax (fmtOf t) true true a x))

/-- VFREDS: A := the tree sum of VAd (R114). -/
def execVfreds (px : List Prefix) (va : BitVec 2) (pp : BitVec 3) (m : Bool) (t : BitVec 2) (st : State) : Out :=
  runInstr (.vfreds px va pp m t) st (vredsBody px va t)

/-! ### MAJ 0x7, FN 0 to 8 (R115) -/

/-- VLD: VAd := the 64 bytes at the operand (R115). -/
def execVld (px : List Prefix) (va : BitVec 2) (pp : BitVec 3) (m : Bool) (st : State) : Out :=
  runInstr (.vld px va pp m) st (fun _ st =>
    match st.vecOperand px pp 64 .vec with
    | .error e => .error e
    | .ok x => .ok ((st.setVec va x).post st (vecSteps pp m)))

/-- VST: the 64 bytes at the operand := VAd (R115). -/
def execVst (px : List Prefix) (va : BitVec 2) (pp : BitVec 3) (m : Bool) (st : State) : Out :=
  runInstr (.vst px va pp m) st (fun _ st =>
    match st.storeLocal (st.eaOf pp (dispOf px)) 64 (st.core.r.vec va).toNat .vec with
    | .error e => .error e
    | .ok u => .ok (u.post st (vecSteps pp m)))

/-- VBCST of an element of n bytes (R115). -/
def bcstBody (px : List Prefix) (va : BitVec 2) (pp : BitVec 3) (m : Bool) (n : Nat) : Body := fun _ st =>
  match st.vecOperand px pp n .bcast with
  | .error e => .error e
  | .ok x => .ok ((st.setVec va (st.laneMap px va (8 * n) (fun _ => (x, 0))).1).post st (vecSteps pp m))

/-- VBCST.i64 (R115). -/
def execVbcstI64 (px : List Prefix) (va : BitVec 2) (pp : BitVec 3) (m : Bool) (st : State) : Out :=
  runInstr (.vbcstI64 px va pp m) st (bcstBody px va pp m 8)

/-- VBCST.i32 (R115). -/
def execVbcstI32 (px : List Prefix) (va : BitVec 2) (pp : BitVec 3) (m : Bool) (st : State) : Out :=
  runInstr (.vbcstI32 px va pp m) st (bcstBody px va pp m 4)

/-- VBCST.i16 (R115). -/
def execVbcstI16 (px : List Prefix) (va : BitVec 2) (pp : BitVec 3) (m : Bool) (st : State) : Out :=
  runInstr (.vbcstI16 px va pp m) st (bcstBody px va pp m 2)

/-- VBCST.i8 (R115). -/
def execVbcstI8 (px : List Prefix) (va : BitVec 2) (pp : BitVec 3) (m : Bool) (st : State) : Out :=
  runInstr (.vbcstI8 px va pp m) st (bcstBody px va pp m 1)

/-- VMOV: the bytes of another vector register (R115). -/
def execVmov (px : List Prefix) (va : BitVec 2) (pp : BitVec 3) (m : Bool) (st : State) : Out :=
  runInstr (.vmov px va pp m) st (fun _ st =>
    let x := (st.core.r.vec (pp.extractLsb' 0 2)).toNat
    .ok (st.setVec va (st.laneMap px va 8 (fun i => (laneAt 8 x i, 0))).1))

/-- Whether an index byte that is written has j[6] = 1 (R115). -/
def shufBad (st : State) (px : List Prefix) (x : Nat) : Bool :=
  (List.range 64).any fun i => st.laneOn px i && (laneAt 8 x i).testBit 6

/-- VSHUF (R115); M1 of its fault holds the operand's address (log 13). -/
def execVshuf (px : List Prefix) (va : BitVec 2) (pp : BitVec 3) (m : Bool) (st : State) : Out :=
  runInstr (.vshuf px va pp m) st (fun _ st =>
    match st.vecOperand px pp 64 .vec with
    | .error e => .error e
    | .ok x =>
      if shufBad st px x then trapAt 0x07 0x03 (BitVec.ofNat 64 (st.eaOf pp (dispOf px)))
      else
        let b := (st.core.r.vec (va ^^^ 1)).toNat
        let r := st.laneMap px va 8 (fun i =>
          (if (laneAt 8 x i).testBit 7 then 0 else laneAt 8 b (laneAt 8 x i % 64), 0))
        .ok ((st.setVec va r.1).post st (vecSteps pp m)))

/-- VSEL: K0 chooses between VA(d XOR 1) and VAd (R115). -/
def execVsel (px : List Prefix) (va : BitVec 2) (pp : BitVec 3) (m : Bool) (st : State) : Out :=
  runInstr (.vsel px va pp m) st (fun _ st =>
    let w := 8 * 2 ^ (pp.extractLsb' 0 2).toNat
    let d := (st.core.r.vec va).toNat
    let b := (st.core.r.vec (va ^^^ 1)).toNat
    .ok (st.setVec va (st.laneMap px va w (fun i =>
      (if (st.core.r.mask 0).getLsbD i then laneAt w b i else laneAt w d i, 0))).1))

/-! ### Integer lanes (R116) -/

/-- The lane width of a width code (R68). -/
def laneBits (t : BitVec 2) : Nat := 8 * 2 ^ t.toNat

/-- A signed value as a lane: wrapped, or clamped under PAGE.SAT (R116). -/
def laneWrap (px : List Prefix) (w : Nat) (v : Int) : Nat :=
  if pageSat px then
    (let lo : Int := -(2 ^ (w - 1) : Nat)
     let hi : Int := (2 ^ (w - 1) : Nat) - 1
     ((if v < lo then lo else if hi < v then hi else v) % (2 ^ w : Nat)).toNat)
  else (v % (2 ^ w : Nat)).toNat

/-- VIADD (R116). -/
def execViadd (px : List Prefix) (va : BitVec 2) (pp : BitVec 3) (m : Bool) (t : BitVec 2) (st : State) : Out :=
  runInstr (.viadd px va pp m t) st (laneBody px va pp m (laneBits t) (fun _ a x _ => (laneWrap px (laneBits t) (laneInt (laneBits t) a + laneInt (laneBits t) x), 0)))

/-- VISUB (R116). -/
def execVisub (px : List Prefix) (va : BitVec 2) (pp : BitVec 3) (m : Bool) (t : BitVec 2) (st : State) : Out :=
  runInstr (.visub px va pp m t) st (laneBody px va pp m (laneBits t) (fun _ a x _ => (laneWrap px (laneBits t) (laneInt (laneBits t) a - laneInt (laneBits t) x), 0)))

/-- VIMUL (R116). -/
def execVimul (px : List Prefix) (va : BitVec 2) (pp : BitVec 3) (m : Bool) (t : BitVec 2) (st : State) : Out :=
  runInstr (.vimul px va pp m t) st (laneBody px va pp m (laneBits t) (fun _ a x _ => (laneWrap px (laneBits t) (laneInt (laneBits t) a * laneInt (laneBits t) x), 0)))

/-- VIMIN: signed minimum (R116). -/
def execVimin (px : List Prefix) (va : BitVec 2) (pp : BitVec 3) (m : Bool) (t : BitVec 2) (st : State) : Out :=
  runInstr (.vimin px va pp m t) st (laneBody px va pp m (laneBits t) (fun _ a x _ => (if laneInt (laneBits t) x < laneInt (laneBits t) a then x else a, 0)))

/-- VIMAX: signed maximum (R116). -/
def execVimax (px : List Prefix) (va : BitVec 2) (pp : BitVec 3) (m : Bool) (t : BitVec 2) (st : State) : Out :=
  runInstr (.vimax px va pp m t) st (laneBody px va pp m (laneBits t) (fun _ a x _ => (if laneInt (laneBits t) a < laneInt (laneBits t) x then x else a, 0)))

/-- VIMINN: unsigned minimum (R116). -/
def execViminn (px : List Prefix) (va : BitVec 2) (pp : BitVec 3) (m : Bool) (t : BitVec 2) (st : State) : Out :=
  runInstr (.viminn px va pp m t) st (laneBody px va pp m (laneBits t) (fun _ a x _ => (min a x, 0)))

/-- VIMAXN: unsigned maximum (R116). -/
def execVimaxn (px : List Prefix) (va : BitVec 2) (pp : BitVec 3) (m : Bool) (t : BitVec 2) (st : State) : Out :=
  runInstr (.vimaxn px va pp m t) st (laneBody px va pp m (laneBits t) (fun _ a x _ => (max a x, 0)))

/-- VAND (R116). -/
def execVand (px : List Prefix) (va : BitVec 2) (pp : BitVec 3) (m : Bool) (t : BitVec 2) (st : State) : Out :=
  runInstr (.vand px va pp m t) st (laneBody px va pp m (laneBits t) (fun _ a x _ => (a &&& x, 0)))

/-- VOR (R116). -/
def execVor (px : List Prefix) (va : BitVec 2) (pp : BitVec 3) (m : Bool) (t : BitVec 2) (st : State) : Out :=
  runInstr (.vor px va pp m t) st (laneBody px va pp m (laneBits t) (fun _ a x _ => (a ||| x, 0)))

/-- VXOR (R116). -/
def execVxor (px : List Prefix) (va : BitVec 2) (pp : BitVec 3) (m : Bool) (t : BitVec 2) (st : State) : Out :=
  runInstr (.vxor px va pp m t) st (laneBody px va pp m (laneBits t) (fun _ a x _ => (a ^^^ x, 0)))

/-- VSHL: 0 from the lane width on (R116). -/
def execVshl (px : List Prefix) (va : BitVec 2) (pp : BitVec 3) (m : Bool) (t : BitVec 2) (st : State) : Out :=
  runInstr (.vshl px va pp m t) st (laneBody px va pp m (laneBits t) (fun _ a x _ => (if x < laneBits t then a * 2 ^ x else 0, 0)))

/-- VSHR: logical, 0 from the lane width on (R116). -/
def execVshr (px : List Prefix) (va : BitVec 2) (pp : BitVec 3) (m : Bool) (t : BitVec 2) (st : State) : Out :=
  runInstr (.vshr px va pp m t) st (laneBody px va pp m (laneBits t) (fun _ a x _ => (if x < laneBits t then a / 2 ^ x else 0, 0)))

/-! ### Division and square root (R110) -/

/-- The nibbles of the enabled lanes of width w (R111). -/
def laneMask (on : Nat → Bool) (w : Nat) : Nat → Nat
  | 0 => 0
  | n + 1 => laneMask on w n + (if on n then (2 ^ (w / 4) - 1) * 2 ^ (w / 4 * n) else 0)

/-- A long vector result: the enabled lanes of VAd, with their flags, landing after the window. -/
def State.issueVec (st : State) (px : List Prefix) (va : BitVec 2) (w : Nat) (la : BitVec 4) (f : Nat → Nat × Flags5)
    (steps : List (BitVec 3)) : Except Stop State :=
  let r := st.laneMap px va w f
  let mask := BitVec.ofNat 128 (laneMask (st.laneOn px) w (512 / w))
  match st.addLong ⟨la.toNat, [⟨.va va, mask, BitVec.ofNat 512 r.1⟩], r.2, 0, 0, []⟩ with
  | .error e => .error e
  | .ok u => .ok (u.post st steps)

/-- VFDIV and VFSQRT. -/
def vlongBody (px : List Prefix) (s : BitVec 6) (w1 : W1) (f : Fmt → RMode → Nat → Nat → Nat × Flags5) : Body :=
  fun _ st =>
    let va := w1.aux.extractLsb' 2 2
    let fm := fmtOf (w1.aux.extractLsb' 0 2)
    match st.loadLocal (st.eaOf (specPtrNo s) (dispOf px)) 64 .vec with
    | .error e => .error e
    | .ok x =>
      let d := (st.core.r.vec va).toNat
      st.issueVec px va fm.bits w1.la
        (fun i => f fm (st.mode px) (laneAt fm.bits d i) (laneAt fm.bits x i)) (specSteps s)

/-- VFDIV: VAd ÷ memory, lane by lane (R110). -/
def execVfdiv (px : List Prefix) (s : BitVec 6) (w1 : W1) (st : State) : Out :=
  runInstr (.vfdiv px s w1) st (vlongBody px s w1 (fun fm m a b => fDivide fm m a b))

/-- VFSQRT: √memory, lane by lane (R110). -/
def execVfsqrt (px : List Prefix) (s : BitVec 6) (w1 : W1) (st : State) : Out :=
  runInstr (.vfsqrt px s w1) st (vlongBody px s w1 (fun fm m _ b => fSqrt fm m b))

end Sys2Proof.Machine
end

