-- ==== Sys2Proof/Machine/Memory.lean ====
section
/-! DEFINITION. Loads, stores, prefetch, atomics and fences of MAJ 0xC (R205 to R215). -/

namespace Sys2Proof.Machine

/-! ### Operands (R200) -/

/-- The 64-bit address operand: a pointer specifier reads 8 bytes, displaced by the chain. -/
def ctxAddr (px : List Prefix) (s : BitVec 6) : OpCtx := ⟨8, false, 0, if specPtr s then dispOf px else 0⟩

/-- The width of a global access in bytes (R200). -/
def accessBytes (px : List Prefix) : Nat := widthBytes (dstW px) 8

/-- A loaded value's destination: DST's S or A. -/
def State.globalTarget (s : State) (px : List Prefix) (n : Nat) (v : Word) : Except Stop LongWrite :=
  match dstOf px with
  | none => .ok ⟨.a, 0xFF, v.setWidth 512⟩
  | some d => s.writeTarget (ctxPlain d.1 n) d.1 v

/-- A stored value's source: DST's S, undisplaced, or A. -/
def State.globalSource (s : State) (px : List Prefix) (n : Nat) : Except Stop Word :=
  match dstOf px with
  | none => .ok s.core.r.a
  | some d => s.readOp (ctxPlain d.1 n) d.1

/-! ### LDG, LDX, STG, STX (R205) -/

/-- LDG and LDX. -/
def ldgBody (px : List Prefix) (s : BitVec 6) (w1 : W1) (uncached : Bool) : Body := fun com st =>
  let n := accessBytes px
  match st.readOp (ctxAddr px s) s with
  | .error e => .error e
  | .ok va =>
    match st.loadGlobal com w1.la uncached .scalar n va with
    | .error e => .error e
    | .ok (t, v) =>
      t.issueLong (t.globalTarget px n (extendBytes n ((dstW px).getLsbD 3) v)) w1 0 0 0 (stepsSD px s)

/-- LDG (R205). -/
def execLdg (px : List Prefix) (s : BitVec 6) (w1 : W1) (st : State) : Out :=
  runInstr (.ldg px s w1) st (ldgBody px s w1 false)

/-- LDX: the line is not allocated in the cluster L1 (R205). -/
def execLdx (px : List Prefix) (s : BitVec 6) (w1 : W1) (st : State) : Out :=
  runInstr (.ldx px s w1) st (ldgBody px s w1 true)

/-- STG and STX. -/
def stgBody (px : List Prefix) (s : BitVec 6) (w1 : W1) (home : Bool) : Body := fun com st =>
  let n := accessBytes px
  match st.readOp (ctxAddr px s) s with
  | .error e => .error e
  | .ok va =>
    match st.globalSource px n with
    | .error e => .error e
    | .ok d =>
      match st.storeGlobal com home .scalar n (2 ^ n - 1) (d.toNat % 256 ^ n) w1 va with
      | .error e => .error e
      | .ok t => .ok (t.post st (stepsSD px s))

/-- STG (R205). -/
def execStg (px : List Prefix) (s : BitVec 6) (w1 : W1) (st : State) : Out :=
  runInstr (.stg px s w1) st (stgBody px s w1 false)

/-- STX: written at the home, no copy kept (R205). -/
def execStx (px : List Prefix) (s : BitVec 6) (w1 : W1) (st : State) : Out :=
  runInstr (.stx px s w1) st (stgBody px s w1 true)

/-! ### VLDG, VSTG (R206) -/

/-- The lane width in bits: 8 without a mask, so that every byte is a lane. -/
def vlaneBits (w1 : W1) : Nat := 8 * 2 ^ (w1.aux.extractLsb' 2 2).toNat

/-- The byte mask of the enabled lanes. -/
def State.byteLanes (st : State) (px : List Prefix) (w1 : W1) : Nat :=
  (List.range 64).foldl (fun a i => a + (if st.laneOn px (8 * i / vlaneBits w1) then 2 ^ i else 0)) 0

/-- The spot of a 64-byte access, without a translation when no lane is enabled. -/
def State.resolveVec (st : State) (need : Need) (va : Word) (mask : Nat) : State × Except Stop (Option Spot) :=
  if mask = 0 then (st, st.windowSpot va 64)
  else
    match st.resolve need va 64 with
    | (t, .ok x) => (t, .ok (some x))
    | (t, .error e) => (t, .error e)

/-- VLDG (R206). -/
def execVldg (px : List Prefix) (s : BitVec 6) (w1 : W1) (st : State) : Out :=
  runInstr (.vldg px s w1) st (fun com st =>
    match st.readOp (ctxAddr px s) s with
    | .error e => .error e
    | .ok va =>
      let mask := st.byteLanes px w1
      match st.resolveVec .read va mask with
      | (_, .error e) => .error e
      | (t, .ok none) => .ok (t.post st (specSteps s))
      | (t, .ok (some x)) =>
        match t.loadSpot com w1.la false .whole 64 va x with
        | .error e => .error e
        | .ok (u, v) =>
          match u.addLong ⟨w1.la.toNat,
              [⟨.va (w1.aux.extractLsb' 0 2), BitVec.ofNat 128 (nibbleMask mask 64), BitVec.ofNat 512 v⟩], 0, 0, 0, []⟩ with
          | .error e => .error e
          | .ok r => .ok (r.post st (specSteps s)))

/-- VSTG (R206). -/
def execVstg (px : List Prefix) (s : BitVec 6) (w1 : W1) (st : State) : Out :=
  runInstr (.vstg px s w1) st (fun com st =>
    match st.readOp (ctxAddr px s) s with
    | .error e => .error e
    | .ok va =>
      let mask := st.byteLanes px w1
      match st.resolveVec .write va mask with
      | (_, .error e) => .error e
      | (t, .ok none) => .ok (t.post st (specSteps s))
      | (t, .ok (some x)) =>
        match t.storeSpot com false .whole 64 mask (st.core.r.vec (w1.aux.extractLsb' 0 2)).toNat w1 va x with
        | .error e => .error e
        | .ok u => .ok (u.post st (specSteps s)))

/-- STN (R207). R200 gives its DST source no width: through a pointer it is read as 8 bytes, the default of W (R37; log 81). -/
def execStn (px : List Prefix) (s : BitVec 6) (w1 : W1) (st : State) : Out :=
  runInstr (.stn px s w1) st (fun _ st =>
    match st.readOp (ctxAddr px s) s with
    | .error e => .error e
    | .ok nva =>
      match st.globalSource px 8 with
      | .error e => .error e
      | .ok d =>
        match st.storeNibble nva (d.extractLsb' 0 4) w1 with
        | .error e => .error e
        | .ok t => .ok (t.post st (stepsSD px s)))

/-- PREF: no architectural effect; only reading S can fault (R208). -/
def execPref (px : List Prefix) (s : BitVec 6) (w1 : W1) (st : State) : Out :=
  runInstr (.pref px s w1) st (fun _ st =>
    match st.readOp (ctxAddr px s) s with
    | .error e => .error e
    | .ok _ => .ok (st.post st (specSteps s)))

/-! ### Atomics (R209 to R213) -/

/-- An atomic on a register-window doubleword: a register read-modify-write at once (R481). A failing compare writes nothing
(R211). -/
def State.writeWindow (s : State) (ea : Nat) (op : Amo) (old : Nat) : Except Stop State :=
  if op.misses old then .ok s else s.landWrite (localTarget .window ea 8 0xFF (amoNew op old))

/-- A host page whose atomics travel as AtomicOps (R212). -/
def State.atomicOpPath (s : State) (pa : Nat) (leaf : Word) : Bool :=
  decide (pteHp leaf = 2) && !s.cachedLeaf pa leaf

/-- HATOM of an atomic that no AtomicOp can carry (R212). -/
def atomicOpFault (op : AmoOp) (nr : Bool) : Option (BitVec 8) :=
  match op with
  | .add | .swp | .cas => if nr then some 0x04 else none
  | _ => some 0x01

/-- The answer of an AtomicOp's completer (R212), which is the host's (log 50): none for a success, else HATOM's detail, 0x02
for an Unsupported Request and 0x03 for a Completer Abort. -/
def completerRefusal (n : Nat) : Option (BitVec 8) :=
  match (Config.freeWord n).toNat % 3 with
  | 1 => some 0x02
  | 2 => some 0x03
  | _ => none

/-- An atomic performed at a physical address: the state after it and the old value (R182, R210, R211). A failing compare
writes nothing; at the home the line has been recalled for it. -/
def State.atomicValue (s : State) (w1 : W1) (op : Amo) (pa : Nat) : State × Nat :=
  let old := s.physLE pa op.bytes
  (if op.misses old then (if s.amoInL1 w1.sc pa then s else s.recall (lineOf pa))
   else s.atomicWrite w1.sc pa op.bytes (2 ^ op.bytes - 1) (amoNew op old), old)

/-- A returning atomic performed at a spot: the state after it and the old value (R182, R183, R210). -/
def State.atomicSpot (s : State) (w1 : W1) (op : Amo) (va : Word) : Spot → Except Stop (State × Nat)
  | .loc ea =>
    (match s.windowLocal ea op.bytes true .scalar with
     | .error e => .error e
     | .ok .window =>
       match s.localRead .window ea 8 with
       | .error e => .error e
       | .ok old => match s.writeWindow ea op old with | .ok t => .ok (t, old) | .error e => .error e
     | .ok _ =>
       if s.svc then
         let a := tileOf s.focus * 16777216 + ea
         let old := s.lstore.readLE a op.bytes
         .ok ({ s with lstore := s.lstore.writeLE a op.bytes (amoNew op old) }, old)
       else
         let a := clusterOf s.focus * 16777216 + ea
         let old := s.spad.readLE a op.bytes
         if s.storeBad a op.bytes then trapAt 0x11 0x01 va
         else .ok ({ s with spad := s.spad.writeLE a op.bytes (amoNew op old) }, old))
  | .rem cl off =>
    let a := cl * 16777216 + off
    let old := s.spad.readLE a op.bytes
    if s.storeBad a op.bytes then trapAt 0x11 0x01 va
    else .ok ({ s with spad := s.spad.writeLE a op.bytes (amoNew op old) }, old)
  | .phys pa leaf =>
    if s.atomicOpPath pa leaf && (atomicOpFault op.op false).isSome then trapAt 0x18 0x01 va
    else
      match stopFor (s.hostBlock (if s.amoInL1 w1.sc pa && !s.snooped (lineOf pa) then [] else s.writeStops (lineOf pa))) with
      | .error e => .error e
      | .ok _ =>
        if s.meetsPoison (s.cacheFor s.focus) pa op.bytes then trapAt (poisonCause pa) (if inHost pa 1 then 0 else 1) va
        else if s.atomicOpPath pa leaf then
          match completerRefusal s.freeCtr with
          | some d => trapAt 0x18 d va
          | none => .ok (({ s with freeCtr := s.freeCtr + 1 } : State).atomicValue w1 op pa)
        else .ok (s.atomicValue w1 op pa)

/-- What stands behind a buffered atomic with ACQ or AR: every later access waits until it is performed (R170; log 76). -/
def acqMark (od : BitVec 3) : List BufEntry := if acquires od then [.fence true true] else []

/-- A no-return atomic buffered in an entry of its own (R203). -/
def State.newAmo (s : State) (g : GEntry) : Except Stop State :=
  match s.newGlob g with
  | .error e => .error e
  | .ok t => .ok { t with core := { t.core with buf := t.core.buf ++ acqMark g.od } }

/-- A no-return atomic (R203, R210): performed at once in working scratchpad and registers, buffered elsewhere. -/
def State.atomicBuffer (s : State) (w1 : W1) (op : Amo) (va : Word) : Spot → Except Stop State
  | .loc ea =>
    (match s.windowLocal ea op.bytes true .scalar with
     | .error e => .error e
     | .ok .pers =>
       if 512 ≤ s.core.persUsed then .error .commitFirst
       else .ok { s with core := { s.core with
         buf := s.core.buf ++ .pers (BitVec.ofNat 24 (ea / 16 * 16)) (.amo (BitVec.ofNat 4 ea) op) :: acqMark w1.od } }
     | .ok k =>
       if k = .work ∧ (heldBy false s.core.buf || mustFollow w1.od s.core.buf) then .error .commitFirst else
       match s.atomicSpot w1 op va (.loc ea) with | .ok (t, _) => .ok t | .error e => .error e)
  | .rem cl off => s.newAmo ⟨[va], .remote cl (off / 16 * 16), .amo (BitVec.ofNat 4 off) op, w1.od, w1.sc, false⟩
  | .phys pa leaf =>
    match (if s.atomicOpPath pa leaf then atomicOpFault op.op true else none) with
    | some d => trapAt 0x18 d va
    | none => s.newAmo ⟨[va], .phys (pa / 16 * 16), .amo (BitVec.ofNat 4 pa) op, w1.od, w1.sc, dedupBit leaf⟩

/-- The operation an atomic performs: width, operand, mode of AMOFADD. -/
def State.amoOf (st : State) (px : List Prefix) (w1 : W1) (op : AmoOp) : Amo :=
  let n := accessBytes px
  let rm := (pageRm px).toNat
  ⟨op, n, BitVec.ofNat 128 (st.core.r.a.toNat % 256 ^ n), 0,
    if rm = 0 then st.core.r.flg.extractLsb' 12 3 else BitVec.ofNat 3 (rm - 1), w1.aux.getLsbD 2⟩

/-- Whether an atomic works on FP data. -/
def AmoOp.fp : AmoOp → Bool
  | .fadd | .fmin | .fmax => true
  | _ => false

/-- The value an atomic returns: extended by W[3], FP data with zeros (R210). -/
def amoResult (px : List Prefix) (o : Amo) (old : Nat) : Word :=
  extendBytes o.bytes ((dstW px).getLsbD 3 && !o.op.fp) old

/-- The sticky flags of an FP atomic. -/
def amoSticky (op : Amo) (old : Nat) : Flags5 :=
  if op.op.fp then (fpAmoFlags op old).2 else 0

/-- Every atomic but AMOCAS (R210). -/
def amoBody (px : List Prefix) (s : BitVec 6) (w1 : W1) (op : AmoOp) : Body := fun _ st =>
  let o := st.amoOf px w1 op
  match st.readOp (ctxAddr px s) s with
  | .error e => .error e
  | .ok va =>
    match st.resolve .rmw va o.bytes with
    | (_, .error e) => .error e
    | (t, .ok x) =>
      if w1.aux.getLsbD 0 then
        match t.atomicBuffer w1 o va x with
        | .ok u => .ok (u.post st (stepsSD px s))
        | .error e => .error e
      else
        match t.atomicSpot w1 o va x with
        | .error e => .error e
        | .ok (u, old) =>
          match u.landTarget (u.globalTarget px o.bytes (amoResult px o old)) with
          | .error e => .error e
          | .ok r => .ok ((r.orSticky (amoSticky o old)).post st (stepsSD px s))

/-- FP = 1 on AMOMIN and AMOMAX. -/
def fpOr (w1 : W1) (fp int : AmoOp) : AmoOp := if w1.aux.getLsbD 1 then fp else int

/-- AMOADD (R209). -/
def execAmoadd (px : List Prefix) (s : BitVec 6) (w1 : W1) (st : State) : Out :=
  runInstr (.amoadd px s w1) st (amoBody px s w1 .add)
/-- AMOAND (R209). -/
def execAmoand (px : List Prefix) (s : BitVec 6) (w1 : W1) (st : State) : Out :=
  runInstr (.amoand px s w1) st (amoBody px s w1 .and)
/-- AMOOR (R209). -/
def execAmoor (px : List Prefix) (s : BitVec 6) (w1 : W1) (st : State) : Out :=
  runInstr (.amoor px s w1) st (amoBody px s w1 .or)
/-- AMOXOR (R209). -/
def execAmoxor (px : List Prefix) (s : BitVec 6) (w1 : W1) (st : State) : Out :=
  runInstr (.amoxor px s w1) st (amoBody px s w1 .xor)
/-- AMOMIN (R209). -/
def execAmomin (px : List Prefix) (s : BitVec 6) (w1 : W1) (st : State) : Out :=
  runInstr (.amomin px s w1) st (amoBody px s w1 (fpOr w1 .fmin .min))
/-- AMOMAX (R209). -/
def execAmomax (px : List Prefix) (s : BitVec 6) (w1 : W1) (st : State) : Out :=
  runInstr (.amomax px s w1) st (amoBody px s w1 (fpOr w1 .fmax .max))
/-- AMOMINN (R209). -/
def execAmominn (px : List Prefix) (s : BitVec 6) (w1 : W1) (st : State) : Out :=
  runInstr (.amominn px s w1) st (amoBody px s w1 .minn)
/-- AMOMAXN (R209). -/
def execAmomaxn (px : List Prefix) (s : BitVec 6) (w1 : W1) (st : State) : Out :=
  runInstr (.amomaxn px s w1) st (amoBody px s w1 .maxn)
/-- AMOSWP (R209). -/
def execAmoswp (px : List Prefix) (s : BitVec 6) (w1 : W1) (st : State) : Out :=
  runInstr (.amoswp px s w1) st (amoBody px s w1 .swp)
/-- AMOFADD (R209). -/
def execAmofadd (px : List Prefix) (s : BitVec 6) (w1 : W1) (st : State) : Out :=
  runInstr (.amofadd px s w1) st (amoBody px s w1 .fadd)

/-- The compare-and-swap a core asks for (R211). -/
def State.casOf (st : State) (n : Nat) : Amo :=
  let r := st.core.r
  if n = 16 then ⟨.cas, 16, r.slot 21 ++ r.slot 20, r.slot 19 ++ r.slot 18, 0, false⟩
  else ⟨.cas, n, BitVec.ofNat 128 ((r.slot 21).toNat % 256 ^ n), BitVec.ofNat 128 (r.a.toNat % 256 ^ n), 0, false⟩

/-- What AMOCAS writes back: A, or M18 and M19 with their presence bits; Z (R211). -/
def State.casResult (u : State) (px : List Prefix) (n old : Nat) (eq : Bool) : Except Stop State :=
  if n = 16 then
    match u.core.writeSlot 18 (BitVec.ofNat 64 old) true with
    | .error e => .error e
    | .ok c =>
      match c.writeSlot 19 (BitVec.ofNat 64 (old / 2 ^ 64)) true with
      | .error e => .error e
      | .ok c' => .ok ({ u with core := c' }.setZ eq)
  else .ok ((u.setA (extendBytes n ((dstW px).getLsbD 3) old)).setZ eq)

/-- AMOCAS (R211). -/
def execAmocas (px : List Prefix) (s : BitVec 6) (w1 : W1) (st : State) : Out :=
  runInstr (.amocas px s w1) st (fun _ st =>
    let n := accessBytes px
    let o := st.casOf n
    match st.readOp (ctxAddr px s) s with
    | .error e => .error e
    | .ok va =>
      match st.resolve .rmw va n with
      | (_, .error e) => .error e
      | (t, .ok x) =>
        match t.atomicSpot w1 o va x with
        | .error e => .error e
        | .ok (u, old) =>
          match u.casResult px n old (decide (old = o.expect.toNat)) with
          | .error e => .error e
          | .ok r => .ok (r.post st (specSteps s)))

/-! ### Fences (R214, R215) -/

/-- The accesses that a FENCE holds behind the region's buffered ones: loads and stores, of the kinds named (R171, R214). An atomic
counts as a load and as a store. -/
def fenceMark (w1 : W1) (buf : List BufEntry) : List BufEntry :=
  let st := buf.any BufEntry.isStore
  let am := buf.any BufEntry.isAmo
  let l := w1.aux.getLsbD 3 && am
  let s := (w1.aux.getLsbD 2 && am) || (w1.aux.getLsbD 0 && st)
  if l || s then [.fence l s] else []

/-- FENCE (R171, R214): naming SL it commits; else it holds later accesses of the named kinds until what the region buffers has been
performed. Every other access before it is performed already (log 3, log 4), line maintenance, which it waits for as a store, apart
(R220). -/
def execFence (px : List Prefix) (s : BitVec 6) (w1 : W1) (st : State) : Out :=
  runInstr (.fence px s w1) st (fun _ st =>
    match stopFor (st.hostBlock (if w1.aux.getLsbD 0 || w1.aux.getLsbD 1 then st.ownStops else [])) with
    | .error e => .error e
    | .ok _ =>
      match fenceMark w1 st.core.buf with
      | [] => .ok st
      | m => .ok { st with core := { st.core with buf := st.core.buf ++ m } })

/-- The lines that hold the core's global stores written back to their homes, wherever they are dirty (R181, R215); one that hosts
cache once they have answered (R253). -/
def State.cleanWrote (st : State) : State :=
  let t := foldSt (fun t l => t.leaveOp ⟨3, l, t.focus⟩) st st.core.wrote
  { t with core := { t.core with wrote := [] } }

/-- XFENCE: every line that holds a global store of the core is written back before any later command starts (R181, R215). It does not
stall the core. -/
def execXfence (px : List Prefix) (s : BitVec 6) (w1 : W1) (st : State) : Out :=
  runInstr (.xfence px s w1) st (fun _ st => .ok st.cleanWrote)

end Sys2Proof.Machine
end

