-- ==== Sys2Proof/Machine/Engine.lean ====
section
/-! DEFINITION. What the engines, gangs, barriers and bulk copies share: gangs and their checks (R133, R261), formations
(R134), completion channels and messages (R139, R308), an engine's own accesses (R123, R180), and its paused state and
fault message (R370 to R372). -/

namespace Sys2Proof.Machine

/-! ### Gangs (R133, R261, R417) -/

/-- Columns per logical column: two in a paired partition (R417). -/
def State.stride (s : State) (sid : Nat) : Nat := if s.paired (s.partOf sid) then 2 else 1

/-- The core at a relative place of the launch of an agent. -/
def State.relSid (s : State) (sid : Nat) (x : Seat) (rx ry : Nat) : Nat :=
  coreId (dieOf sid) (x.x0.toNat + rx * s.stride sid) (x.y0.toNat + ry)

/-- The gang of an agent for a shape: its origin relative to the launch; the fault otherwise (EGANG 0x01, 0x02). -/
def gangOrigin (seat : Option Seat) (gwl ghl : Nat) : Except (BitVec 8) (Seat × Nat × Nat) :=
  if 5 < gwl ∨ 5 < ghl then .error 0x01
  else
    match seat with
    | none => .error 0x02
    | some x =>
      let gw := 2 ^ gwl
      let gh := 2 ^ ghl
      let ox := x.rx.toNat / gw * gw
      let oy := x.ry.toNat / gh * gh
      if ox + gw ≤ x.w1.toNat + 1 ∧ oy + gh ≤ x.h1.toNat + 1 then .ok (x, ox, oy) else .error 0x02

/-- The members of a gang by SID, in rank order (R153). -/
def State.gangSids (s : State) (sid : Nat) (x : Seat) (ox oy gwl ghl : Nat) : List Nat :=
  (List.range (2 ^ ghl)).flatMap fun j => (List.range (2 ^ gwl)).map fun i => s.relSid sid x (ox + i) (oy + j)

/-- The members of the gang of an agent, when it is legal. -/
def State.gangOf (s : State) (sid gwl ghl : Nat) : List Nat :=
  match gangOrigin (s.coreAt sid).seat gwl ghl with
  | .ok (x, ox, oy) => s.gangSids sid x ox oy gwl ghl
  | .error _ => []

/-- An EGANG fault reporting an operand. -/
def gangTrap {α : Type} (detail : BitVec 8) (m1 : Word) : Except Stop α := trapAt 0x21 detail m1

/-! ### Partition time and formations (R134) -/

/-- Whether a partition's cores and engines are stopped (R354, R392, R407). -/
def Part.stopped (p : Part) : Bool := p.halted || p.stopping || !p.cooled.isEmpty || decide (p.reset ≠ .none)

/-- Cycles during which a partition has run. -/
def State.runTime (s : State) (p : Nat) : Nat :=
  let x := s.part p
  s.now - x.haltSum - (if x.halted || x.stopping || !x.cooled.isEmpty then s.now - x.haltFrom else 0)

/-- The bound of a formation in partition cycles. -/
def formLimit : Nat := 1048576

/-- Whether a formation is the one of an origin and shape. -/
def Form.is (f : Form) (k : FormKind) (part origin gwl ghl : Nat) : Bool :=
  decide (f.kind = k ∧ f.part = part ∧ f.origin = origin ∧ f.gwl = gwl ∧ f.ghl = ghl)

/-- The cycles of its partition that a formation has lasted (R134, R155). -/
def State.formAge (s : State) (f : Form) : Nat := f.spent + (s.runTime f.part - f.start)

/-- Whether a formation has run out of time (R134). -/
def State.formLate (s : State) (f : Form) : Bool := decide (formLimit ≤ s.formAge f)

/-- Whether a formation still takes members: it has not formed, its members' records agree and its time has not run out. A
member that arrives at one whose records disagree opens a new one (R134; log 60). -/
def State.formOpen (s : State) (f : Form) : Bool := !f.formed && !f.broken && !s.formLate f

/-- A member joins the open formation of its gang, or opens one; `rec` holds the fields of its record that must agree (R134). -/
def State.joinForm (s : State) (k : FormKind) (sid gwl ghl : Nat) (rec : List Nat) : State :=
  match s.gangOf sid gwl ghl with
  | [] => s
  | origin :: _ =>
    let p := s.partOf sid
    match s.forms.find? fun f => f.is k p origin gwl ghl && s.formOpen f with
    | some f =>
      if f.members.contains sid then s
      else { s with forms := s.forms.map fun y =>
              if y = f then { f with members := f.members ++ [sid], broken := decide (rec ≠ f.agree) } else y }
    | none => { s with forms := s.forms ++ [⟨k, p, origin, gwl, ghl, [sid], rec, false, 0, s.runTime p, false, []⟩] }

/-- The formation that an agent has joined. -/
def State.formOf (s : State) (k : FormKind) (sid : Nat) : Option Form :=
  s.forms.find? fun f => decide (f.kind = k ∧ f.part = s.partOf sid) && f.members.contains sid

/-- A formation replaced, or removed. -/
def State.putForm (s : State) (f : Form) (g : Option Form) : State :=
  { s with forms := match g with
      | some x => s.forms.map fun y => if y = f then x else y
      | none => s.forms.filter (· ≠ f) }

/-- Whether every member of a formation's gang has joined. -/
def State.formFull (s : State) (f : Form) : Bool :=
  let g := s.gangOf f.origin f.gwl f.ghl
  !g.isEmpty && g.all f.members.contains

/-- Whether a formation ends at its members, formed or not: every member has joined in time, or two records disagree (R134). -/
def State.formDone (s : State) (f : Form) : Bool := s.formFull f || f.broken

/-- Whether a formation fails for its time: that has run out with a member missing (R134). -/
def State.formOut (s : State) (f : Form) : Bool := s.formLate f && !s.formDone f

/-- A formation as it leaves with its context: the time it has lasted stays with it (R155, R317). -/
def State.shelveForm (s : State) (f : Form) : Form := { f with spent := s.formAge f, start := 0 }

/-- A formation that has come back with its context (R155, R317). -/
def State.reviveForm (s : State) (f : Form) : Form := { f with start := s.runTime f.part }

/-! ### Completion channels and messages (R308) -/

/-- A completion channel: 0 is 57; the reserved code's OPND detail for 56; PRIV outside the privileged state. -/
def State.chanCheck (s : State) (ch : BitVec 6) (detail : BitVec 8) (m1 : Word) : Except Stop Unit :=
  if ch = 56 then trapAt 0x07 detail m1
  else if 58 ≤ ch.toNat ∧ ¬ s.priv then trapAt 0x03 0x10 m1
  else .ok ()

/-- The channel a completion goes to. -/
def doneChan (ch : BitVec 6) : BitVec 6 := if ch = 0 then 57 else ch

/-- A message of the package itself to an agent: never dropped (R273). -/
def State.note (s : State) (src dst : Nat) (ch : BitVec 6) (hdr : Word) (payload : List Word) : State :=
  { s with wire := s.wire ++ [⟨.note, src, dst, ch, hdr, payload, 0, none, 0, 0, .direct⟩] }

/-- A completion message of an agent's own engine (R139). Its sequence is free (log 14). -/
def State.engineDone (s : State) (sid : Nat) (ch : BitVec 6) (lid : BitVec 16) (payload : List Word) : State :=
  let q := s.free
  q.2.note sid sid (doneChan ch)
    (mkHdr (srcId sid) (s.partOf sid) (doneChan ch) 0 payload.length lid (q.1.extractLsb' 0 16)) payload

/-! ### An engine's accesses (R123, R137, R180, R226) -/

/-- Why an engine's access does not complete: it pauses on a translation fault, the command ends with a status, or it waits
until hosts have answered for a line (R253). -/
inductive EStop where
  | pause (f : XFault) (need : Need) (va : Nat)
  | ended (status : BitVec 8)
  | recall (line : Nat) (inv : Bool)
deriving DecidableEq, Repr

/-- What an engine's address reaches: the core's own scratchpad, another cluster's through the remote window, or
physical memory. -/
inductive ESpot where
  | spad (key : Nat)
  | phys (pa : Nat) (leaf : Word)
deriving DecidableEq, Repr

/-- The check of a local extent that an engine reaches: scratchpad outside the queues (R265; status by log
47). -/
def State.engLocal (s : State) (sid ea n : Nat) : Except EStop ESpot :=
  match s.extentBad sid ea n with
  | some _ => .error (.ended 0x0A)
  | none => .ok (.spad (clusterOf sid * 16777216 + ea))

/-- What a failed translation of an engine leads to. -/
def enginePause (f : XFault) (need : Need) (va : Nat) : EStop :=
  match f.wait with
  | some line => .recall line false
  | none => .pause f need va

/-- The status of a command whose address has a bit above 47: 0x20 of a stream command (R226), ADDR of a matrix command (log
47). -/
def beyondStatus : Cache → BitVec 8
  | .stream => 0x20
  | _ => 0x0A

/-- The address of an engine's global access of `n` bytes (R25, R27, R201). The statuses with which a command ends where R139
and R226 list none are the cause codes (R395; log 47). -/
def State.engSpot (s : State) (k : Cache) (sid : Nat) (need : Need) (va n : Nat) : State × Except EStop ESpot :=
  if 2 ^ 48 ≤ va then (s, .error (.ended (beyondStatus k)))
  else if 0x7F0000000000 ≤ va ∧ va < 0x800000000000 then
    (s, if va < 0x7F0001000000 then s.engLocal sid (va % 16777216) n else .error (.ended 0x0A))
  else if 0x7E0000000000 ≤ va ∧ va < 0x7F0000000000 then
    (s, if va < 0x7E1000000000 then
        (match (s.focusOn sid).remoteCheck (va / 16777216 % 4096) (va % 16777216) n 0 with
         | .ok (.rem cl off) => .ok (.spad (cl * 16777216 + off))
         | .ok _ => .error (.ended 0x0A)
         | .error (.trap t) => .error (.ended t.cause)
         | .error _ => .error (.ended 0x0A))
      else .error (.ended 0x0A))
  else
    match s.translateBy k sid va need with
    | (s1, .error f) => (s1, .error (enginePause f need va))
    | (s1, .ok x) => (s1, .ok (.phys x.pa x.leaf))

/-- An engine's read of `n` bytes: a copy may stay in its own cluster's L1 (R180, R366). What a device page returns is free, as for a
load (R204, R366; log 17). -/
def State.engLoad (s : State) (k : Cache) (sid va n : Nat) : State × Except EStop Nat :=
  match s.engSpot k sid .read va n with
  | (s1, .error e) => (s1, .error e)
  | (s1, .ok (.spad a)) => (s1, if s1.storeBad a n then .error (.ended 0x11) else .ok (s1.spad.readLE a n))
  | (s1, .ok (.phys pa leaf)) =>
    if ptePol leaf = 2 then let q := s1.deviceRead n; (q.1, .ok q.2) else
    match s1.hostBlock (s1.readStops sid (s1.cachedLeaf pa leaf) (lineOf pa)) with
    | some b => (s1, .error (.recall b.1 b.2))
    | none =>
      if s1.meetsPoison (s1.cacheFor sid) pa n then (s1, .error (.ended (poisonCause pa)))
      else (s1.readLine sid (s1.cachedLeaf pa leaf) (dedupBit leaf) (lineOf pa), .ok (s1.physLE pa n))

/-- An engine's write of the masked bytes among `n`; it never passes through a region buffer (R123). -/
def State.engStore (s : State) (k : Cache) (sid va n mask v : Nat) : State × Except EStop Unit :=
  match s.engSpot k sid .write va n with
  | (s1, .error e) => (s1, .error e)
  | (s1, .ok (.spad a)) => (s1.putStore a n mask v, .ok ())
  | (s1, .ok (.phys pa leaf)) =>
    match s1.hostBlock (s1.writeStops (lineOf pa) ++ s1.allocStops sid (s1.cachedLeaf pa leaf) (lineOf pa)) with
    | some b => (s1, .error (.recall b.1 b.2))
    | none => (s1.writeLine sid (s1.cachedLeaf pa leaf) (dedupBit leaf) pa n mask v, .ok ())

/-- An event that cannot take place. -/
def notEnabled (name : String) : Out := .refused (.notEnabled name)

/-- The wait of an agent's event for hosts' answers about a line (R253): it starts the back-invalidate, and cannot take place
while that is open. -/
def State.awaitFor (s : State) (name : String) (line : Nat) (inv : Bool) (who : Asker) : Out :=
  if s.snooped line then notEnabled name else .next (s.startSnoop line inv who)

/-- An event at a home: it takes place while its condition holds, after the answers of the hosts that it needs (R237, R253). -/
def State.atHome (s : State) (name : String) (b : Bool) (stops : List (Nat × Bool)) (t : State) : Out :=
  if !b then notEnabled name
  else
    match s.hostBlock stops with
    | some x => s.awaitFor name x.1 x.2 .other
    | none => .next t

/-! ### Paused agents (R370, R371) -/

/-- The fault message of a paused agent (KIND 2): the base word of the instruction that commanded it as information, the
translation record in M1 to M3, that instruction's words in M6, no checkpoint (R371, R395, R398; log 46). -/
def State.agentFault (s : State) (sid agent tag tile dk ticket : Nat) (lid : BitVec 16) (words : BitVec 32) (f : XFault)
    (need : Need) (va : Nat) : State :=
  let m2 := (xlatM2 agent need f.level sid) ||| BitVec.ofNat 64 (tile * 2 ^ 56 + dk * 2 ^ 52)
  let msg : List Word := [faultM0 (faultWord f.cause f.detail (words.extractLsb' 0 16)) 2 0 0 sid, BitVec.ofNat 64 (tag * 2 ^ 48 + va % 2 ^ 48), m2,
    BitVec.ofNat 64 ticket, 0, 0, words.setWidth 64, 0]
  let c := s.coreAt sid
  let s1 := if agent = 2 ∨ agent = 3 then s.setCore sid { c with engMsg := setAt c.engMsg agent (lid, msg) } else s
  s1.sendFault sid lid msg

/-- A KIND 3 notice of an agent (R398). -/
def State.faultNotice (s : State) (sid : Nat) (lid : BitVec 16) (fw : BitVec 32) (m1 m2 : Word) : State :=
  s.sendFault sid lid [faultM0 fw 3 0 0 sid, m1, m2, 0, 0, 0, 0, 0]

/-- An event that takes place only while a condition holds. -/
def enabledIf (name : String) (b : Bool) (s : State) : Out := if b then .next s else notEnabled name

end Sys2Proof.Machine
end

