-- ==== Sys2Proof/Machine/Xacc.lean ====
section
/-! DEFINITION. Exact accumulators (R81 to R83) and their instructions, MAJ 0xE OP 17 to 21 (R148 to R150). -/

namespace Sys2Proof.Machine

/-- An exact accumulator's value: SUM and the flags PINF, NINF, NAN, OVF (bits 0 to 3) (R81). -/
structure Xacc where
  sum : Int
  flags : BitVec 4
deriving DecidableEq, Repr

/-- Width of SUM of a kind: false XACC32, true XACC64. -/
def xaccWidth (x64 : Bool) : Nat := if x64 then 2131 else 310
/-- Bytes of an image. -/
def xaccBytes (x64 : Bool) : Nat := if x64 then 272 else 40
/-- Weight of SUM's bit 0. -/
def xaccLsb (x64 : Bool) : Int := if x64 then -1074 else -149

/-- A w-bit two's complement reading. -/
def signedOf (w v : Nat) : Int := if 2 * (v % 2 ^ w) < 2 ^ w then ((v % 2 ^ w : Nat) : Int) else ((v % 2 ^ w : Nat) : Int) - (2 ^ w : Nat)

/-- An image decoded; none when a reserved bit is set (R81). -/
def xaccOf (x64 : Bool) (raw : Nat) : Option Xacc :=
  let w := xaccWidth x64
  if 2 ^ (w + 4) ≤ raw then none else some ⟨signedOf w raw, BitVec.ofNat 4 (raw / 2 ^ w)⟩

/-- The image of an accumulator. -/
def xaccRaw (x64 : Bool) (a : Xacc) : Nat :=
  (a.sum % (2 ^ xaccWidth x64 : Nat)).toNat + a.flags.toNat * 2 ^ xaccWidth x64

/-- An exact addition to SUM: wraps and sets OVF on overflow (R82). -/
def xaccSum (x64 : Bool) (a : Xacc) (v : Int) : Xacc :=
  let w := xaccWidth x64
  let s := a.sum + v
  if -(2 ^ (w - 1) : Nat) ≤ s ∧ s < (2 ^ (w - 1) : Nat) then { a with sum := s }
  else ⟨signedOf w (s % (2 ^ w : Nat)).toNat, a.flags ||| 8⟩

/-- Add(acc, value) (R82). -/
def xaccAdd (x64 : Bool) (a : Xacc) (v : FVal) : Xacc :=
  match v with
  | .nan _ => { a with flags := a.flags ||| 4 }
  | .inf n => { a with flags := a.flags ||| (if n then 2 else 1) }
  | .fin n m e =>
    let x : Int := (m * 2 ^ (e - xaccLsb x64).toNat : Nat)
    xaccSum x64 a (if n then -x else x)

/-- Merge(a, b) (R82). -/
def xaccMerge (x64 : Bool) (a b : Xacc) : Xacc :=
  let r := xaccSum x64 a b.sum
  { r with flags := r.flags ||| b.flags }

/-- The denoted value rounded into a format (R83). -/
def xaccRound (x64 : Bool) (f : Fmt) (mode : RMode) (a : Xacc) : Nat × Flags5 :=
  if a.flags.getLsbD 3 || a.flags.getLsbD 2 || (a.flags.getLsbD 0 && a.flags.getLsbD 1) then (f.nan, fIV)
  else if a.flags.getLsbD 0 then (f.signed false f.infCode, 0)
  else if a.flags.getLsbD 1 then (f.signed true f.infCode, 0)
  else roundTo f mode false (decide (a.sum < 0)) a.sum.natAbs (xaccLsb x64) false

/-- The check of an accumulator's address and extent: ALIGN, then ADDR (R148). -/
def State.xaccAt (s : State) (ea n : Nat) : Except Stop LKind :=
  if ea % 64 ≠ 0 then alignLocal ea
  else
    match s.extentBad s.focus ea n with
    | some d => addrLocal d ea
    | none => .ok (s.localKind s.focus ea)

/-- An accumulator image read at a local address (R149): OPND detail 0x17 for a reserved bit. -/
def State.readXacc (s : State) (x64 : Bool) (ea : Nat) : Except Stop Xacc :=
  match s.xaccAt ea (xaccBytes x64) with
  | .error e => .error e
  | .ok k =>
    match s.localRead k ea (xaccBytes x64) with
    | .error e => .error e
    | .ok raw => match xaccOf x64 raw with | some a => .ok a | none => trapAt 0x07 0x17 (BitVec.ofNat 64 ea)

/-- `n` bytes written at a checked local address, in blocks of 64 (R54, R97). -/
def State.writeLocalBytes (s : State) (ea n v : Nat) : Nat → Except Stop State
  | 0 => .ok s
  | fuel + 1 =>
    if n = 0 then .ok s
    else
      match s.landMem (BitVec.ofNat 24 ea) (BitVec.ofNat 128 (4 ^ min n 64 - 1)) (BitVec.ofNat 512 v) with
      | .ok t => t.writeLocalBytes (ea + 64) (n - 64) (v / 2 ^ 512) fuel
      | .error e => .error e

/-- Writing an accumulator image. -/
def State.writeXacc (s : State) (x64 : Bool) (ea : Nat) (a : Xacc) : Except Stop State :=
  s.writeLocalBytes ea (xaccBytes x64) (xaccRaw x64 a) 5

/-- KIND of the accumulator (R148). -/
def xaccKind (w1 : W1) : Bool := w1.aux.getLsbD 2
/-- The local address of the accumulator operand. -/
def State.xaccEa (s : State) (px : List Prefix) (sp : BitVec 6) : Nat := s.eaOf (specPtrNo sp) (dispOf px)

/-- XADD, VXADD and XMRG: the accumulator is read, changed and written (R149). -/
def xaccBody (px : List Prefix) (s : BitVec 6) (w1 : W1) (f : State → Xacc → Except Stop Xacc) : Body := fun _ st =>
  match st.readXacc (xaccKind w1) (st.xaccEa px s) with
  | .error e => .error e
  | .ok a =>
    match f st a with
    | .error e => .error e
    | .ok b =>
      match st.writeXacc (xaccKind w1) (st.xaccEa px s) b with
      | .error e => .error e
      | .ok t => .ok (t.post st (specSteps s))

/-- XADD: Add(acc, A in format t) (R149). -/
def execXadd (px : List Prefix) (s : BitVec 6) (w1 : W1) (st : State) : Out :=
  runInstr (.xadd px s w1) st (xaccBody px s w1 (fun st a =>
    let f := fmtOf (w1.aux.extractLsb' 0 2)
    .ok (xaccAdd (xaccKind w1) a (f.decode (st.core.r.a.toNat % 2 ^ f.bits)))))

/-- The enabled lanes of a vector added in increasing order. -/
def xaccLanes (x64 : Bool) (f : Fmt) (on : Nat → Bool) (v : Nat) (a : Xacc) : Nat → Xacc
  | 0 => a
  | n + 1 =>
    let b := xaccLanes x64 f on v a n
    if on n then xaccAdd x64 b (f.decode (laneAt f.bits v n)) else b

/-- VXADD: every enabled lane of VAd added (R149). -/
def execVxadd (px : List Prefix) (s : BitVec 6) (w1 : W1) (st : State) : Out :=
  runInstr (.vxadd px s w1) st (xaccBody px s w1 (fun st a =>
    let f := fmtOf (w1.aux.extractLsb' 0 2)
    .ok (xaccLanes (xaccKind w1) f (st.laneOn px) (st.core.r.vec (w1.aux.extractLsb' 3 2)).toNat a (512 / f.bits))))

/-- Five slots as an XACC32 image, lowest first (R149). -/
def slotImage (r : Regs) (n : Nat) : Nat → Nat
  | 0 => 0
  | k + 1 => slotImage r n k + (r.slot (BitVec.ofNat 5 (n + k))).toNat * 2 ^ (64 * k)

/-- The second accumulator of XMRG (R149). -/
def State.mergeSource (st : State) (w1 : W1) : Except Stop Xacc :=
  let a := st.core.r.a
  if w1.aux.getLsbD 3 then
    (if 27 < a.toNat then trapAt 0x07 0x16 a
     else match xaccOf false (slotImage st.core.r a.toNat 5) with
       | some b => .ok b
       | none => trapAt 0x07 0x17 a)
  else if 16777216 ≤ a.toNat then trapAt 0x07 0x16 a
  else st.readXacc (xaccKind w1) a.toNat

/-- XMRG: Merge(acc, b) (R149). -/
def execXmrg (px : List Prefix) (s : BitVec 6) (w1 : W1) (st : State) : Out :=
  runInstr (.xmrg px s w1) st (xaccBody px s w1 (fun st a =>
    match st.mergeSource w1 with
    | .ok b => .ok (xaccMerge (xaccKind w1) a b)
    | .error e => .error e))

/-- XCLR: acc := 0. The accumulator is read as by the others, its reserved bits not examined (R149). -/
def execXclr (px : List Prefix) (s : BitVec 6) (w1 : W1) (st : State) : Out :=
  runInstr (.xclr px s w1) st (fun _ st =>
    match st.xaccAt (st.xaccEa px s) (xaccBytes (xaccKind w1)) with
    | .error e => .error e
    | .ok k =>
      match st.localRead k (st.xaccEa px s) (xaccBytes (xaccKind w1)) with
      | .error e => .error e
      | .ok _ =>
        match st.writeXacc (xaccKind w1) (st.xaccEa px s) ⟨0, 0⟩ with
        | .error e => .error e
        | .ok t => .ok (t.post st (specSteps s)))

/-- XRND: the accumulator's value rounded (R83, R149). FLG.SRE never makes its rounding stochastic (log 66). -/
def execXrnd (px : List Prefix) (s : BitVec 6) (w1 : W1) (st : State) : Out :=
  runInstr (.xrnd px s w1) st (fun _ st =>
    match st.readXacc (xaccKind w1) (st.xaccEa px s) with
    | .error e => .error e
    | .ok a =>
      let f := fmtOf (w1.aux.extractLsb' 0 2)
      let o := xaccRound (xaccKind w1) f (st.mode px) a
      st.issueLong (st.fpTarget px s f.bytes o.1) w1 o.2 0 0 (stepsSD px s))

end Sys2Proof.Machine
end

