-- ==== Sys2Proof/Machine/Quant.lean ====
section
/-! DEFINITION. Vector conversion (R159), shared-scale quantisation and dequantisation (R78 to R80, R157, R158). -/

namespace Sys2Proof.Machine

/-- The rounding mode of a conversion of element e (R86, R87). -/
def State.laneMode (st : State) (px : List Prefix) (bits src e : Nat) : RMode :=
  st.cvtMode px bits (BitVec.ofNat 64 src) e

/-- The FP formats of VCVT codes 0 to 6 (R159). -/
def vcvtFmt (c : BitVec 3) : Fmt :=
  match c.toNat with
  | 0 => f64
  | 1 => f32
  | 2 => f16
  | 3 => bf16
  | 4 => e4m3
  | 5 => e5m2
  | _ => e2m1

/-- The element width of a VCVT code in bits. -/
def vcvtBits (c : BitVec 3) : Nat := if c = 7#3 then 8 else (vcvtFmt c).bits

/-- One element converted (R91, R92). -/
def vcvtValue (d c : BitVec 3) (mode : RMode) (sat : Bool) (x : Nat) : Nat × Flags5 :=
  if c = 7#3 then intToFp (vcvtFmt d) mode (laneInt 8 x)
  else if d = 7#3 then valToInt true 8 mode sat ((vcvtFmt c).decode x)
  else fpToFp (vcvtFmt c) (vcvtFmt d) mode sat x

/-- VCVT: `n` elements of memory converted into VA0, the rest of it zeroed (R159). An operand in the register window raises the
fault of R23, and ADDR detail 0x00 where R23 has none, since it must lie in scratchpad (log 65). -/
def execVcvt (px : List Prefix) (s : BitVec 6) (w1 : W1) (st : State) : Out :=
  runInstr (.vcvt px s w1) st (fun _ st =>
    let d := w1.aux.extractLsb' 3 3
    let c := w1.aux.extractLsb' 0 3
    let wd := vcvtBits d
    let ws := vcvtBits c
    let n := 512 / max ws wd
    let bytes := n * ws / 8
    let ea := st.eaOf (specPtrNo s) (dispOf px)
    if ea % bytes ≠ 0 then alignLocal ea
    else
      match st.localKind st.focus ea, windowCheck ea bytes .vec, st.extentBad st.focus ea bytes with
      | .window, .error e, _ => .error e
      | _, _, some k => addrLocal k ea
      | k, _, none =>
        match st.localRead k ea bytes with
        | .error e => .error e
        | .ok x =>
          let r := mapLanes wd (fun i => if st.laneOn px i then
              vcvtValue d c (st.laneMode px wd (laneAt ws x i) i) (pageSat px) (laneAt ws x i) else (0, 0)) n
          let mask := laneMask (st.laneOn px) wd n + (4 ^ 64 - 4 ^ (n * wd / 8))
          match st.addLong ⟨w1.la.toNat, [⟨.va 0, BitVec.ofNat 128 mask, BitVec.ofNat 512 r.1⟩], r.2, 0, 0, []⟩ with
          | .error e => .error e
          | .ok t => .ok (t.post st (specSteps s)))

/-! ### Quantisation (R157, R158) -/

/-- The element format of EL 0 to 2; 3 is MXINT8. -/
def elFmt (el : BitVec 2) : Fmt :=
  match el.toNat with
  | 0 => e4m3
  | 1 => e5m2
  | _ => e2m1

/-- Bits of an element. -/
def elBits (el : BitVec 2) : Nat := if el = 2#2 then 4 else 8

/-- A value times 2^k. -/
def FVal.scale (v : FVal) (k : Int) : FVal :=
  match v with
  | .fin n m e => .fin n m (e + k)
  | v => v

/-- One lane quantised under the scale X (R158). -/
def quantise (el : BitVec 2) (x : Nat) (mode : RMode) (sat : Bool) (v : FVal) : Nat × Flags5 :=
  let y := if x = 255 then .fin false 0 0 else v.scale (127 - (x : Int))
  let r := if el = 3#2 then valToInt true 8 mode sat (y.scale 6) else valToFp (elFmt el) mode sat y
  (r.1, r.2 ||| flagIf (decide (x = 255)) fIV)

/-- One element dequantised (R79, R80). -/
def dequantise (el : BitVec 2) (x : Nat) (f : Fmt) (mode : RMode) (v : Nat) : Nat × Flags5 :=
  if x = 255 then (f.nan, 0)
  else
    let y := if el = 3#2 then FVal.fin (decide (laneInt 8 v < 0)) (laneInt 8 v).natAbs (-6) else (elFmt el).decode v
    valToFp f mode false (y.scale ((x : Int) - 127))

/-- The packed operand's address checked (R158): ALIGN, then ADDR. -/
def State.packedAt (st : State) (ea n : Nat) : Except Stop Nat :=
  if ea % n ≠ 0 then alignLocal ea
  else match st.extentBad st.focus ea n with | some k => addrLocal k ea | none => .ok ea

/-- VQNT (R158). -/
def execVqnt (px : List Prefix) (s : BitVec 6) (w1 : W1) (st : State) : Out :=
  runInstr (.vqnt px s w1) st (fun _ st =>
    let d := w1.aux.extractLsb' 4 2
    let f := fmtOf (w1.aux.extractLsb' 2 2)
    let el := w1.aux.extractLsb' 0 2
    let l := 512 / f.bits
    let w := elBits el
    match st.packedAt (st.eaOf (specPtrNo s) (dispOf px)) (l * w / 8) with
    | .error e => .error e
    | .ok ea =>
      if 256 ≤ st.core.r.a.toNat then trapAt 0x07 0x15 st.core.r.a
      else
        let v := (st.core.r.vec d).toNat
        let r := mapLanes w (fun i => if st.laneOn px i then
            quantise el st.core.r.a.toNat (st.laneMode px w (laneAt f.bits v i) i) (pageSat px)
              (f.decode (laneAt f.bits v i)) else (0, 0)) l
        let mask := laneMask (st.laneOn px) w l
        match st.addLong ⟨w1.la.toNat, [⟨.mem (BitVec.ofNat 24 ea), BitVec.ofNat 128 mask, BitVec.ofNat 512 r.1⟩],
            r.2, 0, 0, []⟩ with
        | .error e => .error e
        | .ok t => .ok (t.post st (specSteps s)))

/-- VDQNT (R158). -/
def execVdqnt (px : List Prefix) (s : BitVec 6) (w1 : W1) (st : State) : Out :=
  runInstr (.vdqnt px s w1) st (fun _ st =>
    let d := w1.aux.extractLsb' 4 2
    let f := fmtOf (w1.aux.extractLsb' 2 2)
    let el := w1.aux.extractLsb' 0 2
    let l := 512 / f.bits
    let w := elBits el
    match st.packedAt (st.eaOf (specPtrNo s) (dispOf px)) (l * w / 8) with
    | .error e => .error e
    | .ok ea =>
      if 256 ≤ st.core.r.a.toNat then trapAt 0x07 0x15 st.core.r.a
      else
        match st.localRead (st.localKind st.focus ea) ea (l * w / 8) with
        | .error e => .error e
        | .ok x => st.issueVec px d f.bits w1.la
            (fun i => dequantise el st.core.r.a.toNat f (st.laneMode px f.bits (laneAt w x i) i) (laneAt w x i)) (specSteps s))

/-- floor(log2 m) of a finite non-zero magnitude. -/
def floorLog2 (m : Nat) (e : Int) : Int := e + ((bitLen m : Nat) : Int) - 1

/-- The largest exponent of an element format, in the order MXINT8, E2M1, E5M2, E4M3 (R157). -/
def scaleOf (emax : Int) (v : FVal) : Nat :=
  match v with
  | .nan _ => 255
  | .inf _ => 255
  | .fin _ m e => if m = 0 then 127 else (min 254 (max 0 (floorLog2 m e - emax + 127))).toNat

end Sys2Proof.Machine
end

