-- ==== Sys2Proof/Machine/Matrix.lean ====
section
/-! DEFINITION. The matrix engine (chapter 5): the MX instructions of MAJ 0xD OP 0 to 6 (R140 to R146) and the events in
which the engine works (R130 to R139). -/

namespace Sys2Proof.Machine

/-! ### The accumulator store (R118, R119) -/

/-- Row bytes under a configuration code. -/
def rowBytes (cfg : BitVec 2) : Nat := 512 / 2 ^ cfg.toNat

/-- Tiles under a configuration code: 1, 2, 4. -/
def tileCount (cfg : BitVec 2) : Nat := 2 ^ cfg.toNat

/-- Byte address of element (i, j) of a tile at a width. -/
def accAddr (cfg : BitVec 2) (t i j w : Nat) : Nat := t * (65536 / 2 ^ cfg.toNat) + i * rowBytes cfg + j * w

/-- An element read. -/
def Mx.elem (m : Mx) (t i j w : Nat) : Nat := m.acc.readLE (accAddr m.cfg t i j w) w

/-- An element written; a poisoned byte written over holds its datum (R413). -/
def Mx.setElem (m : Mx) (t i j w v : Nat) : Mx :=
  let a := accAddr m.cfg t i j w
  { m with acc := m.acc.writeLE a w v, bad := m.bad.filter fun k => !decide (a ≤ k ∧ k < a + w) }

/-- Whether an element holds a poisoned byte. -/
def Mx.sour (m : Mx) (t i j w : Nat) : Bool :=
  m.bad.any fun k => decide (accAddr m.cfg t i j w ≤ k ∧ k < accAddr m.cfg t i j w + w)

/-- Whether element (i, j) takes part under a mask pair (R119). -/
def Mx.on (m : Mx) (k i j : Nat) : Bool := (m.row.toList.getD k 0).getLsbD i && (m.col.toList.getD k 0).getLsbD j

/-- A tile's step count replaced. -/
def Mx.setStep (m : Mx) (t n : Nat) : Mx :=
  { m with steps := Vector.ofFn fun i => if i.val = t then BitVec.ofNat 32 n else m.steps[i] }

/-- The configuration in force after every MXCFG already queued (R129, R140). -/
def Mx.cfgAhead (m : Mx) : BitVec 2 :=
  m.queue.foldl (fun c e => match e with | .cfg k => k | _ => c) m.cfg

/-! ### Operand addresses (R127, R128) -/

/-- skew(r). -/
def skewOf (brot r : Nat) : Nat := 64 * (r % 2 ^ brot)

/-- The descriptor of a source: base, K-step pitch, row pitch, bank rotation. -/
structure Desc where
  base : Nat
  tp : Nat
  rp : Nat
  brot : Nat
deriving DecidableEq, Repr

/-- A descriptor from its two captured slots. -/
def descOf (kind : Nat) (cap : List Word) : Desc :=
  let a := dw cap 0
  let b := dw cap 1
  ⟨if kind = 1 then bits a 23 0 else bits a 47 0, bits b 63 32, bits b 31 8, bits b 1 0⟩

/-- A non-zero reserved bit of a descriptor. -/
def descBad (kind : Nat) (cap : List Word) : Bool :=
  decide (bits (dw cap 1) 7 2 ≠ 0 ∨ (if kind = 1 then bits (dw cap 0) 63 24 else bits (dw cap 0) 63 48) ≠ 0)

/-- The end of a KIND 1 or 2 operand relative to its base: `rows` rows of `len` elements of `w` bits in each of `steps`
steps, the last of them with `lastLen` or `lastRows`. -/
def operandEnd (d : Desc) (w steps rows len lastRows lastLen : Nat) : Nat :=
  let rowEnd := fun (st rs l : Nat) =>
    (List.range rs).foldl (fun e r => max e (st * d.tp + r * d.rp + skewOf d.brot r + (l * w + 7) / 8)) 0
  if steps = 0 then 0
  else max (rowEnd (steps - 1) lastRows lastLen) (if steps = 1 then 0 else rowEnd (steps - 2) rows len)

/-- Bit offset of the x-th element of row r of step st. -/
def operandBit (d : Desc) (w st r x : Nat) : Nat := 8 * (st * d.tp + r * d.rp + skewOf d.brot r) + x * w

/-! ### Checks at issue (R129) -/

/-- Whether the issuing core supplies A, and B (R133). -/
def MxCmd.supplies (c : MxCmd) (rx ry : Nat) : Bool × Bool :=
  if c.st then (true, false) else (decide (rx % 2 ^ c.gwl = 0), decide (ry % 2 ^ c.ghl = 0))

/-- The rows and lengths of the A side (or of an MXST's output) and of the B side. -/
def MxCmd.extentOf (c : MxCmd) (b : Bool) (d : Desc) : Nat :=
  if c.st then operandEnd { d with tp := 0 } (fmtBits c.fa) 1 c.ml c.nl c.ml c.nl
  else
    let st := c.total
    let last := c.k - (st - 1) * c.ks
    if b then operandEnd d (fmtBits c.fb) st c.ks c.nl last c.nl else operandEnd d (fmtBits c.fa) st c.ml c.ks c.ml last

/-- Order 8 for one source. -/
def State.mxSource8 (s : State) (c : MxCmd) (b : Bool) (w : Word) (cap : List Word) (sb sp : Nat) : Bool :=
  let fw := if b then fmtBits c.fb else fmtBits c.fa
  let kind := srcKind w
  let es := max 1 (fw / 8)
  if kind = 0 then
    decide (24 < srcSlot w) || decide (512 < (if b then c.k * c.nl else c.ml * c.k) * fw)
  else if kind = 3 then false
  else
    let d := descOf kind cap
    let e := c.extentOf b d
    let scaleEnd := if c.k = 0 then 0 else (c.total - 1) * sp + (if b then c.nl else c.ml)
    decide (30 < srcSlot w) || decide (d.base % es ≠ 0 ∨ d.rp % es ≠ 0 ∨ (¬ c.st ∧ d.tp % es ≠ 0)) ||
    (decide (kind = 1) &&
      ((decide (0 < e) && (s.extentBad s.focus d.base e).isSome) ||
       ((if b then c.scb else c.sca) && !c.st && decide (0 < scaleEnd) && (s.extentBad s.focus sb scaleEnd).isSome)))

/-- An ECMD fault. -/
def ecmd {α : Type} (detail : BitVec 8) (m1 : Word) : Except Stop α := trapAt 0x20 detail m1

/-- The checks of an MXGO or MXST record at local address `ea` (R129, R308). Of an MXST, whose FB must be 0, FB 12 to 15 is a
reserved format code at order 2 (log 77). -/
def State.mxCheck (s : State) (c : MxCmd) (ea : Word) : Except Stop Unit :=
  let x := s.core.seat.getD ⟨0, 0, 0, 0, 0, 0, 0, 0, 0, 0⟩
  let sup := c.supplies x.rx.toNat x.ry.toNat
  let d := dw c.dws
  let cfg := s.core.mx.cfgAhead
  let unscaled := !c.sca && !c.scb
  let srcA := sup.1
  let srcB := sup.2
  let ka := srcKind (d 2)
  let kb := srcKind (d 3)
  let descKind := fun k => decide (k = 1 ∨ k = 2)
  if bits (d 0) 4 0 ≠ 0 ∨ d 7 ≠ 0 ∨ (srcA ∧ (srcBad (d 2) ∨ bits (d 4) 63 48 ≠ 0)) ∨
      (srcB ∧ (srcBad (d 3) ∨ bits (d 5) 63 48 ≠ 0)) ∨
      (unscaled ∧ ((srcA ∧ (d 4 ≠ 0 ∨ bits (d 6) 31 0 ≠ 0)) ∨ ((srcB ∨ c.st) ∧ (d 5 ≠ 0 ∨ bits (d 6) 63 32 ≠ 0))))
    then trapAt 0x07 0x10 ea
  else if 6 ≤ bits (d 0) 38 36 ∨ 3 ≤ c.fc ∨ 6 ≤ c.rm ∨ 12 ≤ c.fa ∨ 12 ≤ c.fb ∨ (srcA ∧ 4 ≤ ka) ∨ (srcB ∧ 4 ≤ kb)
    then trapAt 0x07 0x11 ea
  else
    match s.chanCheck (BitVec.ofNat 6 (bits (d 0) 47 42)) 0x11 ea with
    | .error e => .error e
    | .ok _ =>
      if c.st ∧ c.gang then gangTrap 0x01 ea
      else
        match gangOrigin s.core.seat c.gwl c.ghl with
        | .error g => gangTrap g ea
        | .ok _ =>
          if ¬ c.st ∧ c.cls = none then ecmd 0x01 ea
          else if c.st ∧ ¬ c.storeOk then ecmd 0x02 ea
          else if c.m = 0 ∨ c.n = 0 ∨ c.m % 2 ^ c.ghl ≠ 0 ∨ c.n % 2 ^ c.gwl ≠ 0 ∨ 128 < c.ml ∨
              rowBytes cfg / fcBytes c.fc < c.nl ∨ tileCount cfg ≤ c.tile ∨ (c.st ∧ (c.k ≠ 0 ∨ c.fb ≠ 0 ∨ d 3 ≠ 0))
            then ecmd 0x03 ea
          else if (srcA ∧ descKind ka ∧ descBad ka c.capA) ∨ (srcB ∧ descKind kb ∧ descBad kb c.capB)
            then trapAt 0x07 0x13 ea
          else if (srcA ∧ s.mxSource8 c false (d 2) c.capA (bits (d 4) 47 0) (bits (d 6) 31 0)) ∨
              (srcB ∧ s.mxSource8 c true (d 3) c.capB (bits (d 5) 47 0) (bits (d 6) 63 32))
            then ecmd 0x04 ea
          else if (c.st ∧ ¬ descKind ka) ∨ (c.sca ∧ ¬ c.st ∧ ((srcA ∧ ¬ descKind ka) ∨ (srcB ∧ ¬ descKind kb)))
            then ecmd 0x05 ea
          else .ok ()

/-! ### The instructions (R140 to R146) -/

/-- The address of a 64-byte record through a pointer specifier: ALIGN, then ADDR unless it lies in the configured
scratchpad (R141). -/
def State.recordAt (s : State) (px : List Prefix) (sp : BitVec 6) : Except Stop Nat :=
  let ea := s.eaOf (specPtrNo sp) (dispOf px)
  if ea % 64 ≠ 0 then alignLocal ea
  else match s.extentBad s.focus ea 64 with | some d => addrLocal d ea | none => .ok ea

/-- The doublewords of a record, the region's own persistent writes included. -/
def State.recordDws (s : State) (ea : Nat) : Except Stop (List Word) :=
  match s.localRead (s.localKind s.focus ea) ea 64 with
  | .ok v => .ok (dwsOf 8 v)
  | .error e => .error e

/-- Entries of the matrix queue beyond which an issue stalls (R122). -/
def Mx.full (m : Mx) : Bool := decide (2 ≤ m.queue.length)

/-- An entry queued. -/
def State.mxPut (s : State) (e : MxEntry) : State :=
  s.upd fun c => { c with mx := { c.mx with queue := c.mx.queue ++ [e] } }

/-- The entry that an issuing instruction has captured before its stall (R122). -/
def Core.mxHeld (c : Core) : Option MxEntry := match c.capt with | some (.mx e) => some e | _ => none

/-- Steps 3 and 4 of R122: the entry, captured once, waits while the queue is full and is queued with its post-steps. -/
def State.mxIssue (s : State) (make : Except Stop MxEntry) (steps : List (BitVec 3)) : Except Stop State :=
  match (match s.core.mxHeld with | some e => Except.ok e | none => make) with
  | .error e => .error e
  | .ok e => if s.core.mx.full then .error (.hold (.mx e)) else .ok ((s.mxPut e).post s steps)

/-- Eight slots from a slot on. -/
def slotsFrom (r : Regs) (n k : Nat) : List Word := (List.range k).map fun i => r.m.toList.getD (n + i) 0

/-- The entry of an MXGO or MXST: the record, checked, and what it captures (R141). -/
def State.mxCommand (s : State) (st : Bool) (words : BitVec 32) (px : List Prefix) (sp : BitVec 6) : Except Stop MxEntry :=
  match s.recordAt px sp with
  | .error e => .error e
  | .ok ea =>
    match s.recordDws ea with
    | .error e => .error e
    | .ok ws =>
      let r := s.core.r
      let c : MxCmd :=
        { st := st, dws := ws
          capA := slotsFrom r (srcSlot (dw ws 2)) (if srcKind (dw ws 2) = 0 then 8 else 2)
          capB := slotsFrom r (srcSlot (dw ws 3)) (if srcKind (dw ws 3) = 0 then 8 else 2)
          lid := s.core.lid
          pcoff := s.baseAddr px - BitVec.ofNat 64 s.codeRegion.1
          xseed := s.core.ctl.xseed
          words := words }
      match s.mxCheck c (BitVec.ofNat 64 ea) with
      | .error e => .error e
      | .ok _ => .ok (.cmd c)

/-- MXGO and MXST (R141). -/
def mxgoBody (st : Bool) (words : BitVec 32) (px : List Prefix) (sp : BitVec 6) : Body :=
  fun _ s => s.mxIssue (s.mxCommand st words px sp) (specSteps sp)

/-- MXGO (R141). -/
def execMxgo (px : List Prefix) (s : BitVec 6) (w1 : W1) (st : State) : Out :=
  runInstr (.mxgo px s w1) st (mxgoBody false (Instr.mxgo px s w1).siteWords px s)

/-- MXST (R141). -/
def execMxst (px : List Prefix) (s : BitVec 6) (w1 : W1) (st : State) : Out :=
  runInstr (.mxst px s w1) st (mxgoBody true (Instr.mxst px s w1).siteWords px s)

/-- The element selector of MXRD and MXWR in A (R140): tile, row, column, width; OPND 0x12. -/
def mxSel (a : Word) (cfg : BitVec 2) : Except Stop (Nat × Nat × Nat × Nat) :=
  let w := if a.getLsbD 16 then 8 else 4
  let t := bits a 15 14
  let j := bits a 6 0
  if bits a 63 17 ≠ 0 ∨ tileCount cfg ≤ t ∨ rowBytes cfg ≤ j * w then trapAt 0x07 0x12 a
  else .ok (t, bits a 13 7, j, w)

/-- The context of an 8-byte operand of an L-format instruction. -/
def ctxLong (px : List Prefix) (s : BitVec 6) : OpCtx := ⟨8, false, smallImm px s, if specPtr s then dispOf px else 0⟩

/-- MXRD: a snapshot at once (R142); a poisoned element raises POISON (R415; log 69). -/
def execMxrd (px : List Prefix) (s : BitVec 6) (w1 : W1) (st : State) : Out :=
  runInstr (.mxrd px s w1) st (fun _ st =>
    let m := st.core.mx
    match mxSel st.core.r.a m.cfg with
    | .error e => .error e
    | .ok (t, i, j, w) =>
      if m.sour t i j w then trapAt 0x11 0x01 0
      else
      match st.writeTarget (ctxLong px s) s (BitVec.ofNat 64 (m.elem t i j w)) with
      | .error e => .error e
      | .ok x =>
        let cnt := ((m.steps.toList.getD t 0).setWidth 64 : Word)
        match st.addLong ⟨w1.la.toNat, [x, ⟨.m (w1.aux.extractLsb' 0 5), 0xFF, cnt.setWidth 512⟩], 0, 0, 0, []⟩ with
        | .error e => .error e
        | .ok u => .ok (u.post st (specSteps s)))

/-- MXWR (R143). -/
def execMxwr (px : List Prefix) (s : BitVec 6) (w1 : W1) (st : State) : Out :=
  runInstr (.mxwr px s w1) st (fun _ st => st.mxIssue
    (match st.readOp (ctxLong px s) s with
     | .error e => .error e
     | .ok v =>
       match mxSel st.core.r.a st.core.mx.cfgAhead with
       | .error e => .error e
       | .ok (t, i, j, w) => .ok (.wr t i j (decide (w = 8)) v)) (specSteps s))

/-- MXCFG (R144). -/
def execMxcfg (px : List Prefix) (s : BitVec 6) (w1 : W1) (st : State) : Out :=
  runInstr (.mxcfg px s w1) st (fun _ st => st.mxIssue
    (match st.readOp (ctxLong px s) s with
     | .error e => .error e
     | .ok v => if bits v 63 2 ≠ 0 ∨ bits v 1 0 = 3 then trapAt 0x07 0x14 v else .ok (.cfg (v.extractLsb' 0 2))) (specSteps s))

/-- MXMSK: four slots captured (R145). -/
def execMxmsk (px : List Prefix) (s : BitVec 6) (w1 : W1) (st : State) : Out :=
  runInstr (.mxmsk px s w1) st (fun _ st =>
    let q := slotsFrom st.core.r (s.toNat % 32) 4
    st.mxIssue (.ok (.msk (w1.aux.extractLsb' 0 2) (dw q 1 ++ dw q 0) (dw q 3 ++ dw q 2))) [])

/-! ### Ends and completions (R137 to R139, R146) -/

/-- The completion payload (R139). -/
def mxPayload (c : MxCmd) (status : BitVec 8) (count : Nat) (sticky : BitVec 5) : List Word :=
  [BitVec.ofNat 64 (c.tag * 2 ^ 48 + status.toNat * 2 ^ 40 + count % 2 ^ 32),
   BitVec.ofNat 64 (sticky.toNat * 16 + (if c.st then 8 else 0) + c.tile)]

/-- A command's completion message, unless NOMSG. -/
def State.mxSend (s : State) (sid : Nat) (c : MxCmd) (status : BitVec 8) (count : Nat) (sticky : BitVec 5) : State :=
  if (dw c.dws 0).getLsbD 41 then s
  else s.engineDone sid (BitVec.ofNat 6 (bits (dw c.dws 0) 47 42)) c.lid (mxPayload c status count sticky)

/-- The matrix engine of an agent updated. -/
def State.updMx (s : State) (sid : Nat) (f : Mx → Mx) : State :=
  let c := s.coreAt sid
  s.setCore sid { c with mx := f c.mx }

/-- The running command of an agent ended with a status; it still owes its completion. -/
def State.mxEnd (s : State) (sid : Nat) (status : BitVec 8) : State :=
  s.updMx sid fun m => { m with run := m.run.map fun r => if r.ended.isSome then r else
    { r with ended := some status, susp := false, forming := false } }

/-- Every member of the formation of an agent's running command ended (R134, R137, R146). -/
def State.mxEndGang (s : State) (sid : Nat) (status : BitVec 8) : State :=
  match s.formOf .mx sid with
  | some f => (s.putForm f none) |> fun t => f.members.foldl (fun u m => u.mxEnd m status) t
  | none => s.mxEnd sid status

/-- Queued commands on the selected tiles removed, each with its completion (R146). -/
def State.mxDropQueued (s : State) (sel : Word) : State :=
  let hit : MxEntry → Bool := fun e => match e with | .cmd c => sel.getLsbD c.tile | _ => false
  let gone := s.core.mx.queue.filter hit
  let s1 := s.upd fun c => { c with mx := { c.mx with queue := c.mx.queue.filter fun e => !hit e } }
  foldSt (fun t e => match e with | .cmd c => t.mxSend t.focus c 0x01 0 0 | _ => t) s1 gone

/-- The running command of one member aborted: a suspended one ends at once, a running one at its next boundary (R146). -/
def MxRun.abortNow (r : MxRun) : MxRun :=
  if r.ended.isSome then r
  else if r.susp then { r with susp := false, ended := some 0x01 }
  else { r with abort := true }

/-- The running command aborted (R146): a forming or suspended one ends at once, at every member that has joined; a
running one at its next boundary. -/
def State.mxAbortRun (s : State) (sel : Word) : State :=
  match s.core.mx.run with
  | none => s
  | some r =>
    if !sel.getLsbD r.cmd.tile || r.ended.isSome then s
    else if r.forming || r.susp then s.mxEndGang s.focus 0x01
    else
      let ms := match s.formOf .mx s.focus with | some f => f.members | none => [s.focus]
      ms.foldl (fun t m => t.updMx m fun x => { x with run := x.run.map MxRun.abortNow }) s

/-- MXABT (R146). -/
def execMxabt (px : List Prefix) (s : BitVec 6) (w1 : W1) (st : State) : Out :=
  runInstr (.mxabt px s w1) st (fun _ st =>
    match st.readOp (ctxLong px s) s with
    | .error e => .error e
    | .ok v =>
      if bits v 63 4 ≠ 0 then trapAt 0x07 0x14 v
      else .ok (((st.mxAbortRun v).mxDropQueued v).post st (specSteps s)))

/-! ### Starting (R130, R134) -/

/-- Every enabled element of the local tile zeroed. -/
def Mx.zeroTile (m : Mx) (c : MxCmd) : Mx :=
  (List.range c.ml).foldl (fun x i => (List.range c.nl).foldl (fun y j =>
    if y.on c.msk i j then y.setElem c.tile i j (fcBytes c.fc) 0 else y) x) m

/-- The start of an MXGO on the engine: STEPt := 0, and the ZERO step (R130). -/
def Mx.begin (m : Mx) (c : MxCmd) : Mx :=
  let m1 := m.setStep c.tile 0
  if c.zero then m1.zeroTile c else m1

/-- An agent whose engines may move: it is in a launch, and its partition runs. -/
def State.engRuns (s : State) (sid : Nat) : Bool :=
  !isSvc sid && !(s.part (s.partOf sid)).stopped && s.dieRuns (dieOf sid)

/-- The record fields that members must share (R134). -/
def MxCmd.shared (c : MxCmd) : List Nat :=
  [c.gwl, c.ghl, c.fa, c.fb, c.fc, c.rm, if c.zero then 1 else 0, if c.sca then 1 else 0, if c.scb then 1 else 0, c.m, c.n, c.k]

/-- The matrix engine's translations left behind with its command (R368). -/
def State.dropMtlb (s : State) (sid : Nat) : State := s.setCore sid { s.coreAt sid with mtlb := [] }

/-- MXGO_START: an MXGO at the head of the queue becomes the running command; in gang mode it joins its formation, else
its step count and enabled elements are zeroed (R130, R134). A command that waits for its formation has started: it is the
running one, and QCNT does not count it (log 58). -/
def execMxgoStart (sid : Nat) (s : State) : Out :=
  let m := (s.coreAt sid).mx
  match m.run, m.queue with
  | none, .cmd c :: rest =>
    if !s.engRuns sid || c.st then notEnabled "MXGO_START"
    else
      let t := s.dropMtlb sid
      if c.gang then
        .next ((t.updMx sid fun x => { x with queue := rest, run := some ⟨c, 0, 0, true, false, false, none⟩ }).joinForm .mx sid
          c.gwl c.ghl c.shared)
      else .next (t.updMx sid fun x => { x.begin c with queue := rest, run := some ⟨c, 0, 0, false, false, false, none⟩ })
  | _, _ => notEnabled "MXGO_START"

/-- The running command of an agent. -/
def State.mxRun (s : State) (sid : Nat) : Option MxRun := (s.coreAt sid).mx.run

/-- GANG_FORMATION: every member has its command at its head and the command starts at every member; or two records disagree,
and it ends with EGANG at every member that has joined (R134; log 60). -/
def execGangFormation (sid : Nat) (s : State) : Out :=
  match s.formOf .mx sid with
  | none => notEnabled "GANG_FORMATION"
  | some f =>
    if f.formed || !s.formDone f || !s.engRuns sid then notEnabled "GANG_FORMATION"
    else if f.broken then .next (s.mxEndGang sid 0x21)
    else
      .next (f.members.foldl (fun t m => t.updMx m fun x =>
          match x.run with
          | some r => { x.begin r.cmd with run := some { r with forming := false } }
          | none => x)
        (s.putForm f (some { f with formed := true })))

/-- GANG_TIMEOUT (R134). -/
def execGangTimeout (sid : Nat) (s : State) : Out :=
  match s.formOf .mx sid with
  | none => notEnabled "GANG_TIMEOUT"
  | some f => if f.formed || !s.formOut f then notEnabled "GANG_TIMEOUT" else .next (s.mxEndGang sid 0x21)

/-! ### Operands of a step (R127, R128, R133) -/

/-- An element's bits from its byte address and bit offset: bytes read through `rd`. -/
def nibbleOf (w bit v : Nat) : Nat := if w = 4 then v / 2 ^ (bit % 8) % 16 else v

/-- Elements at bit offsets from a base, read one after another. -/
def State.mxRead (s : State) (sid base w : Nat) (loc : Bool) : List Nat → State × Except EStop (List Nat)
  | [] => (s, .ok [])
  | b :: t =>
    let n := max 1 (w / 8)
    let k := clusterOf sid * 16777216 + (base + b / 8)
    let r := if loc then (s, if s.storeBad k n then .error (.ended 0x11) else .ok (s.spad.readLE k n))
      else s.engLoad .matrix sid (base + b / 8) n
    match r with
    | (s1, .error e) => (s1, .error e)
    | (s1, .ok v) =>
      match s1.mxRead sid base w loc t with
      | (s2, .error e) => (s2, .error e)
      | (s2, .ok l) => (s2, .ok (nibbleOf w b v :: l))

/-- Positions (row, index) of one step's operand in row order: A has ML rows of k values, B k rows of NL values. -/
def stepPlaces (rows len : Nat) : List (Nat × Nat) :=
  (List.range rows).flatMap fun r => (List.range len).map fun x => (r, x)

/-- The values of k in a step. -/
def MxCmd.kIn (c : MxCmd) (st : Nat) : Nat := min c.ks (c.k - st * c.ks)

/-- The elements one side of a step supplies, from the supplier's command (R127, R128). Of a stream buffer they lie in the filled
slot behind `skip` others; a step larger than the slot reads on behind it (log 61). -/
def State.mxPanelElems (s : State) (sid : Nat) (c : MxCmd) (b : Bool) (st skip : Nat) : State × Except EStop (List Nat) :=
  let w := if b then fmtBits c.fb else fmtBits c.fa
  let src := if b then dw c.dws 3 else dw c.dws 2
  let cap := if b then c.capB else c.capA
  let ki := c.kIn st
  let places := if b then stepPlaces ki c.nl else stepPlaces c.ml ki
  match srcKind src with
  | 0 =>
    let img := cap.foldr (fun x a => x.toNat + 2 ^ 64 * a) 0
    (s, .ok (places.map fun p =>
      let i := if b then (st * c.ks + p.1) * c.nl + p.2 else p.1 * c.k + (st * c.ks + p.2)
      img / 2 ^ (i * w) % 2 ^ w))
  | 3 =>
    let buf := (s.coreAt sid).se.bufs.toList.getD (srcBuf src) SBuf.zero
    let base := buf.base + buf.slotBytes * ((buf.head + skip) % max 1 buf.slots)
    s.mxRead sid base w true (places.map fun p => (if b then p.1 * c.nl + p.2 else p.1 * c.ks + p.2) * w)
  | k =>
    let d := descOf k cap
    s.mxRead sid d.base w (decide (k = 1)) (places.map fun p => operandBit d w st p.1 p.2)

/-- The scale bytes of one side of a step (R128). -/
def State.mxPanelScales (s : State) (sid : Nat) (c : MxCmd) (b : Bool) (st : Nat) : State × Except EStop (List Nat) :=
  if c.cls ≠ some .mx then (s, .ok [])
  else
    let src := if b then dw c.dws 3 else dw c.dws 2
    let base := bits (if b then dw c.dws 5 else dw c.dws 4) 47 0
    let sp := if b then bits (dw c.dws 6) 63 32 else bits (dw c.dws 6) 31 0
    s.mxRead sid (base + st * sp) 8 (decide (srcKind src = 1)) ((List.range (if b then c.nl else c.ml)).map (8 * ·))

/-- Whether a side's stream buffer has a slot for the step behind `skip` others, when the side is one (R127). A buffer that is
not configured never has one; of one that the core fills the slots on the core's side count (log 61). -/
def State.mxSlotReady (s : State) (sid : Nat) (c : MxCmd) (b : Bool) (skip : Nat) : Bool :=
  let src := if b then dw c.dws 3 else dw c.dws 2
  decide (srcKind src ≠ 3) ||
    (let f := (s.coreAt sid).se.bufs.toList.getD (srcBuf src) SBuf.zero
     f.cfg && decide (skip < if f.dir then f.free else f.filled))

/-- The slots that the A side of a lone command takes from the B side's stream buffer in one step: where both sides name one buffer,
R127 does not say which takes its earlier slot; the model gives it to A (log 73). -/
def MxCmd.skipB (c : MxCmd) : Nat :=
  if srcKind (dw c.dws 2) = 3 ∧ srcKind (dw c.dws 3) = 3 ∧ srcBuf (dw c.dws 2) = srcBuf (dw c.dws 3) then 1 else 0

/-- A core's count and its engine's count after `n` slots pass from the core's side to the engine's (R225). -/
def SBuf.freeSlots (f : SBuf) (n : Nat) : SBuf :=
  if f.dir then { f with free := f.free - n, filled := f.filled + n, head := (f.head + n) % max 1 f.slots }
  else { f with filled := f.filled - n, free := f.free + n, head := (f.head + n) % max 1 f.slots }

/-- The core's count of a buffer (R221). -/
def SBuf.coreCount (f : SBuf) : Nat := if f.dir then f.free else f.filled

/-- A stream buffer of an agent replaced; its channel pended when `pend` holds and EN = 1 (R224, R225). -/
def State.putBuf (s : State) (sid b : Nat) (f : SBuf) (pend : Bool) : State :=
  let c := s.coreAt sid
  let c1 := { c with se := { c.se with bufs := Vector.ofFn fun i => if i.val = b then f else c.se.bufs[i] } }
  s.setCore sid (if pend && f.en then c1.pend f.ch else c1)

/-- The used slot of a stream-buffer operand freed, as an SFREE of 1 (R227). -/
def State.mxFreeSlot (s : State) (sid : Nat) (c : MxCmd) (b : Bool) : State :=
  let src := if b then dw c.dws 3 else dw c.dws 2
  if srcKind src ≠ 3 then s
  else
    let f := ((s.coreAt sid).se.bufs.toList.getD (srcBuf src) SBuf.zero).freeSlots 1
    s.putBuf sid (srcBuf src) f (decide (0 < f.coreCount))

/-- One side of a step read by its supplier: the panel, with its scales. -/
def State.mxPanel (s : State) (sid : Nat) (c : MxCmd) (b : Bool) (idx st skip : Nat) : State × Except EStop Panel :=
  match s.mxPanelElems sid c b st skip with
  | (s1, .error e) => (s1, .error e)
  | (s1, .ok el) =>
    match s1.mxPanelScales sid c b st with
    | (s2, .error e) => (s2, .error e)
    | (s2, .ok sc) => (s2, .ok ⟨b, idx, st, el, sc⟩)

/-! ### Arithmetic of a step (R130, R131) -/

/-- The FP format of an operand code. -/
def opFmt (c : Nat) : Fmt :=
  match c with
  | 0 => f64
  | 1 => f32
  | 2 => f16
  | 3 => bf16
  | 4 => e4m3
  | 5 => e5m2
  | _ => e2m1

/-- An operand's value: FP formats, MXINT8 (R79). -/
def opValue (code v : Nat) : FVal :=
  if code = 7 then .fin (decide (laneInt 8 v < 0)) (laneInt 8 v).natAbs (-6) else (opFmt code).decode v

/-- An integer operand's value. -/
def opInt (code v : Nat) : Int :=
  match code with
  | 7 => laneInt 8 v
  | 8 => (v % 256 : Nat)
  | 9 => laneInt 4 v
  | _ => (v % 16 : Nat)

/-- An exact product, and whether it raises IV (R131). -/
def prodV (x y : FVal) : FVal × Bool :=
  match x, y with
  | .nan a, .nan b => (.nan false, a || b)
  | .nan a, _ => (.nan false, a)
  | _, .nan b => (.nan false, b)
  | .inf n, .inf m => (.inf (n != m), false)
  | .inf n, .fin m k _ => if k = 0 then (.nan false, true) else (.inf (n != m), false)
  | .fin m k _, .inf n => if k = 0 then (.nan false, true) else (.inf (n != m), false)
  | .fin n a e, .fin m b f => (.fin (n != m) (a * b) (e + f), false)

/-- The exact sum of finite products: signed mantissa and exponent. -/
def sumFin : List FVal → Int × Int
  | [] => (0, 0)
  | .fin n m e :: t =>
    let r := sumFin t
    if t.isEmpty then ((if n then -(m : Int) else m), e) else exactSum n m e (decide (r.1 < 0)) r.1.natAbs r.2
  | _ :: t => sumFin t

/-- BlockSum and its IV (R131). -/
def blockSum (ps : List (FVal × Bool)) : FVal × Bool :=
  let iv := ps.any (·.2)
  let vs := ps.map (·.1)
  let pinf := vs.any (· == .inf false)
  let ninf := vs.any (· == .inf true)
  if vs.any FVal.isNan then (.nan false, iv || (pinf && ninf))
  else if pinf && ninf then (.nan false, true)
  else if pinf then (.inf false, iv)
  else if ninf then (.inf true, iv)
  else
    let r := sumFin vs
    if r.1 = 0 then (.fin (vs.all fun v => match v with | .fin n m _ => n && decide (m = 0) | _ => false) 0 0, iv)
    else (.fin (decide (r.1 < 0)) r.1.natAbs r.2, iv)

/-- One element's update in a step (R130): its accumulator bits, the pairs of operand bits in increasing k, scales. -/
def mxUpdate (c : MxCmd) (cls : MxClass) (acc : Nat) (ab : List (Nat × Nat)) (xa xb : Nat) : Nat × Flags5 :=
  match cls with
  | .fp64 => ab.foldl (fun r p => let q := fFma f64 (modeOfFlg (BitVec.ofNat 3 c.rm)) r.1 p.1 p.2; (q.1, r.2 ||| q.2)) (acc, 0)
  | .int => ((((acc : Int) + ab.foldl (fun t p => t + opInt c.fa p.1 * opInt c.fb p.2) 0) % 4294967296).toNat, 0)
  | _ =>
    let bs := blockSum (ab.map fun p => prodV (opValue c.fa p.1) (opValue c.fb p.2))
    let v := if cls = .mx then (if xa = 255 ∨ xb = 255 then .nan false else bs.1.scale ((xa : Int) + xb - 254)) else bs.1
    let mode := if cls = .fp32 then modeOfFlg (BitVec.ofNat 3 c.rm) else .rne
    let r := fAddV f32 mode (f32.decode acc) v
    (r.1, r.2 ||| flagIf bs.2 fIV)

/-- One K step on an engine's tile (R130): STEPt moves with it. -/
def Mx.step (m : Mx) (c : MxCmd) (cls : MxClass) (st : Nat) (a b : Panel) : Mx × Flags5 :=
  let ki := c.kIn st
  let w := fcBytes c.fc
  let r := (List.range c.ml).foldl (fun x i => (List.range c.nl).foldl (fun (y : Mx × Flags5) j =>
      if y.1.on c.msk i j then
        let ab := (List.range ki).map fun k => (a.elems.getD (i * ki + k) 0, b.elems.getD (k * c.nl + j) 0)
        let q := mxUpdate c cls (y.1.elem c.tile i j w) ab (a.scales.getD i 0) (b.scales.getD j 0)
        (y.1.setElem c.tile i j w q.1, y.2 ||| q.2)
      else y) x) (m, 0)
  (r.1.setStep c.tile (st + 1), r.2)

/-! ### K_STEP (R130, R135, R137) -/

/-- A step's stop, begun in `s`: a translation fault suspends the member, or ends it where an abort waits for its boundary
(R137, R146); an error ends the command, at every member; a host's answer is waited for before the step. -/
def State.mxStop (t s : State) (name : String) (sid : Nat) (r : MxRun) (e : EStop) : Out :=
  match e with
  | .recall line inv => s.awaitFor name line inv (.matrix sid)
  | .ended st => .next (t.mxEndGang sid st)
  | .pause f need va =>
    .next (if r.abort then t.mxEnd sid 0x01
      else (t.updMx sid fun m => { m with run := m.run.map fun x => { x with susp := true } }).agentFault sid 2 r.cmd.tag
        r.cmd.tile 0 0 r.cmd.lid r.cmd.words f need va)

/-- Whether a step consumes a poisoned element of its tile. -/
def Mx.stepSour (m : Mx) (c : MxCmd) : Bool :=
  (List.range c.ml).any fun i => (List.range c.nl).any fun j => m.on c.msk i j && m.sour c.tile i j (fcBytes c.fc)

/-- The step's effect on an agent's engine; a poisoned element ends the command at every member (R413, R415; log 69). -/
def State.mxDoStep (s : State) (sid : Nat) (r : MxRun) (cls : MxClass) (a b : Panel) : State :=
  if (s.coreAt sid).mx.stepSour r.cmd then s.mxEndGang sid 0x11
  else
  s.updMx sid fun m =>
    let q := m.step r.cmd cls r.done a b
    { q.1 with run := some { r with
        done := r.done + 1
        sticky := r.sticky ||| q.2
        ended := if r.abort then some 0x01 else none } }

/-- A step outside gang mode. -/
def State.mxLoneStep (s : State) (sid : Nat) (r : MxRun) (cls : MxClass) : Out :=
  let k := r.cmd.skipB
  if !s.mxSlotReady sid r.cmd false 0 || !s.mxSlotReady sid r.cmd true k then notEnabled "K_STEP"
  else
    match s.mxPanel sid r.cmd false 0 r.done 0 with
    | (s1, .error e) => s1.mxStop s "K_STEP" sid r e
    | (s1, .ok a) =>
      match s1.mxPanel sid r.cmd true 0 r.done k with
      | (s2, .error e) => s2.mxStop s "K_STEP" sid r e
      | (s2, .ok b) => .next (((s2.mxFreeSlot sid r.cmd false).mxFreeSlot sid r.cmd true).mxDoStep sid r cls a b)

/-- The side of a gang's step that an agent supplies and has not yet read: read, and kept for its row or column. -/
def State.mxSupply (s : State) (sid : Nat) (f : Form) (c : MxCmd) (b : Bool) (mine : Bool) (idx st : Nat) :
    State × Except EStop (Form × Bool) :=
  if !mine || (f.panel b idx st).isSome then (s, .ok (f, false))
  else if !s.mxSlotReady sid c b 0 then (s, .ok (f, false))
  else
    match s.mxPanel sid c b idx st 0 with
    | (s1, .error e) => (s1, .error e)
    | (s1, .ok p) =>
      let f1 := { f with panels := f.panels ++ [p] }
      ((s1.mxFreeSlot sid c b).putForm f (some f1), .ok (f1, true))

/-- A step in gang mode (R135): the member reads what it supplies, and steps once both panels are there and no member is
more than two steps behind. -/
def State.mxGangStep (s : State) (sid : Nat) (r : MxRun) (cls : MxClass) (f : Form) : Out :=
  let x := (s.coreAt sid).seat.getD ⟨0, 0, 0, 0, 0, 0, 0, 0, 0, 0⟩
  let gx := x.rx.toNat % 2 ^ r.cmd.gwl
  let gy := x.ry.toNat % 2 ^ r.cmd.ghl
  match s.mxSupply sid f r.cmd false (decide (gx = 0)) gy r.done with
  | (s1, .error e) => s1.mxStop s "K_STEP" sid r e
  | (s1, .ok (f1, na)) =>
    match s1.mxSupply sid f1 r.cmd true (decide (gy = 0)) gx r.done with
    | (s2, .error e) => s2.mxStop s "K_STEP" sid r e
    | (s2, .ok (f2, nb)) =>
      let least := f2.members.foldl (fun n m => match s2.mxRun m with | some y => min n y.done | none => n) r.done
      match f2.panel false gy r.done, f2.panel true gx r.done with
      | some a, some b =>
        if r.done + 1 ≤ least + 2 then .next (s2.mxDoStep sid r cls a b)
        else if na || nb then .next s2 else notEnabled "K_STEP"
      | _, _ => if na || nb then .next s2 else notEnabled "K_STEP"

/-- K_STEP: one K step of a running MXGO (R130). -/
def execKStep (sid : Nat) (s : State) : Out :=
  match s.mxRun sid with
  | none => notEnabled "K_STEP"
  | some r =>
    match r.cmd.cls with
    | none => notEnabled "K_STEP"
    | some cls =>
      if !s.engRuns sid || r.cmd.st || r.forming || r.susp || r.ended.isSome || decide (r.cmd.total ≤ r.done) then
        notEnabled "K_STEP"
      else
        match s.formOf .mx sid with
        | some f => if r.cmd.gang then s.mxGangStep sid r cls f else s.mxLoneStep sid r cls
        | none => if r.cmd.gang then notEnabled "K_STEP" else s.mxLoneStep sid r cls

/-! ### MXST_PERFORM (R141) -/

/-- One element converted for output (R141). -/
def MxCmd.outElem (c : MxCmd) (sid : Nat) (v e : Nat) : Nat × Flags5 :=
  let mode := if c.rm = 5 then
      RMode.sr (srBits c.xseed c.lid.toNat (if isSvc sid then 4096 + sid % 4096 else sid) (c.pcoff.extractLsb' 0 32)
        (BitVec.ofNat 64 v) e)
    else modeOfFlg (BitVec.ofNat 3 c.rm)
  match c.fc with
  | 2 => if c.fa = 11 then (v, 0) else intToFp (opFmt c.fa) mode (laneInt 32 v)
  | k => fpToFp (if k = 0 then f64 else f32) (opFmt c.fa) mode c.sat v

/-- One row of an MXST written; the flags it raises. -/
def State.mxStoreRow (s : State) (sid : Nat) (c : MxCmd) (i : Nat) : List Nat → State × Except EStop Flags5
  | [] => (s, .ok 0)
  | j :: t =>
    let m := (s.coreAt sid).mx
    if !m.on c.msk i j then s.mxStoreRow sid c i t
    else if m.sour c.tile i j (fcBytes c.fc) then (s, .error (.ended 0x11))
    else
      let q := c.outElem sid (m.elem c.tile i j (fcBytes c.fc)) (i * c.nl + j)
      let src := dw c.dws 2
      let d := descOf (srcKind src) c.capA
      let n := fmtBits c.fa / 8
      let a := d.base + operandBit { d with tp := 0 } (fmtBits c.fa) 0 i j / 8
      let r := if srcKind src = 1 then
          (match s.engLocal sid a n with
           | .ok (.spad k) => (s.putStore k n (2 ^ n - 1) q.1, Except.ok ())
           | .ok _ => (s, .ok ())
           | .error e => (s, .error e))
        else s.engStore .matrix sid a n (2 ^ n - 1) q.1
      match r with
      | (s1, .error e) => (s1, .error e)
      | (s1, .ok _) =>
        let s2 := if c.zero then s1.updMx sid fun m => m.setElem c.tile i j (fcBytes c.fc) 0 else s1
        match s2.mxStoreRow sid c i t with
        | (s3, .error e) => (s3, .error e)
        | (s3, .ok fl) => (s3, .ok (q.2 ||| fl))

/-- The running MXST of an agent, or the one at the head of its queue, now started. -/
def State.mxstRun (s : State) (sid : Nat) : Option (State × MxRun) :=
  let m := (s.coreAt sid).mx
  match m.run, m.queue with
  | some r, _ => if r.cmd.st then some (s, r) else none
  | none, .cmd c :: rest =>
    if c.st then
      let r : MxRun := ⟨c, 0, 0, false, false, false, none⟩
      some ((s.dropMtlb sid).updMx sid (fun x => { x with queue := rest, run := some r }), r)
    else none
  | none, _ => none

/-- MXST_PERFORM: the next row of an MXST is stored whole, or its fault suspends the command before that row (R137). -/
def execMxstPerform (sid : Nat) (s : State) : Out :=
  match s.mxstRun sid with
  | none => notEnabled "MXST_PERFORM"
  | some (s0, r) =>
    if !s.engRuns sid || r.susp || r.ended.isSome || decide (r.cmd.total ≤ r.done) then notEnabled "MXST_PERFORM"
    else
      match s0.mxStoreRow sid r.cmd r.done (List.range r.cmd.nl) with
      | (t, .error e) => { s0 with freeCtr := t.freeCtr }.mxStop s0 "MXST_PERFORM" sid r e
      | (s1, .ok fl) =>
        .next (s1.updMx sid fun m => { m with run := some { r with
          done := r.done + 1
          sticky := r.sticky ||| fl
          ended := if r.abort then some 0x01 else none } })

/-! ### MXWR, MXCFG, MXMSK performed (R143 to R145) -/

/-- The entry at the head of an idle engine's queue. -/
def State.mxHead (s : State) (sid : Nat) : Option (MxEntry × List MxEntry) :=
  let m := (s.coreAt sid).mx
  match m.run, m.queue with
  | none, e :: rest => if s.engRuns sid then some (e, rest) else none
  | _, _ => none

/-- MXWR_PERFORM (R143). -/
def execMxwrPerform (sid : Nat) (s : State) : Out :=
  match s.mxHead sid with
  | some (.wr t i j wide v, rest) =>
    .next (s.updMx sid fun m => { m.setElem t i j (if wide then 8 else 4) v.toNat with queue := rest })
  | _ => notEnabled "MXWR_PERFORM"

/-- MXCFG_PERFORM: the store, the step counts and MXSF are zeroed; the masks stay (R144). -/
def execMxcfgPerform (sid : Nat) (s : State) : Out :=
  match s.mxHead sid with
  | some (.cfg k, rest) =>
    .next (s.updMx sid fun m => { m with cfg := k, acc := [], bad := [], steps := Vector.replicate 4 0, sf := 0, queue := rest })
  | _ => notEnabled "MXCFG_PERFORM"

/-- MXMSK_PERFORM (R145). -/
def execMxmskPerform (sid : Nat) (s : State) : Out :=
  match s.mxHead sid with
  | some (.msk k row col, rest) =>
    .next (s.updMx sid fun m => { m with row := m.row.set k.toNat row k.isLt, col := m.col.set k.toNat col k.isLt, queue := rest })
  | _ => notEnabled "MXMSK_PERFORM"

/-! ### MX_COMPLETION (R139) -/

/-- A member leaves its formation; the last one closes it. -/
def State.leaveForm (s : State) (k : FormKind) (sid : Nat) : State :=
  match s.formOf k sid with
  | none => s
  | some f =>
    let ms := f.members.filter (· ≠ sid)
    s.putForm f (if ms.isEmpty then none else some { f with members := ms })

/-- The status with which a running command ends now, if it does. -/
def MxRun.status (r : MxRun) : Option (BitVec 8) :=
  match r.ended with
  | some st => some st
  | none =>
    if r.forming || r.susp then none
    else if r.cmd.total ≤ r.done then some 0x00
    else if r.abort then some 0x01
    else none

/-- MX_COMPLETION: an ended command joins its flags to MXSF and sends its completion message (R120, R139). -/
def execMxCompletion (sid : Nat) (s : State) : Out :=
  match s.mxRun sid with
  | none => notEnabled "MX_COMPLETION"
  | some r =>
    match r.status with
    | none => notEnabled "MX_COMPLETION"
    | some st =>
      if !s.engRuns sid then notEnabled "MX_COMPLETION"
      else
        .next ((((s.dropMtlb sid).updMx sid fun m => { m with run := none, sf := m.sf ||| r.sticky }).leaveForm .mx sid).mxSend sid r.cmd st
          r.done r.sticky)

end Sys2Proof.Machine
end

