-- ==== Sys2Proof/Machine/Gang.lean ====
section
/-! DEFINITION. The vector unit's gang commands GRED and VMAXX (R152 to R157) and barriers (R316, R317), with the events
in which they are performed. -/

namespace Sys2Proof.Machine

/-! ### Instructions that check, wait, then commit and enqueue (R154) -/

/-- The commit and the enqueue of a checked instruction, as one step; the region that holds the entry is closed behind it (log
10). -/
def State.enqueue (s : State) (p : Parts) (f : State → State) : Out :=
  s.whenClear (let s2 := s.commit; .next ((f s2).retire s2 (partsLen p)).commit)

/-- An instruction whose checks come before its commit (R154, R156, R316): a fault discards the region in progress; an entry
that finds its queue full waits, as it was captured; otherwise the region commits and the entry is queued. A record that
overlaps the region's own no-return atomic commits first and is then read (R203). -/
def runEnqueue (i : Instr) (s : State) (k : State → Except Stop (State → State)) : Out :=
  match i.parts, attrsOf i with
  | some p, some a => s.atBoundary fun s1 =>
    match s1.contextFault p a with
    | some t => .next (s1.takeFault (s1.site p) t)
    | none => s1.whenLinesDone i
      (match k s1 with
       | .ok f => s1.enqueue p f
       | .error .commitFirst =>
         s1.whenClear
           (let s2 := s1.commit
            match k s2 with
            | .ok f => s2.enqueue p f
            | .error e => s2.stopped p e)
       | .error e => s1.stopped p e)
  | _, _ => .refused (.notEnabled "INSTRUCTION")

/-! ### The vector unit's queue -/

/-- OPC. -/
def gredOpc (ws : List Word) : Nat := bits (dw ws 0) 35 32

/-- The fields that members must share (R154, R156). -/
def VuCmd.shared : VuCmd → List Nat
  | .gred ws _ => [0, bits (dw ws 0) 63 48, gredOpc ws, bits (dw ws 0) 23 20, bits (dw ws 0) 31 28, bits (dw ws 0) 27 24,
      bits (dw ws 0) 19 19]
  | .vmaxx tag gwl prec _ _ _ => [1, tag.toNat, prec.toNat, gwl.toNat]

/-- The head of a vector unit's queue, when it is a VMAXX, joins its formation (R156). -/
def State.vuAdvance (s : State) (sid : Nat) : State :=
  match (s.coreAt sid).vu.queue with
  | .vmaxx tag gwl prec m ch lid :: _ => s.joinForm .vmaxx sid gwl.toNat 0 (VuCmd.vmaxx tag gwl prec m ch lid).shared
  | _ => s

/-- The entry that an issuing instruction has captured before it waits (R154). -/
def Core.vuHeld (c : Core) : Option VuCmd := match c.capt with | some (.vu e) => some e | _ => none

/-- A vector-unit entry queued. -/
def State.vuPut (s : State) (e : VuCmd) : State :=
  let s1 := s.upd fun c => { c with vu := { c.vu with queue := c.vu.queue ++ [e] } }
  if s1.core.vu.queue.length = 1 then s1.vuAdvance s1.focus else s1

/-- The waiting and queueing of R154: the entry, captured once, waits while the queue is full. -/
def State.vuIssue (s : State) (make : Except Stop VuCmd) (steps : List (BitVec 3)) : Except Stop (State → State) :=
  match (match s.core.vuHeld with | some e => Except.ok e | none => make) with
  | .error e => .error e
  | .ok e => if 2 ≤ s.core.vu.queue.length then .error (.hold (.vu e)) else .ok (fun u => (u.vuPut e).post u steps)

/-- The head of a vector unit's queue leaves. -/
def State.vuPop (s : State) (sid : Nat) : State :=
  let c := s.coreAt sid
  (s.setCore sid { c with vu := ⟨c.vu.queue.tail, none⟩ }).vuAdvance sid

/-! ### GRED (R152 to R154) -/

/-- Bytes of a contribution: N doublewords, or an accumulator image. -/
def gredBytes (ws : List Word) : Nat :=
  match gredOpc ws with
  | 7 => 40
  | 8 => 272
  | _ => 8 * bits (dw ws 0) 23 20
/-- SADR. -/
def gredSrc (ws : List Word) : Nat := bits (dw ws 1) 23 0
/-- DADR. -/
def gredDst (ws : List Word) : Nat := bits (dw ws 1) 55 32

/-- The checks of a GRED record (R154, R308). -/
def State.gredCheck (s : State) (ws : List Word) (ea : Word) : Except Stop Unit :=
  let d := dw ws
  let n := bits (d 0) 23 20
  if bits (d 0) 18 0 ≠ 0 ∨ bits (d 1) 63 56 ≠ 0 ∨ bits (d 1) 31 24 ≠ 0 ∨ (ws.drop 2).any (· != 0) then trapAt 0x07 0x19 ea
  else if 9 ≤ gredOpc ws ∨ 6 ≤ bits (d 0) 38 36 then trapAt 0x07 0x1A ea
  else
    match s.chanCheck (BitVec.ofNat 6 (bits (d 0) 47 42)) 0x1A ea with
    | .error e => .error e
    | .ok _ =>
      match gangOrigin s.core.seat (bits (d 0) 31 28) (bits (d 0) 27 24) with
      | .error g => gangTrap g ea
      | .ok _ =>
        if (if 7 ≤ gredOpc ws then n ≠ 0 else n = 0 ∨ 8 < n) ∨ gredSrc ws % 64 ≠ 0 ∨ gredDst ws % 64 ≠ 0 ∨
            (s.extentBad s.focus (gredSrc ws) (gredBytes ws)).isSome ∨
            (s.extentBad s.focus (gredDst ws) (gredBytes ws)).isSome
          then ecmd 0x06 ea
        else .ok ()

/-- GRED (R154). -/
def execGred (px : List Prefix) (s : BitVec 6) (w1 : W1) (st : State) : Out :=
  runEnqueue (.gred px s w1) st (fun st => st.vuIssue
    (match st.recordAt px s with
     | .error e => .error e
     | .ok ea =>
       match st.recordDws ea with
       | .error e => .error e
       | .ok ws =>
         match st.gredCheck ws (BitVec.ofNat 64 ea) with
         | .error e => .error e
         | .ok _ => .ok (.gred ws st.core.lid)) (specSteps s))

/-- The doublewords of a memory extent, the last one short. -/
def gredRead (m : Memory) (a n : Nat) : List Word := dwsOf ((n + 7) / 8) (m.readLE a n)

/-- The head command of a member's vector unit. -/
def State.vuHead (s : State) (sid : Nat) : Option VuCmd := (s.coreAt sid).vu.queue.head?

/-- The level of a rank tree: neighbours added in RNE (R153, R114). -/
def treePairs (f : Fmt) : List Nat → List Nat × Flags5
  | a :: b :: t =>
    let q := fAdd f .rne a b
    let r := treePairs f t
    (q.1 :: r.1, q.2 ||| r.2)
  | l => (l, 0)

/-- The rank tree. One rank adds nothing and passes its contribution's bits, a NaN's too (log 72). -/
def rankTree (f : Fmt) (l : List Nat) (fl : Flags5) : Nat → Nat × Flags5
  | 0 => (l.headD 0, fl)
  | n + 1 => let r := treePairs f l; rankTree f r.1 (fl ||| r.2) n

/-- One doubleword of a reduction over the ranks (R153). -/
def gredCombine (opc : Nat) (l : List Word) : Word × Flags5 :=
  let fold := fun (f : Word → Word → Word) => (match l with | [] => (0 : Word) | x :: t => t.foldl f x, (0 : Flags5))
  match opc with
  | 0 => fold (· + ·)
  | 1 => fold fun a b => if b.slt a then b else a
  | 2 => fold fun a b => if a.slt b then b else a
  | 3 => fold fun a b => if b.ult a then b else a
  | 4 => fold fun a b => if a.ult b then b else a
  | 5 => let r := rankTree f64 (l.map (·.toNat)) 0 10; (BitVec.ofNat 64 r.1, r.2)
  | _ => let r := rankTree f32 (l.map (·.toNat % 4294967296)) 0 10; (BitVec.ofNat 64 r.1, r.2)

/-- The result of a reduction: doublewords and flags, or none for an image with a reserved bit (R154). -/
def gredResult (ws : List Word) (data : List (List Word)) : Option (Nat × Flags5) :=
  let opc := gredOpc ws
  if 7 ≤ opc then
    let x64 := decide (opc = 8)
    let imgs := data.map fun d => xaccOf x64 (d.foldr (fun x a => x.toNat + 2 ^ 64 * a) 0)
    if imgs.any (·.isNone) then none
    else
      match imgs.filterMap id with
      | [] => none
      | x :: t => some (xaccRaw x64 (t.foldl (xaccMerge x64) x), 0)
  else
    let n := bits (dw ws 0) 23 20
    let r := (List.range n).map fun i => gredCombine opc (data.map fun d => dw d i)
    some (r.foldr (fun x a => x.1.toNat + 2 ^ 64 * a) 0, r.foldl (fun a x => a ||| x.2) 0)

/-- A GRED of a member ends: its completion message, unless NOMSG. -/
def State.gredEnd (s : State) (sid : Nat) (status : BitVec 8) (fl : Flags5) : State :=
  match s.vuHead sid with
  | some (.gred ws lid) =>
    let s1 := s.vuPop sid
    if (dw ws 0).getLsbD 41 then s1
    else s1.engineDone sid (BitVec.ofNat 6 (bits (dw ws 0) 47 42)) lid
      [BitVec.ofNat 64 (bits (dw ws 0) 63 48 * 2 ^ 48 + status.toNat * 2 ^ 40 + fl.toNat * 16)]
  | _ => s

/-- The result written at DADR of a member, or of rank 0 only (R153). -/
def State.gredWrite (s : State) (sid : Nat) (rank0 : Bool) (v : Nat) : State :=
  match s.vuHead sid with
  | some (.gred ws _) =>
    if (dw ws 0).getLsbD 19 && !rank0 then s
    else s.putWhole (clusterOf sid * 16777216 + gredDst ws) (gredBytes ws) v
  | _ => s

/-- Every member of a GRED formation completed with a status (R154). -/
def State.gredEndAll (s : State) (f : Form) (status : BitVec 8) (fl : Flags5) : State :=
  f.members.foldl (fun t m => t.gredEnd m status fl) (s.putForm f none)

/-- A formation's GRED ended by a bad contribution, or the member's own (R154). -/
def State.gredError (s : State) (sid : Nat) : State :=
  match s.formOf .gred sid with
  | some f => s.gredEndAll f 0x10 0
  | none => s.gredEnd sid 0x10 0

/-- GRED_START: the command at the head of a vector unit's queue reads its contribution and joins its formation (R154); a poisoned
contribution ends it as an uncorrectable error does (log 69). -/
def execGredStart (sid : Nat) (s : State) : Out :=
  let v := (s.coreAt sid).vu
  match v.queue, v.started with
  | .gred ws _ :: _, none =>
    if !s.engRuns sid then notEnabled "GRED_START"
    else
      let c := s.coreAt sid
      let d := gredRead s.spad (clusterOf sid * 16777216 + gredSrc ws) (gredBytes ws)
      let t := (s.setCore sid { c with vu := { c.vu with started := some d } }).joinForm .gred sid (bits (dw ws 0) 31 28)
        (bits (dw ws 0) 27 24) (VuCmd.gred ws 0).shared
      .next (if s.storeBad (clusterOf sid * 16777216 + gredSrc ws) (gredBytes ws) then t.gredError sid else t)
  | _, _ => notEnabled "GRED_START"

/-- GRED_COMPLETION (R154): the reduction of a full formation, or the failure of one whose records disagree at every member that
has joined it (log 60). -/
def execGredCompletion (sid : Nat) (s : State) : Out :=
  match s.formOf .gred sid with
  | none => notEnabled "GRED_COMPLETION"
  | some f =>
    if !s.formDone f || !s.engRuns sid then notEnabled "GRED_COMPLETION"
    else if f.broken then .next (s.gredEndAll f 0x21 0)
    else
      let g := s.gangOf f.origin f.gwl f.ghl
      match s.vuHead sid with
      | some (.gred ws _) =>
        (match gredResult ws (g.filterMap fun m => (s.coreAt m).vu.started) with
         | none => .next (s.gredEndAll f 0x07 0)
         | some (v, fl) =>
           .next ((g.foldl (fun t m => t.gredWrite m (decide (m = f.origin)) v) s).gredEndAll f 0x00 fl))
      | _ => notEnabled "GRED_COMPLETION"

/-- GRED_TIMEOUT (R154). -/
def execGredTimeout (sid : Nat) (s : State) : Out :=
  match s.formOf .gred sid with
  | none => notEnabled "GRED_TIMEOUT"
  | some f => if !s.formOut f then notEnabled "GRED_TIMEOUT" else .next (s.gredEndAll f 0x21 0)

/-! ### VMAXX (R156, R157) -/

/-- The local maximum of |VAd[i]| over enabled lanes (R156). -/
def State.localMax (st : State) (px : List Prefix) (d : BitVec 2) (f : Fmt) : Nat :=
  let v := (st.core.r.vec d).toNat
  (List.range (512 / f.bits)).foldl (fun m i =>
    if st.laneOn px i then (fMinMax f true false m (laneAt f.bits v i % 2 ^ (f.bits - 1))).1 else m) 0

/-- VMAXX (R156). -/
def execVmaxx (px : List Prefix) (s : BitVec 6) (w1 : W1) (st : State) : Out :=
  runEnqueue (.vmaxx px s w1) st (fun st => st.vuIssue
    (match st.readOp (ctxLong px s) s with
    | .error e => .error e
    | .ok c =>
      if bits c 63 32 ≠ 0 ∨ bits c 15 8 ≠ 0 then trapAt 0x07 0x18 c
      else
        match st.chanCheck w1.aux 0x47 c with
        | .error e => .error e
        | .ok _ =>
          match gangOrigin st.core.seat (bits c 7 4) 0 with
          | .error g => gangTrap g c
          | .ok _ =>
            let f := fmtOf (c.extractLsb' 2 2)
            let m := BitVec.ofNat 64 (st.localMax px (c.extractLsb' 0 2) f)
            .ok (.vmaxx (c.extractLsb' 16 16) (c.extractLsb' 4 4) (c.extractLsb' 2 2) m w1.aux st.core.lid)) (specSteps s))

/-- A VMAXX of a member ends with the row maximum, or fails (R156). -/
def State.vmaxxEnd (s : State) (sid : Nat) (m : Option Nat) : State :=
  match s.vuHead sid with
  | some (.vmaxx tag _ prec _ ch lid) =>
    let sc := fun (e : Int) => match m with | some v => scaleOf e ((fmtOf prec).decode v) | none => 255
    let m1 := tag.toNat * 2 ^ 48 + (if m.isSome then 0 else 0x21) * 2 ^ 40 + sc 0 * 2 ^ 24 + sc 2 * 2 ^ 16 + sc 15 * 2 ^ 8 + sc 8
    (s.vuPop sid).engineDone sid ch lid [BitVec.ofNat 64 (m.getD 0), BitVec.ofNat 64 m1]
  | _ => s

/-- Every member of a row exchange completed. -/
def State.vmaxxEndAll (s : State) (f : Form) (m : Option Nat) : State :=
  f.members.foldl (fun t x => t.vmaxxEnd x m) (s.putForm f none)

/-- The local maximum a member brings. -/
def State.vmaxxOf (s : State) (sid : Nat) : Option (BitVec 2 × Nat) :=
  match s.vuHead sid with
  | some (.vmaxx _ _ prec m _ _) => some (prec, m.toNat)
  | _ => none

/-- VMAXX_COMPLETION (R156). -/
def execVmaxxCompletion (sid : Nat) (s : State) : Out :=
  match s.formOf .vmaxx sid with
  | none => notEnabled "VMAXX_COMPLETION"
  | some f =>
    if !s.formDone f || !s.engRuns sid then notEnabled "VMAXX_COMPLETION"
    else if f.broken then .next (s.vmaxxEndAll f none)
    else
      match f.members.filterMap s.vmaxxOf with
      | [] => notEnabled "VMAXX_COMPLETION"
      | x :: t => .next (s.vmaxxEndAll f (some (t.foldl (fun a y => (fMinMax (fmtOf x.1) true false a y.2).1) x.2)))

/-- VMAXX_TIMEOUT (R156). -/
def execVmaxxTimeout (sid : Nat) (s : State) : Out :=
  match s.formOf .vmaxx sid with
  | none => notEnabled "VMAXX_TIMEOUT"
  | some f => if !s.formOut f then notEnabled "VMAXX_TIMEOUT" else .next (s.vmaxxEndAll f none)

/-! ### Barriers (R316, R317) -/

/-- The head of a barrier queue joins its formation. -/
def State.barAdvance (s : State) (sid : Nat) : State :=
  match (s.coreAt sid).bars with
  | b :: _ => s.joinForm .bar sid b.gwl.toNat b.ghl.toNat [b.tag.toNat, b.gwl.toNat, b.ghl.toNat]
  | [] => s

/-- The entry that a BAR has captured before it waits (R316). -/
def Core.barHeld (c : Core) : Option BarCmd := match c.capt with | some (.bar e) => some e | _ => none

/-- A barrier entry queued; at the head of the queue it joins its formation. -/
def State.barPut (s : State) (b : BarCmd) : State :=
  let t := s.upd fun k => { k with bars := k.bars ++ [b] }
  if t.core.bars.length = 1 then t.barAdvance t.focus else t

/-- The waiting and queueing of R316: the entry, captured once, waits while the queue is full. -/
def State.barIssue (s : State) (make : Except Stop BarCmd) (steps : List (BitVec 3)) : Except Stop (State → State) :=
  match (match s.core.barHeld with | some e => Except.ok e | none => make) with
  | .error e => .error e
  | .ok e => if 2 ≤ s.core.bars.length then .error (.hold (.bar e)) else .ok (fun u => (u.barPut e).post u steps)

/-- BAR (R316). -/
def execBar (px : List Prefix) (s : BitVec 6) (w1 : W1) (st : State) : Out :=
  runEnqueue (.bar px s w1) st (fun st => st.barIssue
    (match st.readOp (ctxLong px s) s with
    | .error e => .error e
    | .ok c =>
      if bits c 63 32 ≠ 0 ∨ bits c 15 8 ≠ 0 then trapAt 0x07 0x45 c
      else
        match st.chanCheck w1.aux 0x47 c with
        | .error e => .error e
        | .ok _ =>
          match gangOrigin st.core.seat (bits c 7 4) (bits c 3 0) with
          | .error g => gangTrap g c
          | .ok _ => .ok ⟨c.extractLsb' 16 16, c.extractLsb' 4 4, c.extractLsb' 0 4, w1.aux, st.core.lid⟩) (specSteps s))

/-- A member's barrier ends: its message (R316); the next entry joins its own formation. -/
def State.barEnd (s : State) (sid : Nat) (status : BitVec 8) : State :=
  let c := s.coreAt sid
  match c.bars with
  | [] => s
  | b :: t =>
    ((s.setCore sid { c with bars := t }).engineDone sid b.ch b.lid
      [BitVec.ofNat 64 (b.tag.toNat * 2 ^ 48 + status.toNat * 2 ^ 40)]).barAdvance sid

/-- Every member of a barrier completed with a status. -/
def State.barEndAll (s : State) (f : Form) (status : BitVec 8) : State :=
  f.members.foldl (fun t m => t.barEnd m status) (s.putForm f none)

/-- BARRIER_COMPLETION (R316): every member has come, or two tags disagree and the barrier fails at every member that has joined
it (log 60). -/
def execBarrierCompletion (sid : Nat) (s : State) : Out :=
  match s.formOf .bar sid with
  | none => notEnabled "BARRIER_COMPLETION"
  | some f =>
    if !s.formDone f || !s.engRuns sid then notEnabled "BARRIER_COMPLETION"
    else .next (s.barEndAll f (if f.broken then 0x21 else 0x00))

/-- BARRIER_TIMEOUT (R316). -/
def execBarrierTimeout (sid : Nat) (s : State) : Out :=
  match s.formOf .bar sid with
  | none => notEnabled "BARRIER_TIMEOUT"
  | some f => if !s.formOut f then notEnabled "BARRIER_TIMEOUT" else .next (s.barEndAll f 0x21)

end Sys2Proof.Machine
end

