-- ==== Sys2Proof/Machine/Stream.lean ====
section
/-! DEFINITION. The stream engine (R221 to R227): SBUF, SGO, SPEEK, SFREE, SCNT, and its events. -/

namespace Sys2Proof.Machine

/-! ### Buffers -/

/-- A buffer of the core in focus. -/
def Core.sbuf (c : Core) (b : BitVec 3) : SBuf := c.se.bufs[b.toNat]'b.isLt

/-- The buffer an SBUF descriptor makes (R222). -/
def sbufOf (d : Word) (lid : BitVec 16) : SBuf :=
  if !d.getLsbD 56 then SBuf.zero
  else
    let ns := bits d 47 40 + 1
    ⟨true, d.getLsbD 55, d.getLsbD 54, d.extractLsb' 48 6, 0, 0, ns, 0, ns, 64 * (bits d 39 32 + 1), bits d 23 0, lid⟩

/-- CFG and DIR of a buffer once every SBUF already queued has been performed (R223, order 4). -/
def Se.ahead (e : Se) (b : BitVec 3) : Bool × Bool :=
  e.queue.foldl (fun x q => match q with
    | .sbuf b' d _ => if b' = b then (d.getLsbD 56, d.getLsbD 56 && d.getLsbD 55) else x
    | .sgo _ => x) (e.bufs[b.toNat].cfg, e.bufs[b.toNat].dir)

/-- An entry queued (R222). -/
def State.sePut (s : State) (q : SeCmd) : State := s.upd fun c => { c with se := { c.se with queue := c.se.queue ++ [q] } }

/-- Whether the stream queue is full. -/
def Se.full (e : Se) : Bool := decide (2 ≤ e.queue.length)

/-- The entry that an issuing instruction has captured before its stall (R122, R222). -/
def Core.seHeld (c : Core) : Option SeCmd := match c.capt with | some (.se e) => some e | _ => none

/-- The entry, captured once, waits while the queue is full and is queued with its post-steps (R122, R222). -/
def State.seIssue (s : State) (make : Except Stop SeCmd) (steps : List (BitVec 3)) : Except Stop State :=
  match (match s.core.seHeld with | some e => Except.ok e | none => make) with
  | .error e => .error e
  | .ok e => if s.core.se.full then .error (.hold (.se e)) else .ok ((s.sePut e).post s steps)

/-! ### Instructions -/

/-- SBUF (R222). -/
def execSbuf (px : List Prefix) (s : BitVec 6) (w1 : W1) (st : State) : Out :=
  runInstr (.sbuf px s w1) st (fun _ st => st.seIssue
    (match st.readOp (ctxLong px s) s with
    | .error e => .error e
    | .ok d =>
      if bits d 63 57 ≠ 0 ∨ bits d 31 24 ≠ 0 ∨ (¬ d.getLsbD 56 ∧ d ≠ 0) then trapAt 0x07 0x24 d
      else if d.getLsbD 56 ∧ (bits d 23 0 % 64 ≠ 0 ∨
          (st.extentBad st.focus (bits d 23 0) (64 * (bits d 39 32 + 1) * (bits d 47 40 + 1))).isSome)
        then ecmd 0x0C d
      else .ok (.sbuf (w1.aux.extractLsb' 0 3) d st.core.lid)) (specSteps s))

/-- Whether a stride breaks its sign rule (R223). -/
def strideBad (w : Word) : Bool := decide (w.extractLsb' 48 16 ≠ if w.getLsbD 47 then 0xFFFF#16 else 0#16)

/-- ESZ in bytes. -/
def shapeEsz (sh : List Word) : Nat := 2 ^ bits (dw sh 6) 2 0

/-- The checks of SGO's records (R223, R308); the shape is read between orders 1 and 2 where it can be. A stride whose bits [63:48]
differ from its bit 47 is judged with the reserved bits at order 1 (log 80). -/
def State.sgoCheck (s : State) (rec sh : List Word) (shOk : Bool) (ea : Word) : Except Stop Unit :=
  let d := dw rec
  let z := dw sh
  let b : BitVec 3 := (d 0).extractLsb' 32 3
  let esz := shapeEsz sh
  if bits (d 0) 31 0 ≠ 0 ∨ bits (d 1) 63 24 ≠ 0 ∨ (rec.drop 2).any (· != 0) ∨ 6 ≤ bits (d 0) 38 36 ∨
      (shOk ∧ (bits (z 0) 63 48 ≠ 0 ∨ bits (z 6) 63 3 ≠ 0 ∨ z 7 ≠ 0 ∨ 5 ≤ bits (z 6) 2 0 ∨ strideBad (z 3) ∨
        strideBad (z 4) ∨ strideBad (z 5)))
    then trapAt 0x07 0x23 ea
  else
    match s.chanCheck (BitVec.ofNat 6 (bits (d 0) 47 42)) 0x23 ea with
    | .error e => .error e
    | .ok _ =>
      let a := s.core.se.ahead b
      if ¬ shOk then ecmd 0x07 ea
      else if bits (z 1) 31 0 = 0 ∨ bits (z 1) 63 32 = 0 ∨ bits (z 2) 31 0 = 0 ∨ bits (z 2) 63 32 = 0 ∨
          bits (z 0) 47 0 % esz ≠ 0 ∨ (z 3).toNat % esz ≠ 0 ∨ (z 4).toNat % esz ≠ 0 ∨ (z 5).toNat % esz ≠ 0
        then ecmd 0x08 ea
      else if ¬ a.1 ∨ a.2 ≠ (d 0).getLsbD 35 then ecmd 0x0B ea
      else .ok ()

/-- The shape record, when SHAPE is aligned and in the configured scratchpad. -/
def State.shapeDws (s : State) (rec : List Word) : Except Stop (Option (List Word)) :=
  let a := bits (dw rec 1) 23 0
  if a % 64 ≠ 0 ∨ (s.extentBad s.focus a 64).isSome then .ok none
  else match s.recordDws a with | .ok w => .ok (some w) | .error e => .error e

/-- SGO (R223). -/
def execSgo (px : List Prefix) (s : BitVec 6) (w1 : W1) (st : State) : Out :=
  runInstr (.sgo px s w1) st (fun _ st => st.seIssue
    (match st.recordAt px s with
    | .error e => .error e
    | .ok ea =>
      match st.recordDws ea with
      | .error e => .error e
      | .ok rec =>
        match st.shapeDws rec with
        | .error e => .error e
        | .ok sh =>
          match st.sgoCheck rec (sh.getD []) sh.isSome (BitVec.ofNat 64 ea) with
          | .error e => .error e
          | .ok _ => .ok (.sgo ⟨rec, sh.getD [], st.core.lid, 0, (Instr.sgo px s w1).siteWords⟩)) (specSteps s))

/-- SPEEK (R225). -/
def execSpeek (px : List Prefix) (s : BitVec 6) (w1 : W1) (st : State) : Out :=
  runInstr (.speek px s w1) st (fun _ st =>
    let f := st.core.sbuf (w1.aux.extractLsb' 0 3)
    let n := f.coreCount
    match st.writeOp (ctxLong px s) s (if n = 0 then 0 else BitVec.ofNat 64 (f.base + f.slotBytes * f.head)) with
    | .error e => .error e
    | .ok t => .ok ((t.setZ (decide (n = 0))).post st (specSteps s)))

/-- SFREE: slots pass to the engine's side at once (R225). -/
def execSfree (px : List Prefix) (s : BitVec 6) (w1 : W1) (st : State) : Out :=
  runInstr (.sfree px s w1) st (fun _ st =>
    match st.readOp (ctxLong px s) s with
    | .error e => .error e
    | .ok n =>
      let b := w1.aux.extractLsb' 0 3
      let f := st.core.sbuf b
      if n = 0 ∨ f.coreCount < n.toNat ∨ ¬ f.cfg then trapAt 0x07 0x25 n
      else
        let g := f.freeSlots n.toNat
        .ok ((st.putBuf st.focus b.toNat g (decide (0 < g.coreCount))).post st (specSteps s)))

/-- The stream engine's own state as SCNT reads it (R225). -/
def Se.word (e : Se) : Word :=
  let q := BitVec.ofNat 64 (min 3 e.queue.length)
  match e.cur with
  | none => q
  | some c =>
    let d := dw c.record 0
    BitVec.ofNat 64 (bits d 63 48 * 256 + bits d 34 32 * 32 + bits d 35 35 * 16 + (if e.susp then 8 else 0) + 4) ||| q

/-- SCNT (R225). -/
def execScnt (px : List Prefix) (s : BitVec 6) (w1 : W1) (st : State) : Out :=
  runInstr (.scnt px s w1) st (fun _ st =>
    let r := if w1.aux.extractLsb' 3 2 = 0#2 then (st.core.sbuf (w1.aux.extractLsb' 0 3)).status else st.core.se.word
    match st.writeOp (ctxLong px s) s r with
    | .error e => .error e
    | .ok t => .ok (t.post st (specSteps s)))

/-! ### Events -/

/-- SBUF_PERFORM: buffer b takes the descriptor's fields; a buffer that the core fills is pended (R222, R224). -/
def execSbufPerform (sid : Nat) (s : State) : Out :=
  let c := s.coreAt sid
  match c.se.cur, c.se.queue with
  | none, .sbuf b d lid :: rest =>
    if !s.engRuns sid then notEnabled "SBUF_PERFORM"
    else
      let f := sbufOf d lid
      .next ((s.setCore sid { c with se := { c.se with queue := rest } }).putBuf sid b.toNat f (f.cfg && f.dir))
  | _, _ => notEnabled "SBUF_PERFORM"

/-- SGO_START: a queued SGO starts (R223). -/
def execSgoStart (sid : Nat) (s : State) : Out :=
  let c := s.coreAt sid
  match c.se.cur, c.se.queue with
  | none, .sgo g :: rest =>
    if !s.engRuns sid then notEnabled "SGO_START"
    else .next (s.setCore sid { c with se := { c.se with queue := rest, cur := some g, susp := false }, setlb := [] })
  | _, _ => notEnabled "SGO_START"

/-- Elements of a shape. -/
def shapeCount (sh : List Word) : Nat :=
  bits (dw sh 1) 31 0 * bits (dw sh 1) 63 32 * bits (dw sh 2) 31 0 * bits (dw sh 2) 63 32

/-- The address of the e-th element of the walk (R223). -/
def shapeAddr (sh : List Word) (e : Nat) : Int :=
  let e0 := bits (dw sh 1) 31 0
  let e1 := bits (dw sh 1) 63 32
  let e2 := bits (dw sh 2) 31 0
  (bits (dw sh 0) 47 0 : Int) + (e % e0 * shapeEsz sh : Nat) + (e / e0 % e1 : Nat) * (dw sh 3).toInt +
    (e / (e0 * e1) % e2 : Nat) * (dw sh 4).toInt + (e / (e0 * e1 * e2) : Nat) * (dw sh 5).toInt

/-- `n` elements from the e-th read, packed, lowest first. -/
def State.streamRead (s : State) (sid : Nat) (sh : List Word) (e : Nat) : Nat → State × Except EStop Nat
  | 0 => (s, .ok 0)
  | n + 1 =>
    let a := shapeAddr sh e
    let z := shapeEsz sh
    if a < 0 then (s, .error (.ended 0x20))
    else
      match s.engLoad .stream sid a.toNat z with
      | (s1, .error x) => (s1, .error x)
      | (s1, .ok v) =>
        match s1.streamRead sid sh (e + 1) n with
        | (s2, .error x) => (s2, .error x)
        | (s2, .ok r) => (s2, .ok (v + 256 ^ z * r))

/-- `n` elements from the e-th written from packed bytes. -/
def State.streamWrite (s : State) (sid : Nat) (sh : List Word) (e v : Nat) : Nat → State × Except EStop Unit
  | 0 => (s, .ok ())
  | n + 1 =>
    let a := shapeAddr sh e
    let z := shapeEsz sh
    if a < 0 then (s, .error (.ended 0x20))
    else
      match s.engStore .stream sid a.toNat z (2 ^ z - 1) (v % 256 ^ z) with
      | (s1, .error x) => (s1, .error x)
      | (s1, .ok _) => s1.streamWrite sid sh (e + 1) (v / 256 ^ z) n

/-- The running command of a stream engine ends: its completion, unless NOMSG (R226). -/
def State.sgoEnd (s : State) (sid : Nat) (g : SgoCmd) (status : BitVec 8) : State :=
  let c := s.coreAt sid
  let s1 := s.setCore sid { c with se := { c.se with cur := none, susp := false }, setlb := [] }
  let d := dw g.record 0
  if d.getLsbD 41 then s1
  else s1.engineDone sid (BitVec.ofNat 6 (bits d 47 42)) g.lid
    [BitVec.ofNat 64 (bits d 63 48 * 2 ^ 48 + status.toNat * 2 ^ 40 + g.done % 2 ^ 32)]

/-- A stop of the stream engine in a slot begun in `s`: suspension at the start of the slot, the command's end (R226), or the wait
for a host before the slot. -/
def State.streamStop (t s : State) (sid : Nat) (g : SgoCmd) (e : EStop) : Out :=
  match e with
  | .recall line inv => s.awaitFor "STREAM_SLOT" line inv (.stream sid)
  | .ended st => .next (t.sgoEnd sid g st)
  | .pause f need va =>
    let c := t.coreAt sid
    .next ((t.setCore sid { c with se := { c.se with susp := true } }).agentFault sid 3 (bits (dw g.record 0) 63 48) 0 0 0 g.lid
      g.words f need va)

/-- The buffer after the engine has filled or drained a slot (R224). -/
def SBuf.engineSlot (f : SBuf) : SBuf :=
  let t := (f.tail + 1) % max 1 f.slots
  if f.dir then { f with tail := t, filled := f.filled - 1, free := f.free + 1 }
  else { f with tail := t, free := f.free - 1, filled := f.filled + 1 }

/-- The state after a slot: counts, pend, and the command's progress or end. -/
def State.slotDone (s : State) (sid : Nat) (g : SgoCmd) (b : Nat) (f : SBuf) (last : Bool) : State :=
  let f1 := f.engineSlot
  let s1 := s.putBuf sid b f1 (decide (f.coreCount = 0))
  let g1 := { g with done := g.done + 1 }
  let c := s1.coreAt sid
  let s2 := s1.setCore sid { c with se := { c.se with cur := some g1 } }
  if last then s2.sgoEnd sid g1 0x00 else s2

/-- STREAM_SLOT: the engine fills or drains one slot whole (R224), or stops before it (R226). -/
def execStreamSlot (sid : Nat) (s : State) : Out :=
  let c := s.coreAt sid
  match c.se.cur with
  | none => notEnabled "STREAM_SLOT"
  | some g =>
    let b := bits (dw g.record 0) 34 32
    let f := c.se.bufs.toList.getD b SBuf.zero
    let z := shapeEsz g.shape
    let total := shapeCount g.shape
    let per := f.slotBytes / z
    let e := g.done * per
    let n := min per (total - e)
    if !s.engRuns sid || c.se.susp || !f.cfg || decide ((if f.dir then f.filled else f.free) = 0) || decide (total ≤ e) then
      notEnabled "STREAM_SLOT"
    else
      let key := clusterOf sid * 16777216 + (f.base + f.slotBytes * f.tail)
      let last := decide (total ≤ e + per)
      if f.dir then
        match if s.storeBad key (n * z) then (s, .error (.ended 0x11))
            else s.streamWrite sid g.shape e (s.spad.readLE key (n * z)) n with
        | (s1, .error x) => s1.streamStop s sid g x
        | (s1, .ok _) => .next (s1.slotDone sid g b f last)
      else
        match s.streamRead sid g.shape e n with
        | (s1, .error x) => s1.streamStop s sid g x
        | (s1, .ok v) => .next ((s1.putWhole key f.slotBytes v).slotDone sid g b f last)

end Sys2Proof.Machine
end

