-- ==== Sys2Proof/Machine/BulkCopy.lean ====
section
/-! DEFINITION. Bulk copy (R228 to R232): CPGO, CPST, and the work of the dike dies' engines. -/

namespace Sys2Proof.Machine

/-! ### The record (R228) -/

/-- ZF. -/
def cpZf (ws : List Word) : Bool := (dw ws 0).getLsbD 31
/-- SRC. -/
def cpSrc (ws : List Word) : Nat := bits (dw ws 1) 47 0
/-- DST. -/
def cpDst (ws : List Word) : Nat := bits (dw ws 2) 47 0
/-- LEN. -/
def cpLen (ws : List Word) : Nat := bits (dw ws 3) 31 0
/-- ROWS. -/
def cpRows (ws : List Word) : Nat := bits (dw ws 3) 63 32
/-- SPITCH. -/
def cpSp (ws : List Word) : Nat := bits (dw ws 4) 47 0
/-- DPITCH. -/
def cpDp (ws : List Word) : Nat := bits (dw ws 5) 47 0

/-- Whether some row of an extent meets [lo, hi). -/
def extentMeets (start pitch len rows lo hi : Nat) : Bool :=
  let r0 := if lo < start + len then 0 else if pitch = 0 then rows else (lo - start - len) / pitch + 1
  decide (r0 < rows ∧ start + r0 * pitch < hi ∧ lo < start + r0 * pitch + len)

/-- Whether the source and the destination extents share a byte (R229, order 4). -/
def cpOverlap (ws : List Word) : Bool :=
  !cpZf ws && (List.range (cpRows ws)).any fun r =>
    extentMeets (cpSrc ws) (cpSp ws) (cpLen ws) (cpRows ws) (cpDst ws + r * cpDp ws) (cpDst ws + r * cpDp ws + cpLen ws)

/-- The end of an extent. -/
def cpEnd (start pitch len rows : Nat) : Nat := start + (rows - 1) * pitch + len

/-- The checks of a CPGO record (R229, R308). -/
def State.cpCheck (s : State) (ws : List Word) (ea : Word) : Except Stop Unit :=
  let d := dw ws
  let dk := bits (d 0) 35 32
  let len := cpLen ws
  let rows := cpRows ws
  if bits (d 0) 30 0 ≠ 0 ∨ bits (d 1) 63 48 ≠ 0 ∨ bits (d 2) 63 48 ≠ 0 ∨ bits (d 4) 63 48 ≠ 0 ∨ bits (d 5) 63 48 ≠ 0 ∨
      d 6 ≠ 0 ∨ d 7 ≠ 0 ∨ 6 ≤ bits (d 0) 38 36 ∨ (12 ≤ dk ∧ dk < 15) ∨ (cpZf ws ∧ (cpSrc ws ≠ 0 ∨ cpSp ws ≠ 0))
    then trapAt 0x07 0x27 ea
  else
    match s.chanCheck (BitVec.ofNat 6 (bits (d 0) 47 42)) 0x27 ea with
    | .error e => .error e
    | .ok _ =>
      if cpSrc ws % 16 ≠ 0 ∨ cpDst ws % 16 ≠ 0 ∨ len % 16 ≠ 0 ∨ cpSp ws % 16 ≠ 0 ∨ cpDp ws % 16 ≠ 0 ∨ len = 0 ∨ rows = 0 ∨
          (1 < rows ∧ (cpDp ws < len ∨ (¬ cpZf ws ∧ cpSp ws < len))) ∨
          2 ^ 48 < cpEnd (cpDst ws) (cpDp ws) len rows ∨ (¬ cpZf ws ∧ 2 ^ 48 < cpEnd (cpSrc ws) (cpSp ws) len rows)
        then ecmd 0x09 ea
      else if extentMeets (cpDst ws) (cpDp ws) len rows 0x7F0000000000 0x7F0001000000 ∨
          (¬ cpZf ws ∧ extentMeets (cpSrc ws) (cpSp ws) len rows 0x7F0000000000 0x7F0001000000)
        then ecmd 0x0A ea
      else if cpOverlap ws then ecmd 0x0D ea
      else .ok ()

/-- The dike die of a command (R228): named, or the home of the first destination byte. A byte of the remote window has no home on a
dike die and R228 names none for it: the model takes die 3d of the polder die d of the core that the address names, and of the
issuing core for a local-window address (log 82). -/
def State.cpDie (s : State) (ws : List Word) : State × Except Stop Nat :=
  let dk := bits (dw ws 0) 35 32
  if dk ≠ 15 then (s, .ok dk)
  else
    let va := cpDst ws
    if 0x7E0000000000 ≤ va ∧ va < 0x800000000000 then
      (s, .ok (3 * dieOf (if va < 0x7E1000000000 then va / 16777216 % 4096 else s.focus)))
    else
      match s.translate s.focus va .write with
      | (s1, .error f) => (s1, .error (xlatStop f 0 .write s.focus va none))
      | (s1, .ok x) => (s1, .ok (if pteHp x.leaf = 4 then 3 * dieOf s.focus else homeOfLine (lineOf x.pa)))

/-- Commands of a partition accepted at a dike die and not yet taken (R229). -/
def State.cpWaiting (s : State) (dk part : Nat) : Nat :=
  (s.bulks.filter fun b => decide (b.dk = dk ∧ b.part = part) && !b.taken && b.status.isNone).length

/-- The next sequence number: from 1, skipping 0 (R229). -/
def nextTicket (n : BitVec 32) : BitVec 32 := if n + 1 = 0 then 1 else n + 1

/-- A ticket (R229). -/
def ticketWord (dk part : Nat) (seq : Nat) : Word := BitVec.ofNat 64 (dk * 2 ^ 48 + part * 2 ^ 41 + seq % 2 ^ 32)

/-- CPGO (R229). The record of an ended command whose sequence number comes round again gives way. -/
def execCpgo (px : List Prefix) (s : BitVec 6) (w1 : W1) (st : State) : Out :=
  runInstr (.cpgo px s w1) st (fun _ st =>
    match st.recordAt px s with
    | .error e => .error e
    | .ok ea =>
      match st.recordDws ea with
      | .error e => .error e
      | .ok ws =>
        match st.cpCheck ws (BitVec.ofNat 64 ea) with
        | .error e => .error e
        | .ok _ =>
          match st.cpDie ws with
          | (_, .error e) => .error e
          | (t, .ok dk) =>
            let p := t.partOf t.focus
            if 16 ≤ t.cpWaiting dk p then .ok (((t.setA 0).setZ true).post st (specSteps s))
            else
              let n := nextTicket (getAt 0 t.tickets (dk * 128 + p))
              let u : State := { t with
                tickets := setAt t.tickets (dk * 128 + p) n
                bulks := (t.bulks.filter fun b => !(decide (b.dk = dk ∧ b.part = p ∧ b.seq = n.toNat) && b.status.isSome)) ++
                  [⟨dk, p, n.toNat, t.focus, t.core.lid, ws, false, false, [], 0, none, (Instr.cpgo px s w1).siteWords, false, []⟩] }
              .ok (((u.setA (ticketWord dk p n.toNat)).setZ false).post st (specSteps s)))

/-- Whether a ticket is among the last 256 of its dike die and partition (R231); the count from a sequence number to a smaller one
passes 0, which is none. -/
def State.ticketKept (s : State) (dk part : Nat) (seq : BitVec 32) : Bool :=
  let last := getAt 0 s.tickets (dk * 128 + part)
  decide ((last - seq).toNat < (if last.toNat < seq.toNat then 257 else 256))

/-- The newest bulk command of a dike die by its ticket. -/
def State.bulkAt (s : State) (dk part seq : Nat) : Option Bulk :=
  s.bulks.reverse.find? fun b => decide (b.dk = dk ∧ b.part = part ∧ b.seq = seq)

/-- What CPST reports of a ticket to a partition (R231). -/
def State.cpState (s : State) (part : Nat) (t : Word) : Word :=
  let unknown : Word := 0x0400000000000000
  if bits t 63 52 ≠ 0 ∨ bits t 40 32 ≠ 0 ∨ bits t 47 41 ≠ part then unknown
  else
    match s.bulkAt (bits t 51 48) part (bits t 31 0) with
    | none => unknown
    | some b =>
      if !s.ticketKept b.dk part (t.extractLsb' 0 32) then unknown
      else
        match b.status with
        | none => BitVec.ofNat 64 ((if b.taken then 1 else 0) * 2 ^ 56 + b.written % 2 ^ 40)
        | some x => BitVec.ofNat 64 ((if x = 0 then 2 else 3) * 2 ^ 56 + x.toNat * 2 ^ 48 + b.written % 2 ^ 40)

/-- CPST (R231). -/
def execCpst (px : List Prefix) (s : BitVec 6) (w1 : W1) (st : State) : Out :=
  runInstr (.cpst px s w1) st (fun _ st =>
    match st.readOp (ctxS px s 8) s with
    | .error e => .error e
    | .ok t =>
      match st.writeResult px s 8 (st.cpState (st.partOf st.focus) t) with
      | .error e => .error e
      | .ok u => .ok (u.post st (stepsSD px s)))

/-! ### The engines (R230) -/

/-- The first waiting command of a dike die whose partition runs, taken (R230). -/
def takeBulk (ok : Bulk → Bool) : List Bulk → Option (List Bulk)
  | [] => none
  | b :: t =>
    if ok b then some ({ b with taken := true } :: t)
    else match takeBulk ok t with | some r => some (b :: r) | none => none

/-- Whether a command's context is live and its partition runs: otherwise it waits on the dike die (R230). -/
def State.bulkLive (s : State) (b : Bulk) : Bool := !b.away && !(s.part b.part).stopped

/-- The commands that the four engines of a dike die have: the oldest taken ones of running partitions (R230; log 49). -/
def State.engineBulks (s : State) (dk : Nat) : List Bulk :=
  (s.bulks.filter fun b => decide (b.dk = dk) && b.taken && b.status.isNone && s.bulkLive b).take 4

/-- Whether a command's completion is a release (R228). -/
def Bulk.rel (b : Bulk) : Bool := (dw b.dws 0).getLsbD 39

/-- Whether some write of a partition's commands has not been performed yet (R180). -/
def State.lateWrites (s : State) (part : Nat) : Bool := s.bulks.any fun b => decide (b.part = part) && !b.late.isEmpty

/-- BULK_COPY_TAKE: one of four engines takes the oldest accepted command, of a partition that runs (R230; log 49). One whose
completion is a release follows the writes of those before it (R180; log 79). -/
def execBulkCopyTake (dk : Nat) (s : State) : Out :=
  let next := fun (b : Bulk) => decide (b.dk = dk) && !b.taken && b.status.isNone && s.bulkLive b
  if 4 ≤ (s.engineBulks dk).length ∨ (s.bulks.find? next).any fun b => b.rel && s.lateWrites b.part then notEnabled "BULK_COPY_TAKE"
  else
    match takeBulk next s.bulks with
    | some l => .next { s with bulks := l }
    | none => notEnabled "BULK_COPY_TAKE"

/-- A bulk command replaced. -/
def State.putBulk (s : State) (b : Bulk) : State :=
  { s with bulks := s.bulks.map fun x => if x.dk = b.dk ∧ x.part = b.part ∧ x.seq = b.seq then b else x }

/-- A command ends: its completion, unless NOMSG (R231). -/
def State.bulkEnd (s : State) (b : Bulk) (status : BitVec 8) : State :=
  let s1 := s.putBulk { b with status := some status, paused := false }
  let d := dw b.dws 0
  if d.getLsbD 41 then s1
  else
    let q := s1.free
    let ch := doneChan (BitVec.ofNat 6 (bits d 47 42))
    q.2.note (8704 + b.dk) b.sid ch (mkHdr (srcId b.sid) b.part ch 0 2 b.lid (q.1.extractLsb' 0 16))
      [BitVec.ofNat 64 (bits d 63 48 * 2 ^ 48 + status.toNat * 2 ^ 40 + b.written % 2 ^ 40), ticketWord b.dk b.part b.seq]

/-- Whether an offset of a row begins a piece (R230). -/
def pieceStart (ws : List Word) (row off : Nat) : Bool :=
  decide (row < cpRows ws ∧ off < cpLen ws ∧ off % 16 = 0) &&
  (decide (off = 0) || decide ((cpDst ws + row * cpDp ws + off) % 4096 = 0) ||
    (!cpZf ws && decide ((cpSrc ws + row * cpSp ws + off) % 4096 = 0)))

/-- A piece's length. -/
def pieceLen (ws : List Word) (row off : Nat) : Nat :=
  let d := 4096 - (cpDst ws + row * cpDp ws + off) % 4096
  let s := if cpZf ws then 4096 else 4096 - (cpSrc ws + row * cpSp ws + off) % 4096
  min (cpLen ws - off) (min d s)

/-- Where a checked address of a piece lies, moved on by a number of bytes. -/
def ESpot.plus : ESpot → Nat → ESpot
  | .spad k, n => .spad (k + n)
  | .phys pa l, n => .phys (pa + n) l

/-- A part read: the home's value, or through the directory with ACQ (R181); what a device page gives is free (R366; log 17). -/
def State.partRead (s : State) (acq : Bool) : ESpot → State × Nat
  | .spad k => (s, s.spad.readLE k 16)
  | .phys pa leaf =>
    if ptePol leaf = 2 then s.deviceRead 16
    else if acq then (s.lower (lineOf pa), s.mem.readLE pa 16) else (s, s.home.readLE pa 16)

/-- A part written: at its home (R181, R230), where a command whose completion is no release leaves the write for later (`late`), since
nothing orders it for another activation (R180; log 79); in a cluster store, at once. -/
def State.partWrite (s : State) (late : Option Nat) (v : Nat) : ESpot → State × List LatePart
  | .spad k => (s.putWhole k 16 v, [])
  | .phys pa _ =>
    match late with
    | some piece => (s, [⟨piece, pa, BitVec.ofNat 128 v⟩])
    | none => (s.storeHome pa 16 65535 v, [])

/-- The status with which a part that meets poison ends its command (R231): at the home, or, with ACQ, where an owner's copy is not
newer (R248). -/
def State.partBad (s : State) (acq : Bool) : ESpot → Option (BitVec 8)
  | .spad k => if s.storeBad k 16 then some 0x11 else none
  | .phys pa _ =>
    if s.poisoned pa 16 || (if acq then s.sourAt none (lineOf pa) else (s.tagOf (lineOf pa)).any (·.bad)) then some (poisonCause pa)
    else none

/-- The parts of a piece copied, up to one that meets poison: the late writes, the bytes written, and the status that ends the
command there. -/
def State.copyParts (s : State) (src : Option ESpot) (dst : ESpot) (acq : Bool) (late : Option Nat) :
    Nat → State × List LatePart × Nat × Option (BitVec 8)
  | 0 => (s, [], 0, none)
  | n + 1 =>
    match src.bind (s.partBad acq) with
    | some st => (s, [], 0, some st)
    | none =>
      let q := match src with | some x => s.partRead acq x | none => (s, 0)
      let w := q.1.partWrite late q.2 dst
      let r := w.1.copyParts (src.map (·.plus 16)) (dst.plus 16) acq late n
      (r.1, w.2 ++ r.2.1, r.2.2.1 + 16, r.2.2.2)

/-- The lines of a piece of `len` bytes at a place. -/
def ESpot.lines (x : ESpot) (len : Nat) : List Nat :=
  match x with
  | .spad _ => []
  | .phys pa _ => (List.range (lineOf (pa + len - 1) + 1 - lineOf pa)).map (lineOf pa + ·)

/-- The host answers that a piece needs first (R253). -/
def State.pieceStops (s : State) (src : Option ESpot) (dst : ESpot) (len : Nat) : List (Nat × Bool) :=
  (match src with | some x => (x.lines len).map fun l => (l, false) | none => []) ++ (dst.lines len).flatMap s.writeStops

/-- The late writes of a piece performed at their homes (R180; log 79), once hosts have answered for their lines; the command may have
ended. -/
def State.landPiece (s : State) (b : Bulk) (piece : Nat) : Out :=
  let now := b.late.filter fun x => decide (x.piece = piece)
  s.atHome "BULK_COPY_PIECE" true (now.flatMap fun x => s.writeStops (lineOf x.addr))
    ((now.foldl (fun t x => t.storeHome x.addr 16 65535 x.value.toNat) s).putBulk
      { b with late := b.late.filter fun x => decide (x.piece ≠ piece) })

/-- BULK_COPY_PIECE: one piece is translated, source and destination, then read and written; a translation fault pauses
the command before the piece (R230). A piece is named by row · 2^32 + offset. It is copied in
one step (log 49); naming it again performs its late writes. -/
def execBulkCopyPiece (dk part ticket piece : Nat) (s : State) : Out :=
  match s.bulkAt dk part ticket with
  | none => notEnabled "BULK_COPY_PIECE"
  | some b =>
    let row := piece / 2 ^ 32
    let off := piece % 2 ^ 32
    if b.late.any fun x => decide (x.piece = piece) then s.landPiece b piece
    else if !(s.engineBulks dk).contains b || b.paused || !pieceStart b.dws row off || b.pieces.contains piece then
      notEnabled "BULK_COPY_PIECE"
    else
      let len := pieceLen b.dws row off
      let sva := cpSrc b.dws + row * cpSp b.dws + off
      let dva := cpDst b.dws + row * cpDp b.dws + off
      let await := fun (t : State) (x : Nat × Bool) => t.awaitFor "BULK_COPY_PIECE" x.1 x.2 (.bulk b.dk b.part b.seq)
      let stop := fun (t : State) (e : EStop) => match e with
        | .recall line inv => await s (line, inv)
        | .ended x => .next (t.bulkEnd b x)
        | .pause f need va => .next
          ((t.putBulk { b with paused := true }).agentFault b.sid 4 0 0 b.dk (ticketWord b.dk b.part b.seq).toNat b.lid b.words f
            need va)
      let srcR := if cpZf b.dws then (s, Except.ok none)
        else match s.engSpot (.bulk b.dk) b.sid .read sva len with
          | (t, .ok x) => (t, .ok (some x))
          | (t, .error e) => (t, .error e)
      match srcR with
      | (s1, .error e) => stop s1 e
      | (s1, .ok src) =>
        match s1.engSpot (.bulk b.dk) b.sid .write dva len with
        | (s2, .error e) => stop s2 e
        | (s2, .ok dst) =>
          match s2.hostBlock (s2.pieceStops src dst len) with
          | some x => await s2 x
          | none =>
            let r := s2.copyParts src dst ((dw b.dws 0).getLsbD 40) (if b.rel then none else some piece) (len / 16)
            let b1 := { b with pieces := b.pieces ++ [piece], written := b.written + r.2.2.1, late := b.late ++ r.2.1 }
            let t := r.1.putBulk b1
            match r.2.2.2 with
            | some st => .next (t.bulkEnd b1 st)
            | none => if b1.written = cpLen b.dws * cpRows b.dws then .next (t.bulkEnd b1 0x00) else .next t

end Sys2Proof.Machine
end

