-- ==== Sys2Proof/Machine/Message.lean ====
section
/-! DEFINITION. Messages and the host interrupt: SEND, BCAST, WRS, PSEND (R305 to R313), TRIG (R315) and HINT (R319). -/

namespace Sys2Proof.Machine

/-! ### Destinations (R278, R305, R307) -/

/-- The payload of LEN doublewords from slot FS, captured at issue; slot numbers are not renamed (R300). -/
def State.payloadAt (s : State) (fs len : Nat) : List Word := s.core.r.m.toList.drop fs |>.take len

/-- The SID a destination field names; none when SVC = 1 and bits [63:59] are not zero. -/
def destSid (w : Word) : Option Nat :=
  if w.getLsbD 33 then (if bits w 63 59 = 0 then some (svcOf (bits w 58 52)) else none) else some (bits w 63 52)

/-- Order 8 of R307: the destination lies in the sender's partition; a SIDE 1 core is no destination (R417). -/
def State.memberCheck (s : State) (d : Nat) (w : Word) : Except Stop Unit :=
  if s.partOfTile (tileOf d) ≠ s.partOfTile (tileOf s.focus) then trapAt 0x0C 0x00 w
  else if s.paired (s.partOf s.focus) && !isSvc d && sideOne d then trapAt 0x0C 0x03 w
  else .ok ()

/-- Order 7 of R307. -/
def State.sendChan (s : State) (ch : BitVec 6) (w : Word) : Except Stop Unit :=
  if 56 ≤ ch.toNat ∧ ¬ s.priv then trapAt 0x03 0x10 w else .ok ()

/-- Message entries of the region buffer in use: buffered, and published but not acknowledged (R281). -/
def Core.msgUsed (c : Core) : Nat :=
  (c.buf.filter fun e => match e with | .msg _ => true | _ => false).length + c.held.length

/-- Whether the region holds a message. -/
def Core.hasMsg (c : Core) : Bool := c.buf.any fun e => match e with | .msg _ => true | _ => false

/-- A message entry taken (R281): with none free, the region commits if it holds a message, and then waits. -/
def State.takeEntry (s : State) (e : MsgEntry) : Except Stop State :=
  if 32 ≤ s.core.msgUsed then (if s.core.hasMsg then .error .commitFirst else .error .wait)
  else .ok { s with core := { s.core with buf := s.core.buf ++ [.msg e] } }

/-- Orders 4 of R307: the length and the slots. -/
def lenCheck (w : Word) : Except Stop Unit :=
  if 8 < bits w 42 39 ∨ 32 < bits w 38 34 + bits w 42 39 then trapAt 0x07 0x41 w else .ok ()

/-! ### SEND (R305, R309) -/

/-- The checks of a SEND word (R307); the receiver. -/
def State.sendCheck (s : State) (w : Word) : Except Stop Nat :=
  match destSid w with
  | none => trapAt 0x07 0x40 w
  | some d =>
    if bits w 32 0 ≠ 0 then trapAt 0x07 0x40 w
    else
      match lenCheck w with
      | .error e => .error e
      | .ok _ =>
        if (1 ≤ bits w 45 43 ∧ bits w 45 43 ≤ 3) ∨ (4 ≤ bits w 45 43 ∧
            ¬ ((s.part (s.partOf s.focus)).rcls.toList.getD (bits w 45 43 - 4) 0).getLsbD 8)
          then trapAt 0x07 0x42 w
        else
          match s.sendChan (w.extractLsb' 46 6) w, s.memberCheck d w with
          | .error e, _ => .error e
          | _, .error e => .error e
          | .ok _, .ok _ => .ok d

/-- SEND (R309). -/
def execSend (px : List Prefix) (s : BitVec 6) (w1 : W1) (st : State) : Out :=
  runInstr (.send px s w1) st (fun _ st =>
    match st.readOp (ctxLong px s) s with
    | .error e => .error e
    | .ok w =>
      match st.sendCheck w with
      | .error e => .error e
      | .ok d =>
        match st.takeEntry ⟨.send, [d], w.extractLsb' 46 6, w.extractLsb' 43 3,
            st.payloadAt (bits w 38 34) (bits w 42 39), w⟩ with
        | .error e => .error e
        | .ok t => .ok (t.post st (specSteps s)))

/-! ### BCAST (R310) -/

/-- The receivers of a BCAST in the gang at (ox, oy) of shape 2^gwl × 2^ghl. -/
def State.bcastDests (s : State) (x : Seat) (ox oy gwl ghl : Nat) (w : Word) : List Nat :=
  let span := bits w 55 54
  let all := (List.range (2 ^ ghl)).flatMap fun j => (List.range (2 ^ gwl)).filterMap fun i =>
    let rx := ox + i
    let ry := oy + j
    let me := decide (rx = x.rx.toNat ∧ ry = x.ry.toNat)
    if (span = 0 ∧ ry ≠ x.ry.toNat) ∨ (span = 1 ∧ rx ≠ x.rx.toNat) ∨ (me ∧ ¬ w.getLsbD 53) then none
    else some (s.relSid s.focus x rx ry)
  all

/-- The checks of a BCAST word (R307); the receivers. -/
def State.bcastCheck (s : State) (w : Word) : Except Stop (List Nat) :=
  if w.getLsbD 52 ∨ bits w 45 43 ≠ 0 ∨ bits w 33 0 ≠ 0 ∨ bits w 55 54 = 3 then trapAt 0x07 0x40 w
  else
    match lenCheck w with
    | .error e => .error e
    | .ok _ =>
      match gangOrigin s.core.seat (bits w 63 60) (bits w 59 56) with
      | .error g => gangTrap g w
      | .ok (x, ox, oy) =>
        match s.sendChan (w.extractLsb' 46 6) w with
        | .error e => .error e
        | .ok _ => .ok (s.bcastDests x ox oy (bits w 63 60) (bits w 59 56) w)

/-- BCAST (R310). -/
def execBcast (px : List Prefix) (s : BitVec 6) (w1 : W1) (st : State) : Out :=
  runInstr (.bcast px s w1) st (fun _ st =>
    match st.readOp (ctxLong px s) s with
    | .error e => .error e
    | .ok w =>
      match st.bcastCheck w with
      | .error e => .error e
      | .ok ds =>
        match st.takeEntry ⟨.bcast, ds, w.extractLsb' 46 6, BitVec.ofNat 3 (bits w 55 54 + 1),
            st.payloadAt (bits w 38 34) (bits w 42 39), w⟩ with
        | .error e => .error e
        | .ok t => .ok (t.post st (specSteps s)))

/-! ### WRS (R311) -/

/-- The checks of a deposit word (R307); the receiver. -/
def State.wrsCheck (s : State) (w : Word) : Except Stop Nat :=
  match destSid w with
  | none => trapAt 0x07 0x40 w
  | some d =>
    if bits w 48 34 ≠ 0 ∨ bits w 32 0 ≠ 0 then trapAt 0x07 0x40 w
    else
      match s.memberCheck d w with
      | .error e => .error e
      | .ok _ => .ok d

/-- WRS (R311). -/
def execWrs (px : List Prefix) (s : BitVec 6) (w1 : W1) (st : State) : Out :=
  runInstr (.wrs px s w1) st (fun _ st =>
    match st.readOp (ctxLong px s) s, st.firstOperand px s 8 with
    | .error e, _ => .error e
    | _, .error e => .error e
    | .ok w, .ok v =>
      match st.wrsCheck w with
      | .error e => .error e
      | .ok d =>
        match st.takeEntry ⟨.wrs, [d], 0, 0, [v], w⟩ with
        | .error e => .error e
        | .ok t => .ok (t.post st (stepsSD px s)))

/-! ### PSEND (R312) -/

/-- The checks of a peer word (R307). -/
def State.psendCheck (s : State) (w : Word) : Except Stop Unit :=
  if bits w 45 43 ≠ 0 ∨ bits w 33 0 ≠ 0 then trapAt 0x07 0x40 w
  else
    match lenCheck w with
    | .error e => .error e
    | .ok _ => if (s.peerRoute (s.partOf s.focus) (bits w 51 46)).getLsbD 63 then .ok () else trapAt 0x0C 0x01 w

/-- PSEND (R312). -/
def execPsend (px : List Prefix) (s : BitVec 6) (w1 : W1) (st : State) : Out :=
  runInstr (.psend px s w1) st (fun _ st =>
    match st.readOp (ctxLong px s) s with
    | .error e => .error e
    | .ok w =>
      match st.psendCheck w with
      | .error e => .error e
      | .ok _ =>
        match st.takeEntry ⟨.psend, [bits w 63 52], 59, 0, st.payloadAt (bits w 38 34) (bits w 42 39), w⟩ with
        | .error e => .error e
        | .ok t => .ok (t.post st (specSteps s)))

/-! ### TRIG (R315) -/

/-- TRIG: a core of a launch is marked as triggered. -/
def execTrig (px : List Prefix) (s : BitVec 6) (w1 : W1) (st : State) : Out :=
  runInstr (.trig px s w1) st (fun _ st =>
    .ok (if st.svc ∨ st.core.seat.isNone then st else st.upd fun c => { c with triggered := true }))

/-! ### HINT (R319, R391) -/

/-- HINT (R319): the vector is checked, the region commits, and the interrupt leaves. A table has 2,048 vectors (R389),
as many as v[10:0] names, so detail 0x46 is never raised. -/
def execHint (px : List Prefix) (s : BitVec 6) (w1 : W1) (st : State) : Out :=
  runEnqueue (.hint px s w1) st (fun st =>
    match st.readOp (ctxLong px s) s with
    | .error e => .error e
    | .ok v =>
      if bits v 63 11 ≠ 0 then trapAt 0x07 0x40 v
      else .ok (fun u => (u.raiseMsix (u.partOf u.focus) (bits v 10 0)).post u (specSteps s)))

end Sys2Proof.Machine
end

