-- ==== Sys2Proof/Machine/Launch.lean ====
section
/-! DEFINITION. Launches: the record and the image (R260 to R266), LAUNCH and the offer (R267, R314), the start (R268 to
R270), the placement of initial messages (R271), and the quiescence sweep with completion (R284, R285). -/

namespace Sys2Proof.Machine

/-! ### Fields of a launch record (R262, R263) -/

/-- X0. -/
def lcX0 (ws : List Word) : Nat := bits (dw ws 0) 4 0
/-- Y0. -/
def lcY0 (ws : List Word) : Nat := bits (dw ws 0) 12 8
/-- W. -/
def lcW (ws : List Word) : Nat := bits (dw ws 0) 20 16 + 1
/-- H. -/
def lcH (ws : List Word) : Nat := bits (dw ws 0) 28 24 + 1
/-- SPSZ. -/
def lcSpsz (ws : List Word) : BitVec 3 := (dw ws 0).extractLsb' 36 3
/-- PCLS. -/
def lcPcls (ws : List Word) : Nat := bits (dw ws 0) 44 43
/-- PRIO. -/
def lcPrio (ws : List Word) : Nat := bits (dw ws 0) 47 45
/-- LID. -/
def lcLid (ws : List Word) : BitVec 16 := (dw ws 0).extractLsb' 48 16
/-- CODE. -/
def lcCode (ws : List Word) : Nat := bits (dw ws 1) 47 0
/-- CLEN. -/
def lcClen (ws : List Word) : Nat := bits (dw ws 1) 63 48
/-- HTAB. -/
def lcHtab (ws : List Word) : Nat := bits (dw ws 2) 47 0
/-- PLD. -/
def lcPld (ws : List Word) : Nat := bits (dw ws 3) 47 0
/-- NINIT. -/
def lcNinit (ws : List Word) : Nat := bits (dw ws 3) 63 48
/-- NOCMP. -/
def lcNocmp (ws : List Word) : Bool := (dw ws 4).getLsbD 44
/-- CCH. -/
def lcCch (ws : List Word) : BitVec 6 := (dw ws 4).extractLsb' 46 6
/-- IML. -/
def lcIml (ws : List Word) : Nat := bits (dw ws 6) 19 16
/-- NPR. -/
def lcNpr (ws : List Word) : Nat := bits (dw ws 6) 15 12
/-- Queue depths log2: channel 0, channels 1 to 55, channels 56 to 63. -/
def lcQd (ws : List Word) : Nat × Nat × Nat := (bits (dw ws 6) 3 0, bits (dw ws 6) 7 4, bits (dw ws 6) 11 8)
/-- The producers named. -/
def lcPlids (ws : List Word) : List (BitVec 16) :=
  ((List.range 4).map fun i => (dw ws 5).extractLsb' (16 * i) 16).filter (· ≠ 0)
/-- The completion destination's SID (R278). -/
def lcDest (ws : List Word) : Nat := if (dw ws 4).getLsbD 45 then svcOf (bits (dw ws 4) 58 52) else bits (dw ws 4) 63 52

/-! ### The image (R264, R265) -/

/-- ENTRY of a handler entry. -/
def hdEntry (e : Word) : BitVec 28 := e.extractLsb' 36 28
/-- PRESET. -/
def hdPreset (e : Word) : Nat := bits e 23 0

/-- The persistent regions of an image as laid out (R265). -/
def layRegions : Nat → List Word → List PRegion
  | _, [] => []
  | b, d :: t => ⟨b, bits d 23 0, d.getLsbD 24⟩ :: layRegions (up64 (b + bits d 23 0)) t

/-- A cluster as a launch lays it out. -/
def Cluster.laid (c : Cluster) (ws : List Word) (regions : List PRegion) : Cluster :=
  { c with spsz := lcSpsz ws, regions := regions, qd := some (lcQd ws) }

/-- Order 5 of R266 on a handler entry: `room` says whether a PRESET record may lie at an address. -/
def entryBad (chan : Nat) (clen : Nat) (room : Nat → Bool) (e : Word) : Bool :=
  decide (bits e 35 32 ≠ 0 ∨ bits e 25 24 ≠ 0) ||
  (decide (chan ≠ 56) && decide ((hdEntry e).toNat % 2 = 1 ∨ 4096 * clen ≤ (hdEntry e).toNat)) ||
  !room (hdPreset e)

/-- Whether a 64-byte record at an address lies in the scratchpad of a layout, outside the queues (R265). -/
def Cluster.holds64 (c : Cluster) (a : Nat) : Bool :=
  decide (a % 64 = 0 ∧ a + 64 ≤ c.spadBytes ∧ (a + 64 ≤ c.persEnd ∨ c.queueEnd ≤ a))

/-- Order 5 of R266. -/
def imageBad (ws image : List Word) : Bool :=
  let descs := image.drop 64
  let lay := Cluster.zero.laid ws (layRegions 0 descs)
  decide (262144 < lay.persEnd ∨ lay.spadBytes < lay.queueEnd) ||
  (descs.any fun d => decide (bits d 63 25 ≠ 0 ∨ bits d 23 0 = 0 ∨ bits d 23 0 % 64 ≠ 0)) ||
  ((List.range 64).any fun c => entryBad c (lcClen ws) lay.holds64 (dw image c))

/-! ### The check and the offer (R266, R267, R314) -/

/-- The rectangle's cores by SID. -/
def rectSids (die : Nat) (ws : List Word) : List Nat :=
  (List.range (lcH ws)).flatMap fun j => (List.range (lcW ws)).map fun i => coreId die (lcX0 ws + i) (lcY0 ws + j)

/-- Orders 1 to 3 of R266. -/
def State.recordCheck (s : State) (ws : List Word) (ea : Word) : Except Stop Unit :=
  let d := dw ws
  let q := lcQd ws
  let part := s.partOfTile (tileOf s.focus)
  let die := dieOf s.focus
  let pair := s.paired (s.partOf s.focus)
  if bits (d 0) 35 29 ≠ 0 ∨ bits (d 0) 23 21 ≠ 0 ∨ bits (d 0) 15 13 ≠ 0 ∨ bits (d 0) 7 5 ≠ 0 ∨ bits (d 2) 63 48 ≠ 0 ∨
      bits (d 4) 43 0 ≠ 0 ∨ bits (d 6) 63 20 ≠ 0 ∨ d 7 ≠ 0 ∨ lcLid ws = 0 ∨ 5 ≤ bits (d 0) 42 40 ∨ lcSpsz ws = 7 ∨
      8 < lcIml ws ∨ 8 < q.1 ∨ 8 < q.2.1 ∨ 8 < q.2.2 ∨ (lcPlids ws).contains (lcLid ws) ∨
      (¬ lcNocmp ws ∧ (lcCch ws = 56 ∨ ((d 4).getLsbD 45 ∧ bits (d 4) 63 59 ≠ 0)))
    then trapAt 0x07 0x30 ea
  else if ¬ lcNocmp ws ∧ 58 ≤ (lcCch ws).toNat ∧ ¬ s.priv then trapAt 0x03 0x10 ea
  else if 32 < lcX0 ws + lcW ws ∨ 32 < lcY0 ws + lcH ws ∨ lcClen ws = 0 ∨ lcCode ws % 4096 ≠ 0 ∨ lcHtab ws % 64 ≠ 0 ∨
      lcPld ws % 64 ≠ 0 ∨ (pair ∧ (lcX0 ws % 2 = 1 ∨ lcW ws % 2 = 1))
    then trapAt 0x07 0x31 ea
  else if (rectSids die ws).any fun c => decide (s.partOfTile (tileOf c) ≠ part) then trapAt 0x0C 0x00 ea
  else if lcNocmp ws then .ok ()
  else if s.partOfTile (tileOf (lcDest ws)) ≠ part then trapAt 0x0C 0x00 ea
  else if pair && !isSvc (lcDest ws) && sideOne (lcDest ws) then trapAt 0x0C 0x03 ea
  else .ok ()

/-- `n` doublewords from an address, read as loads of the core in focus (R266 order 4). Launch-record addresses are translated
addresses: one in a window raises ADDR (R357; log 57). -/
def State.readImage (s : State) (va : Nat) : Nat → Except Stop (State × List Word)
  | 0 => .ok (s, [])
  | n + 1 =>
    if inWindows va then trapAt 0x0A 0x00 (BitVec.ofNat 64 va) else
    match s.loadGlobal true 0 false .scalar 8 (BitVec.ofNat 64 va) with
    | .error e => .error e
    | .ok (t, v) =>
      match t.readImage (va + 8) n with
      | .error e => .error e
      | .ok (u, l) => .ok (u, BitVec.ofNat 64 v :: l)

/-- The sequencer's answer to a launch of a partition (R267). -/
def State.offerCode (s : State) (part : Nat) (lid : BitVec 16) : Nat :=
  if s.launches.any fun l => decide (l.part = part ∧ l.lid = lid) then 2
  else if 16 ≤ (s.launches.filter fun l => decide (l.part = part) && !l.running).length then 1
  else 0

/-- The launches of a partition that bear a LID, by acceptance number. -/
def State.bearers (s : State) (part : Nat) (lid : BitVec 16) : List Nat :=
  (s.launches.filter fun l => decide (l.part = part ∧ l.lid = lid)).map (·.num)

/-- The offer of a checked launch (R267). -/
def State.offer (s : State) (words : BitVec 32) (ws image : List Word) : Nat × State :=
  let part := s.partOf s.focus
  let r := s.offerCode part (lcLid ws)
  if r ≠ 0 then (r, s)
  else
    (0, { s with
      nextLaunch := s.nextLaunch + 1
      launches := s.launches ++
        [{ num := s.nextLaunch, die := dieOf s.focus, part := part, lid := lcLid ws, dws := ws, image := image,
           regions := layRegions 0 (image.drop 64), issuer := s.focus, running := false,
           deps := (lcPlids ws).flatMap (s.bearers part), placed := 0, paused := false, noMore := false,
           sweep := none, words := words }] })

/-- The record read, checked and offered by the core in focus: the response (R314). -/
def State.launchOffer (s : State) (words : BitVec 32) (px : List Prefix) (sp : BitVec 6) : Except Stop (Nat × State) :=
  match s.recordAt px sp with
  | .error e => .error e
  | .ok ea =>
    match s.recordDws ea with
    | .error e => .error e
    | .ok ws =>
      match s.recordCheck ws (BitVec.ofNat 64 ea) with
      | .error e => .error e
      | .ok _ =>
        match s.readImage (lcHtab ws) (64 + lcNpr ws) with
        | .error e => .error e
        | .ok (t, image) =>
          if imageBad ws image then trapAt 0x07 0x32 (BitVec.ofNat 64 ea) else .ok (t.offer words ws image)

/-- LAUNCH (R314): the region commits, the record is offered, and the response is written after the offer; a fault of
that write leaves the launch accepted. -/
def execLaunch (px : List Prefix) (s : BitVec 6) (w1 : W1) (st : State) : Out :=
  match (Instr.launch px s w1).parts, attrsOf (.launch px s w1) with
  | some p, some a =>
    st.atBoundary fun s1 =>
      match s1.contextFault p a with
      | some t => .next (s1.takeFault (s1.site p) t)
      | none => s1.whenLinesDone (.launch px s w1) <| s1.whenClear
        (let s2 := s1.commit
         match s2.launchOffer (Instr.launch px s w1).siteWords px s with
         | .error e => s2.stopped p e
         | .ok (r, t) =>
           match t.writeResult px s 8 (BitVec.ofNat 64 r) with
           | .ok u => .next (((u.setZ (decide (r = 0))).post s2 (stepsSD px s)).retire s2 (partsLen p)).close
           | .error (.trap f) => .next (t.takeFault (t.site p) f)
           | .error _ => .next s2)
  | _, _ => .refused (.notEnabled "INSTRUCTION")

/-! ### Resources of a launch (R260, R349, R350) -/

/-- Clusters a launch occupies. -/
def Launch.clusters (l : Launch) : List Nat := ((rectSids l.die l.dws).map clusterOf).eraseDups

/-- Coolant zones a launch takes. -/
def Launch.zones (l : Launch) : List Nat := ((rectSids l.die l.dws).map fun c => zoneOfTile (tileOf c)).eraseDups

/-- The cores of a launch that run activations: in a paired partition those of SIDE 0 (R417). -/
def State.launchCores (s : State) (l : Launch) : List Nat :=
  (rectSids l.die l.dws).filter fun c => !(s.paired l.part && sideOne c)

/-- The record of a zone. -/
def State.zone (s : State) (z : Nat) : Zone := getAt Zone.zero s.zones z

/-- A zone's record replaced. -/
def State.setZone (s : State) (z : Nat) (x : Zone) : State := { s with zones := setAt s.zones z x }

/-- Allotment of a power class in ALLOT units (R349). -/
def classAllot (c : Nat) : Nat := 30 + 15 * c

/-- GCLS of a zone: the highest class among the launches running there (R350). -/
def State.gcls (s : State) (z : Nat) : Nat :=
  (s.launches.filter fun l => l.running && l.zones.contains z).foldl (fun m l => max m (lcPcls l.dws)) 0

/-- Whether a zone is assigned, and open to a partition. -/
def Zone.opens (z : Zone) (part : Nat) : Bool :=
  z.cat.getLsbD 51 && (z.cat.getLsbD 50 || decide (bits z.cat 49 43 = part))

/-- ALLOT. -/
def Zone.allot (z : Zone) : Nat := bits z.cat 42 35

/-- Whether a zone's allotment is available to a launch (R350). -/
def State.zoneFree (s : State) (l : Launch) (z : Nat) : Bool :=
  let x := s.zone z
  x.opens l.part && !x.fnc && decide (x.st = 0 ∧ classAllot (max (lcPcls l.dws) (s.gcls z)) ≤ x.allot)

/-- Whether a producer of a launch is satisfied (R269): it has completed, or each of its cores has executed TRIG. -/
def State.producerDone (s : State) (n : Nat) : Bool :=
  match s.launches.find? fun l => decide (l.num = n) with
  | none => true
  | some l => l.running && (s.launchCores l).all fun c => (s.coreAt c).triggered

/-- Whether a waiting launch is ready (R268). -/
def State.launchReady (s : State) (l : Launch) : Bool :=
  !l.running && l.deps.all s.producerDone &&
  l.zones.all fun z => (s.zone z).opens l.part && decide (classAllot (lcPcls l.dws) ≤ (s.zone z).allot)

/-- Whether a launch stands earlier in the order of its sequencer (R268). -/
def Launch.before (a b : Launch) : Bool :=
  decide (a.die = b.die) &&
  decide (lcPrio b.dws < lcPrio a.dws ∨ (lcPrio a.dws = lcPrio b.dws ∧ a.num < b.num))

/-- Whether the sequencer may start a launch (R268). A halted partition's launches wait (R392). -/
def State.canStart (s : State) (l : Launch) : Bool :=
  !l.running && !(s.part l.part).stopped && (l.clusters.all fun c => (s.cluster c).owner.isNone) &&
  (l.zones.all (s.zoneFree l)) && l.deps.all s.producerDone &&
  !(s.launches.any fun e => s.launchReady e && e.before l &&
      (e.clusters.any l.clusters.contains || e.zones.any l.zones.contains))

/-! ### The start (R270) -/

/-- One cluster taken by a launch: the L1 is emptied when the split changes, then the cluster is laid out. -/
def State.takeCluster (s : State) (l : Launch) (cl : Nat) : State :=
  let s1 := if (s.cluster cl).spsz = lcSpsz l.dws then s else s.quitL1 cl
  s1.setCluster cl { (s1.cluster cl).laid l.dws l.regions with owner := some (l.part, l.lid) }

/-- A channel loaded from its handler entry, its queue emptied (R264, R270, R275); channel 56 has no handler. -/
def chanOf (c : Nat) (e : Word) : Chan :=
  { entry := if c = 56 then 0 else hdEntry e
    pri := e.extractLsb' 29 3, ord := e.getLsbD 26, preset := e.extractLsb' 0 24, epri := e.extractLsb' 29 3
    pass := 0, bare := e.getLsbD 27 && decide (c ≠ 56), queue := [] }

/-- CHEN from the EN bits. -/
def chenOf (image : List Word) : BitVec 64 :=
  BitVec.ofNat 64 ((List.range 64).foldl (fun a c => a + (if (dw image c).getLsbD 28 && decide (c ≠ 56) then 2 ^ c else 0)) 0)

/-- M24 to M31 cleared with presence clear. -/
def Regs.clearRecv (r : Regs) : Regs :=
  { r with
    m := Vector.ofFn fun i : Fin 32 => if i.val < 24 then r.m[i] else 0
    pres := r.pres &&& 0x00FFFFFF }

/-- A core as a launch sets it up (R270, R288, R306, R397). -/
def Core.launched (c : Core) (l : Launch) (seat : Seat) : Core :=
  { c with
    r := c.r.clearRecv
    ctl := { c.ctl with
      chen := chenOf l.image, cmask := 0, rmode := (dw l.dws 0).extractLsb' 40 3 |>.setWidth 64 |>.or
        ((BitVec.ofBool ((dw l.dws 0).getLsbD 39)).setWidth 64 <<< 3)
      xseed := 0, fcode := 0, mism := 0 }
    chans := Vector.ofFn fun i : Fin 64 => chanOf i.val (dw l.image i.val)
    rr := 0
    parks := Vector.replicate 4 Park.none
    seat := some seat, triggered := false
    seqCnt := [], ordNext := [], ordHeld := []
    se := Se.zero, mx := Mx.zero, vu := ⟨[], none⟩, bars := [], engMsg := [] }

/-- The seat of a core of a launch (R261, R417). -/
def State.seatOf (s : State) (l : Launch) (c : Nat) : Seat :=
  let k := if s.paired l.part then 2 else 1
  ⟨l.lid, BitVec.ofNat 5 (lcX0 l.dws), BitVec.ofNat 5 (lcY0 l.dws), BitVec.ofNat 5 (lcW l.dws / k - 1),
    BitVec.ofNat 5 (lcH l.dws - 1), BitVec.ofNat 5 ((xOf c - lcX0 l.dws) / k), BitVec.ofNat 5 (yOf c - lcY0 l.dws),
    BitVec.ofNat 64 (lcCode l.dws), BitVec.ofNat 16 (lcClen l.dws), BitVec.ofNat 2 (lcPcls l.dws)⟩

/-- A launch replaced in the list. -/
def State.putLaunch (s : State) (l : Launch) : State :=
  { s with launches := s.launches.map fun x => if x.num = l.num then l else x }

/-- The start of a launch, up to the placement of its messages (R270). -/
def State.startLaunch (s : State) (l : Launch) : State :=
  let s1 := s.putLaunch { l with running := true }
  let s2 := l.clusters.foldl (fun t c => t.takeCluster l c) s1
  (s2.launchCores l).foldl (fun t c => t.setCore c ((t.coreAt c).launched l (t.seatOf l c))) s2

/-- The launch of an acceptance number. -/
def State.launchNo (s : State) (num : Nat) : Option Launch := s.launches.find? fun l => decide (l.num = num)

/-- The host answers that the write-backs of a launch's start need first (R253, R270). -/
def State.startStops (s : State) (l : Launch) : List (Nat × Bool) :=
  (l.clusters.filter fun c => decide ((s.cluster c).spsz ≠ lcSpsz l.dws)).flatMap s.cacheStops

/-- LAUNCH_START (R268, R270). -/
def execLaunchStart (num : Nat) (s : State) : Out :=
  match s.launchNo num with
  | none => notEnabled "LAUNCH_START"
  | some l => s.atHome "LAUNCH_START" (s.canStart l) (s.startStops l) (s.startLaunch l)

/-! ### Initial messages (R271) -/

/-- How many initial messages a launch places. -/
def State.initialCount (s : State) (l : Launch) : Nat :=
  if lcNinit l.dws = 0 then (s.launchCores l).length else lcNinit l.dws

/-- The core of initial message i. -/
def State.initialDest (s : State) (l : Launch) (i : Nat) : Nat :=
  let k := if s.paired l.part then 2 else 1
  let w := lcW l.dws / k
  coreId l.die (lcX0 l.dws + (i % w) * k) (lcY0 l.dws + (i / w) % lcH l.dws)

/-- The highest damper level in a partition (R271). -/
def State.maxDamp (s : State) (part : Nat) : Nat :=
  s.clusters.foldl (fun m e => if s.partOfTile (tileOfCluster e.1) = some part then max m e.2.damp.toNat else m) 0

/-- Whether every initial message of a launch has been placed, or no more will be (R372). -/
def State.allPlaced (s : State) (l : Launch) : Bool := l.noMore || decide (s.initialCount l ≤ l.placed)

/-- Initial message i placed with its payload. -/
def State.placeInitial (s : State) (l : Launch) (payload : List Word) : State :=
  let i := l.placed
  let hdr := mkHdr (srcId l.issuer) l.part 0 0 payload.length l.lid (BitVec.ofNat 16 i)
  let s1 := (s.putLaunch { l with placed := i + 1 }).count (2048 + l.die) l.part l.lid (fun x => { x with s := x.s + 1 })
  { s1 with wire := s1.wire ++ [⟨.initial, 8192 + l.die, s.initialDest l i, 0, hdr, payload, 0, none, 0, 0, .direct⟩] }

/-- Reading `n` doublewords of a payload through the partition's tables as the issuer; `none` stands for a poisoned or
device location, whose value is free (log 19). PLD is a translated address: one in a window fails with ADDR (R357; log 57). -/
def State.readPayload (s : State) (l : Launch) (va : Nat) : Nat → State × Except XFault (List Word)
  | 0 => (s, .ok [])
  | n + 1 =>
    if inWindows va then (s, .error ⟨0x0A, 0x00, 0, none⟩) else
    match s.findLeaf l.issuer l.part va .data with
    | (s1, .error f) => (s1, .error f)
    | (s1, .ok x) =>
      match permFault (isSvc l.issuer) .read x.leaf with
      | some (c, d) => (s1, .error ⟨c, d, x.level, none⟩)
      | none =>
        let pa := (if pteCont x.leaf then ptePa x.leaf / 65536 * 65536 else ptePa x.leaf) + (va - x.va)
        if ptePol x.leaf ≠ 2 ∧ s1.hostStop (lineOf pa) false then (s1, .error ⟨0, 0, 0, some (lineOf pa)⟩) else
        let q := if ptePol x.leaf = 2 || s1.meetsPoison none pa 8 then (s1.free.2, s1.free.1) else (s1, BitVec.ofNat 64 (s1.physLE pa 8))
        match q.1.readPayload l (va + 8) n with
        | (s2, .error f) => (s2, .error f)
        | (s2, .ok r) => (s2, .ok (q.2 :: r))

/-- INITIAL_MESSAGE_PLACEMENT (R271): the next message; a translation fault pauses the placement (R266). -/
def execInitialMessagePlacement (num : Nat) (s : State) : Out :=
  match s.launchNo num with
  | none => notEnabled "INITIAL_MESSAGE_PLACEMENT"
  | some l =>
    if !l.running || l.paused || s.allPlaced l || (s.part l.part).stopped || decide (12 ≤ s.maxDamp l.part) then
      notEnabled "INITIAL_MESSAGE_PLACEMENT"
    else if lcNinit l.dws = 0 then .next (s.placeInitial l [])
    else
      let va := lcPld l.dws + 64 * l.placed
      match s.readPayload l va (lcIml l.dws) with
      | (s1, .ok p) => .next (s1.placeInitial l p)
      | (s1, .error f) =>
        match f.wait with
        | some line => .next (s.startSnoop line false .other)
        | none => .next ((s1.putLaunch { l with paused := true }).agentFault l.issuer 5 l.lid.toNat 0 0 0 l.lid l.words f .read
            va)

/-! ### Quiescence and completion (R284, R285) -/

/-- Whether a core is idle (R284). -/
def Core.idle (c : Core) : Bool :=
  c.act.isNone && c.inter.isNone && (c.parks.toList.all fun p => decide (p.st = .free)) && c.ordHeld.isEmpty &&
  (List.range 64).all fun i =>
    let x := c.chan (BitVec.ofNat 6 i)
    x.queue.isEmpty && !(x.bare && c.ctl.chen.getLsbD i)

/-- Whether engine, vector-unit, barrier or bulk-copy work of a core is outstanding (R284: E), or a line operation or a write of a
command that has ended: a launch's completion covers those too (R179). -/
def State.outstanding (s : State) (sid : Nat) : Bool :=
  let c := s.coreAt sid
  c.mx.run.isSome || !c.mx.queue.isEmpty || !c.vu.queue.isEmpty || !c.bars.isEmpty || c.se.cur.isSome ||
  !c.se.queue.isEmpty || (s.bulks.any fun b => decide (b.sid = sid) && !b.away && (b.status.isNone || !b.late.isEmpty)) ||
  (s.lineOps.any fun op => decide (op.sid = sid)) ||
  s.wire.any fun w => decide (w.kind = .note ∧ w.dst = sid ∧ (w.src = sid ∨ 8704 ≤ w.src))

/-- ΣS, ΣRv and ΣN of a launch (R285). -/
def State.sums (s : State) (l : Launch) : Nat × Nat × Nat :=
  s.counts.foldl (fun a e =>
    if e.1 % 8388608 = l.part * 65536 + l.lid.toNat then (a.1 + e.2.s, a.2.1 + e.2.rv, a.2.2 + e.2.n) else a) (0, 0, 0)

/-- Whether a phase of a sweep finds its launch quiescent. -/
def State.quiet (s : State) (l : Launch) : Bool :=
  (s.launchCores l).all (fun c => (s.coreAt c).idle && !s.outstanding c) && decide ((s.sums l).1 = (s.sums l).2.1)

/-- The next number of a counter of the package's own messages. -/
def State.nextOwn (s : State) (k : Nat) : BitVec 16 × State :=
  let v := getAt 0 s.sluice.seqs k
  (v, { s with sluice := { s.sluice with seqs := setAt s.sluice.seqs k (v + 1) } })

/-- A launch's clusters, allotments, seats and counts given up (R285). -/
def State.dropLaunch (s : State) (l : Launch) : State :=
  let s1 := if !l.running then s else
    (s.launchCores l).foldl (fun t c => t.setCore c { t.coreAt c with seat := none })
      (l.clusters.foldl (fun t c => t.setCluster c { t.cluster c with owner := none }) s)
  { s1 with
    launches := s1.launches.filter fun x => decide (x.num ≠ l.num)
    counts := s1.counts.filter fun e => decide (e.1 % 8388608 ≠ l.part * 65536 + l.lid.toNat) }

/-- The completion of a launch (R285). -/
def State.completeLaunch (s : State) (l : Launch) : State :=
  let n := (s.sums l).2.2
  let s1 := s.dropLaunch l
  if lcNocmp l.dws then s1
  else
    let ch := doneChan (lcCch l.dws)
    let dst := lcDest l.dws
    let q := s1.nextOwn ((l.die * 8192 + dst) * 64 + ch.toNat)
    q.2.note (8192 + l.die) dst ch (mkHdr 0 l.part ch 0 2 0 q.1) [l.lid.setWidth 64, BitVec.ofNat 64 n]

/-- QUIESCENCE_SWEEP (R285): each event is one phase; the second compares its sums with the first's. Messages still to be
placed keep the launch running (log 20). -/
def execQuiescenceSweep (num : Nat) (s : State) : Out :=
  match s.launchNo num with
  | none => notEnabled "QUIESCENCE_SWEEP"
  | some l =>
    if !l.running || (s.part l.part).stopped || !s.allPlaced l then notEnabled "QUIESCENCE_SWEEP"
    else if !s.quiet l then .next (s.putLaunch { l with sweep := none })
    else if l.sweep = none then .next (s.putLaunch { l with sweep := some (s.sums l) })
    else if l.sweep = some (s.sums l) then .next (s.completeLaunch l)
    else .next (s.putLaunch { l with sweep := none })

end Sys2Proof.Machine
end

