-- ==== Sys2Proof/Machine/Packet.lean ====
section
/-! DEFINITION. Endpoints and packets of the network as other parts of the machine see them (R322, R323, R335, R338): what a reset,
a halt and an acknowledgement do to packets. -/

namespace Sys2Proof.Machine

/-! ### Endpoints (R12, R323) -/

/-- The die of an endpoint: 0 to 3 polder, 4 + n for dike die n, 16 for the sluice die. -/
def epDie (e : Nat) : Nat := if e < 2048 then e / 512 else 4 + (e - 2048)
/-- Whether an endpoint is a service block. -/
def epSvc (e : Nat) : Bool := decide (e < 2048 ∧ 256 ≤ e % 512)
/-- Whether a number names an endpoint of a mesh. -/
def epOk (e : Nat) : Bool := decide (e < 2048 ∧ e % 512 < 288)
/-- Whether a number names an endpoint of a dike die or the sluice die. -/
def epFar (e : Nat) : Bool := decide (2048 ≤ e ∧ e ≤ 2060)
/-- Column of an endpoint's router: a service block is at its tile's lower-left cluster (R12). -/
def epX (e : Nat) : Nat := if epSvc e then e % 4 * 4 else e % 16
/-- Row of an endpoint's router. -/
def epY (e : Nat) : Nat := if epSvc e then (e % 512 - 256) / 4 * 2 else e % 512 / 16
/-- The cluster on an endpoint's router. -/
def epCluster (e : Nat) : Nat := e / 512 * 256 + epY e * 16 + epX e
/-- The tile of an endpoint. -/
def epTile (e : Nat) : Nat := tileOfCluster (epCluster e)
/-- The service block of a tile. -/
def svcEp (tile : Nat) : Nat := tile / 32 * 512 + 256 + tile % 32
/-- The gate of an endpoint's tile (R340). -/
def gateOf (e : Nat) : Nat := svcEp (epTile e)
/-- The endpoint of an agent: its cluster's interface, or its tile's service block. -/
def epOf (sid : Nat) : Nat :=
  if isSvc sid then svcEp (tileOf sid) else clusterOf sid / 256 * 512 + clusterOf sid % 256

/-! ### Packets -/

/-- The network record replaced. -/
def State.setNet (s : State) (n : Net) : State := { s with net := n }

/-- A packet by its number. -/
def Net.pkt (n : Net) (id : Nat) : Option Pkt := n.pkts.find? fun p => decide (p.id = id)

/-- A packet replaced. -/
def Net.putPkt (n : Net) (p : Pkt) : Net := { n with pkts := n.pkts.map fun q => if q.id = p.id then p else q }

/-- The packets that satisfy a condition gone, with every trace of them. -/
def Net.dropPkts (n : Net) (f : Pkt → Bool) : Net :=
  let ids := (n.pkts.filter f).map (·.id)
  { n with
    pkts := n.pkts.filter fun p => !f p
    flits := n.flits.filter fun x => !ids.contains x.pkt
    asms := n.asms.filter fun a => !ids.contains a.pkt
    resv := n.resv.filter fun r => !ids.contains r.2.2
    asks := n.asks.filter fun a => !ids.contains a.pkt
    starve := n.starve.filter fun e => !ids.contains e.2.2
    gates := n.gates.filter fun g => !ids.contains g.2.2 }

/-- Every trace of a packet removed. -/
def Net.dropPkt (n : Net) (id : Nat) : Net := n.dropPkts fun p => decide (p.id = id)

/-- Whether a source keeps a copy of a packet until it is acknowledged (R338). -/
def Pkt.retained (p : Pkt) : Bool := decide (1 < p.len) || (match p.load with | .message _ => true | _ => false)

/-- The travelling copies of the packets that satisfy a condition gone: of a packet that its source keeps, that copy is left. -/
def Net.strand (n : Net) (f : Pkt → Bool) : Net :=
  let ids := (n.pkts.filter f).map (·.id)
  { n with
    pkts := (n.pkts.filter fun p => !f p || (p.retained && !p.apart)).map fun p => if f p then { p with leg := .done } else p
    flits := n.flits.filter fun x => !ids.contains x.pkt
    asms := n.asms.filter fun a => !ids.contains a.pkt
    resv := n.resv.filter fun r => !ids.contains r.2.2
    asks := n.asks.filter fun a => !ids.contains a.pkt
    starve := n.starve.filter fun e => !ids.contains e.2.2
    gates := n.gates.filter fun g => !ids.contains g.2.2 }

/-- What a partition has on the networks removed, and what others have in its tiles (R420 steps 4 and 6). -/
def Net.without (n : Net) (p : Nat) : Net :=
  (n.dropPkts fun k => decide (k.copy = p)).strand fun k => decide (k.part = p ∧ k.leg ≠ .done)

/-- What a partition has on the meshes at tiles that leave it removed, and its flits at their routers (R327, R381). -/
def Net.withoutTiles (n : Net) (p : Nat) (ts : List Nat) : Net :=
  let at_ := fun (e : Nat) => decide (e < 2048) && ts.contains (epTile e)
  let gone := fun (k : Pkt) => decide (k.part = p) && (at_ k.ent || at_ k.hop)
  let m := (n.dropPkts fun k => gone k && decide (k.copy = p)).strand fun k => gone k && decide (k.leg ≠ .done)
  { m with flits := m.flits.filter fun f => match m.pkt f.pkt with
      | some k => !(decide (k.part = p) && ts.contains (tileOfCluster (epDie k.ent * 256 + f.y * 16 + f.x)))
      | none => true }

/-! ### Flits in flight (R331) -/

/-- Width of a partition in routers. -/
def State.netW (s : State) (p : Nat) : Nat := 4 * (bits (s.part p).pmap 6 5 + 1)
/-- Height of a partition in routers. -/
def State.netH (s : State) (p : Nat) : Nat := 2 * (bits (s.part p).pmap 9 7 + 1)

/-- Flits of a partition in flight on a network: admitted, and neither ejected nor dropped. -/
def Net.inFlight (n : Net) (part net : Nat) : Nat :=
  n.pkts.foldl (fun a p =>
    if p.part = part ∧ p.net = net ∧ p.leg = .mesh then
      a + (p.len - p.entered) + (n.flits.filter fun f => decide (f.pkt = p.id)).length
    else a) 0

/-- Whether a network may take `len` more flits of a partition. -/
def State.netRoom (s : State) (part net len : Nat) : Bool :=
  decide (s.net.inFlight part net + len ≤ 2 * s.netW part * s.netH part + 1)

/-! ### Halts and contexts (R335, R409) -/

/-- Whether a partition has flits in a mesh. -/
def Net.inMesh (n : Net) (p : Nat) : Bool :=
  n.flits.any fun f => match n.pkt f.pkt with | some k => decide (k.part = p) | none => false

/-- Packets of a partition with flits that have not entered, or with none left in the mesh, withdrawn whole (R335). -/
def Net.withdraw (n : Net) (p : Nat) : Net :=
  { n with
    pkts := n.pkts.map fun k =>
      if k.part = p ∧ k.leg = .mesh ∧ (k.entered < k.len ∨ !(n.flits.any fun f => decide (f.pkt = k.id))) then
        { k with leg := .out, entered := 0 } else k
    starve := n.starve.filter fun e => decide (e.1 ≠ p) }

/-- Withdrawn packets of a partition sent again, in their order, as far as its flits in flight leave room (R331, R335, R412 step 3);
the others are admitted later. -/
def State.readmit (s : State) (p : Nat) : State :=
  s.net.pkts.foldl (fun t k =>
    if k.part = p ∧ k.leg = .out ∧ t.netRoom p k.net k.len then
      t.setNet (t.net.putPkt { k with leg := .mesh, entered := 0, admitted := t.now }) else t) s

/-- Whether an endpoint is a cluster interface. -/
def epCl (e : Nat) : Bool := epOk e && !epSvc e

/-- Whether a cluster interface of a partition keeps a packet, retained or withdrawn, in the partition's context (R335, R409). -/
def Pkt.kept (p : Nat) (k : Pkt) : Bool :=
  decide (k.copy = p) && epCl k.src && !k.apart && (k.retained || decide (k.leg = .out))

/-- Whether nothing of a packet travels. -/
def Pkt.still (k : Pkt) : Bool := decide (k.leg = .out ∨ k.leg = .done)

/-- The packets of a partition's context, as they leave with it: with the time since they were sent. -/
def Net.keptPkts (n : Net) (p run : Nat) : List Pkt :=
  (n.pkts.filter (Pkt.kept p)).map fun k => { k with sent := run - k.sent, leg := if k.still then k.leg else .done }

/-- Whether a reassembly entry is one of a partition's cluster interfaces. -/
def Net.keptAsm (n : Net) (p : Nat) (a : Asm) : Bool :=
  epCl a.ep && (match n.pkt a.pkt with | some k => decide (k.part = p) | none => false)

/-- The reassembly entries of a partition's context, with the time since their first flit. -/
def Net.keptAsms (n : Net) (p run : Nat) : List Asm :=
  (n.asms.filter (n.keptAsm p)).map fun a => { a with first := run - a.first }

/-- Whether a reservation is one of a partition's cluster interfaces. -/
def Net.keptRes (n : Net) (p : Nat) (r : Nat × Nat × Nat) : Bool :=
  epCl r.1 && (match n.pkt r.2.2 with | some k => decide (k.part = p) | none => false)

/-- The networks without a partition's context: of a packet that it keeps, a copy that travels goes on alone. -/
def Net.shelve (n : Net) (p : Nat) : Net :=
  { n with
    pkts := (n.pkts.filter fun k => !(k.kept p && k.still)).map fun k => if k.kept p then { k with apart := true } else k
    asms := n.asms.filter fun a => !n.keptAsm p a
    resv := n.resv.filter fun r => !n.keptRes p r }

/-- A context's packets, entries and reservations on the networks again; a copy that still travels is its packet's. -/
def Net.unshelve (n : Net) (x : Ctx) (run : Nat) : Net :=
  let back := x.pkts.map fun k =>
    let k1 : Pkt := { k with sent := run - k.sent }
    match n.pkt k.id with
    | some j => { k1 with part := j.part, ent := j.ent, hop := j.hop, entered := j.entered, admitted := j.admitted, leg := j.leg }
    | none => k1
  { n with
    pkts := (n.pkts.filter fun j => !(back.any fun k => decide (k.id = j.id))) ++ back
    asms := n.asms ++ x.asms.map fun a => { a with first := run - a.first }
    resv := n.resv ++ x.resv }

end Sys2Proof.Machine
end

