-- ==== Sys2Proof/Machine/Halt.lean ====
section
/-! DEFINITION. What stops a partition and what becomes of its state: pre-emption and resumption (R407, R412), scrubbing and
the partition reset (R392, R420). -/

namespace Sys2Proof.Machine

/-! ### The agents of tiles and partitions (R13, R379) -/

/-- The small cores of a tile. -/
def tileCores (t : Nat) : List Nat :=
  (List.range 4).flatMap fun j => (List.range 8).map fun i => coreId (t / 32) (t % 4 * 8 + i) (t / 4 % 8 * 4 + j)

/-- The clusters of a tile. -/
def tileClusters (t : Nat) : List Nat :=
  (List.range 2).flatMap fun j => (List.range 4).map fun i => t / 32 * 256 + (t / 4 % 8 * 2 + j) * 16 + t % 4 * 4 + i

/-- The tiles of a partition. -/
def State.partTiles (s : State) (p : Nat) : List Nat := (s.tilePart.filter fun e => decide (e.2 = p)).map (·.1)

/-- The small cores of a partition. -/
def State.partCores (s : State) (p : Nat) : List Nat := (s.partTiles p).flatMap tileCores

/-- Every agent of a partition. -/
def State.partAgents (s : State) (p : Nat) : List Nat := s.partCores p ++ (s.partTiles p).map svcOf

/-- An operation on the core in focus done to another agent. -/
def State.onCore (s : State) (sid : Nat) (f : State → State) : State := (f (s.focusOn sid)).focusOn s.focus

/-! ### Pre-emption (R407, R408) -/

/-- The running activation of the core in focus discarded, its checkpoint kept in the interrupted record (R407 step 2). -/
def State.interrupt (s : State) : State :=
  match s.core.act with
  | none => s
  | some ch =>
    let t := s.discard
    { t with core := { t.core with act := none, inter := some ⟨t.core.ck, ch, t.core.rerun, t.core.mismOnce⟩ } }

/-- The interrupted region of the core in focus restarted from its checkpoint (R412). -/
def State.uninterrupt (s : State) : State :=
  match s.core.inter with
  | none => s
  | some i =>
    let c := s.core.restore i.ck
    { s with core := { c with
        act := some i.chan, ck := i.ck, inter := none, icount := 0, rerun := i.rerun, mismOnce := i.mismOnce } }

/-- A partition's entries in the shared translation structures removed. -/
def State.dropCached (s : State) (p : Nat) : State :=
  { s with
    stlb := s.stlb.filter fun e => decide (e.2.part ≠ p)
    wcache := s.wcache.filter fun e => decide (e.2.part ≠ p)
    btlb := s.btlb.filter fun e => decide (e.2.part ≠ p) }

/-- A partition halted: regions are interrupted and no translation is kept (R378, R407). Engines act only at their
boundaries, so they are at one. -/
def State.haltPart (s : State) (p : Nat) : State :=
  let s1 := (s.partCores p).foldl (fun t c => t.onCore c fun u =>
    { u.interrupt with core := { u.interrupt.core with itlb := [], dtlb := [], mtlb := [], setlb := [] } }) s
  s1.dropCached p

/-- The start of a stop: the partition's clock stands from here (R134). -/
def State.stopClock (s : State) (p : Nat) : Part :=
  let x := s.part p
  if x.halted || x.stopping || !x.cooled.isEmpty then x else { x with haltFrom := s.now }

/-- A fault message of every parked and migrated region offered again with a new generation (R412). -/
def State.reoffer (s : State) (sid : Nat) : State :=
  (List.range 4).foldl (fun t i =>
    let n := BitVec.ofNat 2 i
    let c := t.coreAt sid
    let p := c.park n
    if p.st = .parked then
      let p' := { p with gen := p.gen + 1 }
      (t.setCore sid (c.setPark n p')).sendFault sid c.lid (parkPayload sid n p' 0 0)
    else if p.st = .migrated then
      (t.setCore sid (c.setPark n { p with gen := p.gen + 1 })).migrate sid n
    else t) s

/-- The KIND 2 messages of a core's suspended engine commands sent again (R412). -/
def State.resuspend (s : State) (sid : Nat) : State :=
  let c := s.coreAt sid
  let again := fun (t : State) (agent : Nat) => match findAt c.engMsg agent with
    | some m => t.sendFault sid m.1 m.2
    | none => t
  let s1 := match c.mx.run with
    | some r => if r.susp then again s 2 else s
    | none => s
  if c.se.susp then again s1 3 else s1

/-- The pending-write record of a core's matrix engine taken up (R408, R412 step 1): an MXST that a fault has suspended goes on at its row,
which it translates anew. -/
def State.redoWrites (s : State) (sid : Nat) : State :=
  s.updMx sid fun m => { m with run := m.run.map fun r => if r.cmd.st && r.ended.isNone then { r with susp := false } else r }

/-- A partition runs again, unless something else still holds it (R356, R412). -/
def State.resumePart (s : State) (p : Nat) (x : Part) : State :=
  let free := !x.halted && !x.stopping && x.cooled.isEmpty
  if !free then s.setPart p x
  else
    let s0 := s.setPart p { x with haltSum := x.haltSum + (s.now - x.haltFrom), arrived := false }
    let s1 := (s0.partCores p).foldl State.redoWrites s0
    let s2 := if x.arrived then (s1.partCores p).foldl (fun t c => (t.reoffer c).resuspend c) s1 else s1
    ((s2.partCores p).foldl (fun t c => t.onCore c State.uninterrupt) s2).readmit p

/-! ### Scrubbing (R381, R392, R420) -/

/-- The bytes of a cluster's store zeroed. -/
def State.zeroSpad (s : State) (cl : Nat) : State :=
  { s with
    spad := s.spad.filter fun e => decide (e.1 / 16777216 ≠ cl)
    badStore := s.badStore.filter fun k => decide (k / 16777216 ≠ cl) }

/-- A cluster with its dirty lines written back, and its store zeroed. It has the reset configuration of R26 afterwards, after a
SCRUB too, which clears scratchpads "as the partition reset does" (R392; log 32). -/
def State.scrubCluster (s : State) (cl : Nat) : State :=
  let s1 := (s.emptyCache cl).zeroSpad cl
  let c := s1.cluster cl
  s1.setCluster cl { Cluster.zero with gated := c.gated, damp := c.damp, routed := c.routed, deflected := c.deflected }

/-- A tile scrubbed: core reset of its small cores, its clusters zeroed (R392, R420 step 5). -/
def State.scrubTile (s : State) (t : Nat) : State :=
  (tileCores t).foldl (fun u c => u.setCore c Core.zero) ((tileClusters t).foldl State.scrubCluster s)

/-- A tile scrubbed with its service core (R381, R420 step 5). The bytes of the service core's local store are not among
what is zeroed (log 24). The counts of SEQ of a service core start at die reset, not here (R306). -/
def State.scrubWhole (s : State) (t : Nat) : State :=
  let u := (s.scrubTile t).emptyCache (svcCache t)
  u.setCore (svcOf t) { Core.zero with seqCnt := (u.coreAt (svcOf t)).seqCnt }

/-- The host answers that emptying the caches of some tiles needs first (R253). -/
def State.tileStops (s : State) (ts : List Nat) : List (Nat × Bool) :=
  ts.flatMap fun t => (svcCache t :: tileClusters t).flatMap s.cacheStops

/-- The tile of an interface of the counts (R284). -/
def ifaceTile (i : Nat) : Nat := if 1024 ≤ i then i - 1024 else tileOfCluster i

/-- A context without what it holds of some tiles (R381): their cores, stores, formations, counts, packets and entries (R409), and the
launches that occupy them, of whose other clusters nothing is kept either. -/
def Ctx.without (c : Ctx) (ts : List Nat) : Ctx :=
  let cut := c.launches.filter fun l => l.clusters.any fun k => ts.contains (tileOfCluster k)
  let left := (cut.filter (·.running)).flatMap Launch.clusters
  let gone := fun (k : Nat) => ts.contains (tileOfCluster k) || left.contains k
  let pkts := c.pkts.filter fun k => !(ts.contains (epTile k.ent) || ts.contains (epTile k.hop) || gone (epCluster k.src))
  { c with
    cores := (c.cores.filter fun e => !ts.contains (tileOf e.1)).map fun e => if gone (clusterOf e.1) then (e.1, Core.zero) else e
    clusters := (c.clusters.filter fun e => !ts.contains (tileOfCluster e.1)).map fun e =>
      if gone e.1 then (e.1, { e.2 with regions := [], qd := none, owner := none }) else e
    spad := c.spad.filter fun e => !gone (e.1 / 16777216)
    bad := c.bad.filter fun k => !gone (k / 16777216)
    launches := c.launches.filter fun l => !(l.clusters.any fun k => ts.contains (tileOfCluster k))
    forms := c.forms.filter fun f => !(f.members.any fun m => gone (clusterOf m))
    counts := c.counts.filter fun e => !ts.contains (ifaceTile (e.1 / 8388608))
    pkts := pkts
    asms := c.asms.filter fun a => !ts.contains (epTile a.ep)
    resv := c.resv.filter fun r => !ts.contains (epTile r.1)
    wire := c.wire.filter fun w => !(gone (clusterOf w.src) || (match w.trip.pkt with
      | some id => !(pkts.any fun k => decide (k.id = id)) && !w.trip.came
      | none => false))
    acks := c.acks.filter fun a => !(a.entry.isSome && gone (clusterOf a.sid)) }

/-- The shadow banks of some tiles of a partition scrubbed (R381, R420). -/
def State.scrubShadow (s : State) (p : Nat) (ts : List Nat) : State :=
  let x := s.part p
  s.setPart p { x with shadow := x.shadow.map fun c => c.without ts }

/-- A window or vector key that belongs to a partition's function. -/
def keyOfPart (p width k : Nat) : Bool := decide (k / width % 128 = p)

/-- The engine work, messages and launches of a partition ended without completions (R420 steps 1 to 3). -/
def State.endWork (s : State) (p : Nat) : State :=
  let s1 := (s.launches.filter fun l => decide (l.part = p)).foldl State.dropLaunch s
  { s1 with
    forms := s1.forms.filter fun f => decide (f.part ≠ p)
    bulks := s1.bulks.filter fun b => decide (b.part ≠ p)
    lineOps := s1.lineOps.filter fun op => decide (s.partOfTile (tileOf op.sid) ≠ some p) }

/-- Whether a message is bound for a fabric package, whose core `dst` then names (R312). -/
def Wire.toPeer (w : Wire) : Bool := match w.kind with | .psend _ _ => true | _ => false

/-- A sensor trap or a lease notice: held through a reset of its partition (R480). -/
def Wire.held (w : Wire) : Bool := decide (w.kind = .note ∧ w.src = 8448)

/-- Deliveries to the agents of a partition dropped, but for those R480 holds, and those that its agents have sent, but, unless
`all`, for PSENDs, which their peer may still acknowledge (R420 step 4). -/
def State.dropWires (s : State) (p : Nat) (all : Bool) : State :=
  let mine := fun (sid : Nat) => decide (s.partOfTile (tileOf sid) = some p)
  { s with
    wire := s.wire.filter fun w => w.held || !((!w.toPeer && mine w.dst) ||
      (decide (w.src < 8192) && mine w.src && (all || !w.toPeer)))
    acks := s.acks.filter fun a => !mine a.sid }

/-- The scrub of a whole partition by SCRUB (R392): its cores, stores, queues, launches (log 32) and shadow bank. -/
def State.scrubPart (s : State) (p : Nat) : State :=
  let s1 := s.endWork p
  let s2 := (s1.partTiles p).foldl State.scrubTile s1
  s2.setPart p { s2.part p with shadow := none, arrived := false }

/-- The host answers that giving up a partition's tags needs first: a line without a tag has no host copy (R234, R253). -/
def State.tagStops (s : State) (p : Nat) : List (Nat × Bool) :=
  (s.l2.tags.filter fun t => decide (t.part = p)).map fun t => (t.line, true)

/-- L2 tags and declared tiles of a partition given up, the key of its default domain redrawn (R420 step 5). -/
def State.releaseMemory (s : State) (p : Nat) : State :=
  let s1 := (s.tiles.filter fun t => decide (t.part = p)).foldl State.undeclare s
  let s2 := s1.releaseTags fun t => decide (t.part = p)
  if s2.domOf p = p then s2.redraw p else s2

/-- A core whose engines and vector unit have given up every command, with no completion (R420 step 3). -/
def Core.abortWork (c : Core) : Core := { c with
  mx := { c.mx with run := none, queue := [] }, se := { c.se with queue := [], cur := none, susp := false }
  vu := ⟨[], none⟩, bars := [], engMsg := [], capt := none }

/-- Steps 1 to 4 of a partition reset begun (R420): regions and work end, deliveries meet R480. -/
def State.beginReset (s : State) (p : Nat) : State :=
  let s1 := (s.partAgents p).foldl (fun t c => t.onCore c fun u =>
    { u.discard with core := { u.discard.core.abortWork with
        act := none, inter := none, parks := Vector.replicate 4 Park.none, frames := []
        ctl := { u.discard.core.ctl with migbusy := 0 } } }) s
  let s2 := (s1.endWork p).dropWires p false
  s2.setPart p { s2.part p with reset := .draining, action := none, askers := [] }

/-- Steps 5 and 6 of a partition reset (R420): it ends neither halted nor running a launch. A held delivery whose packet goes with the
partition's is sent again (R480). -/
def State.finishReset (s : State) (p : Nat) : State :=
  let s0 := (s.scrubPart p).dropWires p true
  let s1 := ((s0.partTiles p).foldl State.scrubWhole s0).releaseMemory p
  let x := s1.part p
  let s2 := s1.setPart p { x with
    ptroot := 0, rcls := Vector.replicate 4 0, dedup := Vector.replicate 4 0, halted := false, stopping := false
    action := none, askers := [], reset := .none }
  let h := s2.sluice
  let net := s2.net.without p
  { s2.dropCached p with
    counts := s2.counts.filter fun e => decide (e.1 % 8388608 / 65536 ≠ p)
    net := net
    wire := s2.wire.map fun w => if w.held && !w.trip.came && w.trip.pkt.any fun id => (net.pkt id).isNone then
      { w with trip := { w.trip with pkt := none } } else w
    sluice := { h with
      busy := h.busy && !(decide (p = 0) && decide (h.holder = 2))
      wins := h.wins.filter fun e => !keyOfPart p 4 e.1
      pba := h.pba.filter fun k => !keyOfPart p 2048 k } }

end Sys2Proof.Machine
end

