-- ==== Sys2Proof/Machine/Manage.lean ====
section
/-! DEFINITION. The management space (R380 to R388, R482): its registers, reads and writes by the two host ports (agents 0
and 1) and the management service core (agent 2), and the notices its changes send. -/

namespace Sys2Proof.Machine

/-! ### Notices (R353, R388) -/

/-- The designated scheduling core of a partition (R380). -/
def State.schedOf (s : State) (p : Nat) : Nat :=
  let m := (s.part p).pmap
  if m.getLsbD 52 then svcOf (bits m 46 40) else bits m 51 40

/-- A lease notice's payload (R388). -/
def leaseWord (code new old p : Nat) : Word := BitVec.ofNat 64 (code * 2 ^ 56 + new * 2 ^ 54 + old * 2 ^ 52 + p)

/-- A lease notice to the scheduling core and the management service core (R388). -/
def State.leaseNotice (s : State) (p code new old : Nat) : State :=
  let q := s.nextOwn (1099511627776 + p)
  let send := fun (t : State) (d : Nat) => t.note 8448 d 58 (mkHdr 0 (t.partOf d) 58 0 1 0 q.1) [leaseWord code new old p]
  send (send q.2 (s.schedOf p)) (svcOf 0)

/-! ### Register fields under management (R7, R380, R387) -/

/-- A word with the fields of a mask replaced. -/
def maskWrite (mask old v : Word) : Word := (old &&& ~~~mask) ||| (v &&& mask)

/-- The PRIV fields of PMAP. -/
def pmapMask : Word := 0xFFFFFF00000003FF#64

/-- The PRIV fields of a CAT entry. -/
def catMask : Word := 0x03FFFFFFFFF80000#64

/-- V and ROOT of PTROOT (R360). -/
def ptrootMask : Word := 0x000FFFFFFFFFF001#64

/-- The PTROOT of a partition written (R360). -/
def State.writePtroot (s : State) (p : Nat) (v : Word) : State :=
  s.setPart p { s.part p with ptroot := v &&& ptrootMask }

/-- What RCLSc holds after a write (R329). -/
def rclsWrite (old v : Word) : Word :=
  let pol := if bits v 7 6 = 3 then bits old 7 6 else bits v 7 6
  let off := if 55 < bits v 5 0 then bits old 5 0 else bits v 5 0
  BitVec.ofNat 64 (bits v 8 8 * 256 + pol * 64 + off)

/-- RCLSc of a partition written. -/
def State.writeRcls (s : State) (p : Nat) (c : BitVec 2) (v : Word) : State :=
  let x := s.part p
  s.setPart p { x with rcls := x.rcls.set c.toNat (rclsWrite (x.rcls[c.toNat]'c.isLt) v) c.isLt }

/-! ### The partition map (R379 to R382) -/

/-- The tiles of a PMAP entry's rectangle of a partition. -/
def rectTiles (p : Nat) (m : Word) : List Nat :=
  (List.range (bits m 9 7 + 1)).flatMap fun j => (List.range (bits m 6 5 + 1)).map fun i =>
    p / 32 * 32 + (bits m 4 2 + j) * 4 + (bits m 1 0 + i)

/-- The tiles that a PMAP entry gives a partition: its rectangle's, when V = 1. -/
def pmapTiles (p : Nat) (m : Word) : List Nat := if m.getLsbD 63 then rectTiles p m else []

/-- The tile a SCHED field names. -/
def schedTile (m : Word) : Nat := if m.getLsbD 52 then bits m 46 40 else tileOf (bits m 51 40)

/-- ST 4 of a PMAP write (R381). The rectangle and SCHED are judged whatever V is. -/
def pmapBad (p : Nat) (m : Word) : Bool :=
  let dom := bits m 60 53
  decide (8 < bits m 4 2 + (bits m 9 7 + 1) ∨ 4 < bits m 1 0 + (bits m 6 5 + 1)) ||
  decide (dom ≠ p ∧ (dom < 128 ∨ 191 < dom)) ||
  !(rectTiles p m).contains (schedTile m) || (m.getLsbD 52 && decide (bits m 51 47 ≠ 0)) ||
  (decide (p = 0) && !(pmapTiles p m).contains 0)

/-- ST 2 of a PMAP write: an overlap with another valid partition. -/
def State.pmapOverlap (s : State) (p : Nat) (m : Word) : Bool :=
  s.parts.any fun e => decide (e.1 ≠ p) && (pmapTiles e.1 e.2.pmap).any (rectTiles p m).contains

/-- Whether a partition has a launch or is halted (R381, ST 3). -/
def State.partBusy (s : State) (p : Nat) : Bool :=
  (s.launches.any fun l => decide (l.part = p)) || (s.part p).halted

/-- ST 3 of a PMAP write. -/
def State.pmapBusy (s : State) (p : Nat) (m : Word) : Bool :=
  let old := (s.part p).pmap
  let changes := (old ^^^ m) &&& 0xDFE00000000003FF#64 != 0
  changes && s.partBusy p

/-- The domain of a PMAP entry, when V = 1. -/
def pmapDom (m : Word) : Option Nat := if m.getLsbD 63 then some (bits m 60 53) else none

/-- The tags that a change of a partition's domain affects (R249). -/
def domTags (p : Nat) (old new : Option Nat) (t : L2Tag) : Bool :=
  decide (old ≠ new) && decide (t.part = p ∨ some t.dom = old ∨ some t.dom = new)

/-- A key drawn for a domain. -/
def State.drawFor (s : State) (d : Option Nat) : State := match d with | some x => s.redraw x | none => s

/-- A change of a partition's domain in effect, its creation with V included: every affected tag is released and the keys are
drawn anew (R244, R249). -/
def State.changeDom (s : State) (p : Nat) (old new : Option Nat) : State :=
  if old = new then s else ((s.releaseTags (domTags p old new)).drawFor old).drawFor new

/-- The tiles that leave a partition by a PMAP write. -/
def State.goneTiles (s : State) (p : Nat) (m : Word) : List Nat :=
  (pmapTiles p (s.part p).pmap).filter fun t => !(pmapTiles p m).contains t

/-- A PMAP write that passes (R381): tiles that leave are scrubbed, in the shadow banks too; the tiles' membership, from which
the routers' bitmaps follow (R327), is the new one. -/
def State.applyPmap (s : State) (p : Nat) (m : Word) : State :=
  let old := (s.part p).pmap
  let gone := s.goneTiles p m
  let s0 := (gone.foldl State.scrubWhole s).scrubShadow p gone
  let s1 := s0.setNet (s0.net.withoutTiles p gone)
  let s2 : State := { s1 with
    tilePart := (pmapTiles p m).foldl (fun l t => setAt l t p) (s1.tilePart.filter fun e => decide (e.2 ≠ p)) }
  let s3 := s2.changeDom p (pmapDom old) (pmapDom m)
  s3.setPart p { s3.part p with pmap := m }

/-- The status with which a PMAP write by a holder of MSEM is refused, or 0 (R381). -/
def State.pmapStatus (s : State) (p : Nat) (m : Word) : Nat :=
  if pmapBad p m then 4 else if s.pmapOverlap p m then 2 else if s.pmapBusy p m then 3 else 0

/-- What a PMAP write leaves in the entry. -/
def State.pmapNew (s : State) (p : Nat) (v : Word) : Word := maskWrite pmapMask (s.part p).pmap v

/-- The status of a PMAP write by a holder of MSEM, and the state (R381; log 27). -/
def State.writePmap (s : State) (p : Nat) (v : Word) : Nat × State :=
  let m := s.pmapNew p v
  (s.pmapStatus p m, if s.pmapStatus p m = 0 then s.applyPmap p m else s)

/-- The host answers that a PMAP write needs first (R253): for the lines of tiles that leave, and those whose tags go. -/
def State.pmapStops (s : State) (p : Nat) (v : Word) : List (Nat × Bool) :=
  let m := s.pmapNew p v
  if s.pmapStatus p m ≠ 0 then []
  else s.tileStops (s.goneTiles p m) ++
    (s.l2.tags.filter (domTags p (pmapDom (s.part p).pmap) (pmapDom m))).map fun t => (t.line, true)

/-! ### Leases (R387, R388) -/

/-- HOLD. -/
def leaseHold (l : Word) : Nat := bits l 63 62

/-- LEASE with REM := EXP. -/
def leaseRenew (l : Word) : Word := maskWrite (0x3FF#64 <<< 40) l ((l >>> 50) <<< 40)

/-- LEASE with HOLD and STBY. -/
def leaseSet (l : Word) (hold stby : Nat) : Word :=
  maskWrite (0xF#64 <<< 60) l (BitVec.ofNat 64 (hold * 2 ^ 62 + stby * 2 ^ 60))

/-- The fields of a management write of LEASE: HOLD 3 and EXP outside 1 to 1,000 leave their fields (R387). STBY is coded as
HOLD, so 3 leaves it too. -/
def leaseWrite (old v : Word) : Word :=
  let hold := if bits v 63 62 = 3 then bits old 63 62 else bits v 63 62
  let stby := if bits v 61 60 = 3 then bits old 61 60 else bits v 61 60
  let exp := if bits v 59 50 = 0 ∨ 1000 < bits v 59 50 then bits old 59 50 else bits v 59 50
  BitVec.ofNat 64 (hold * 2 ^ 62 + stby * 2 ^ 60 + exp * 2 ^ 50 + bits old 49 40 * 2 ^ 40)

/-- A management write of LEASE[p]: a change of HOLD renews it and sends code 0x22. -/
def State.writeLease (s : State) (p : Nat) (v : Word) : State :=
  let old := (s.part p).lease
  let new := leaseWrite old v
  if leaseHold new = leaseHold old then s.setPart p { s.part p with lease := new }
  else (s.setPart p { s.part p with lease := leaseRenew new }).leaseNotice p 0x22 (leaseHold new) (leaseHold old)

/-- RENEW from a port: only the holder's counts (R387). -/
def State.renewLease (s : State) (port p : Nat) : State :=
  let l := (s.part p).lease
  if leaseHold l = port + 1 then s.setPart p { s.part p with lease := leaseRenew l } else s

/-! ### Coolant entries (R348) -/

/-- A CAT entry as read. -/
def State.catWord (s : State) (z : Nat) : Word :=
  let x := s.zone z
  x.cat ||| BitVec.ofNat 64 (x.valve.toNat * 2 ^ 58 + (if x.fnc then 2 ^ 18 else 0) + x.st.toNat * 2 ^ 15 + s.gcls z * 2 ^ 13)

/-- Whether a launch runs in a zone. -/
def State.zoneRuns (s : State) (z : Nat) : Bool := s.launches.any fun l => l.running && l.zones.contains z

/-- VMAX and TTGT, whose writes wait for the end of a sequence under way. -/
def catLate : Word := 0x03F0000007F80000#64

/-- The fields a CAT write may change now: not ALLOT, VMAX and SHR while a launch runs in the zone. -/
def State.catMaskNow (s : State) (z : Nat) : Word :=
  if s.zoneRuns z then catMask &&& ~~~0x03F407F800000000#64 else catMask

/-- FNC written with 1: the zone is unfenced outside a sequence, and ST is 0 (R355). -/
def State.unfence (s : State) (z : Nat) : State :=
  let x := s.zone z
  if x.spill = .none ∧ x.fnc then s.setZone z { x with fnc := false, st := 0 } else s

/-- A write of a CAT entry (R348): VMAX and TTGT wait for the end of a sequence under way. -/
def State.writeCat (s : State) (z : Nat) (v : Word) : State :=
  let x := s.zone z
  let m := s.catMaskNow z
  let x1 := if x.spill = .none then { x with cat := maskWrite m x.cat v }
    else { x with cat := maskWrite (m &&& ~~~catLate) x.cat v, later := some (maskWrite (m &&& catLate) (x.later.getD x.cat) v) }
  let s1 := s.setZone z x1
  if v.getLsbD 18 then s1.unfence z else s1

/-! ### MSEM and MSTAT (R385, R386) -/

/-- MSEM. -/
def Sluice.msem (h : Sluice) : Word := BitVec.ofNat 64 (h.holder.toNat * 2 + (if h.busy then 1 else 0))

/-- MSTAT. -/
def Sluice.mstat (h : Sluice) : Word := BitVec.ofNat 64 (h.deny.toNat * 2 ^ 32 + h.mst.toNat)

/-- A read of MSEM: the value before, and the test-and-set. -/
def State.readMsem (s : State) (agent : Nat) : State × Word :=
  let v := s.sluice.msem
  (if s.sluice.busy then s else { s with sluice := { s.sluice with busy := true, holder := BitVec.ofNat 2 agent } }, v)

/-- Whether an agent holds MSEM. -/
def State.holdsMsem (s : State) (agent : Nat) : Bool := s.sluice.busy && decide (s.sluice.holder.toNat = agent)

/-- BUSY written with 0 by the holder. -/
def State.releaseMsem (s : State) (agent : Nat) : State :=
  if s.holdsMsem agent then { s with sluice := { s.sluice with busy := false } } else s

/-- MSTAT.ST set. -/
def State.setSt (s : State) (st : Nat) : State := { s with sluice := { s.sluice with mst := BitVec.ofNat 3 st } }

/-- A write that needs MSEM: dropped and counted without it (R380, R386), else its status stands in MSTAT.ST. -/
def State.guarded (s : State) (agent : Nat) (f : State → Nat × State) : State :=
  if s.holdsMsem agent then
    let r := f s
    r.2.setSt r.1
  else
    let d := s.sluice.deny
    ({ s with sluice := { s.sluice with deny := if d = 0xFFFFFFFF then d else d + 1 } }).setSt 1

/-! ### Boot blocks (R482) -/

/-- Whether a PRESET record may lie at an address of a service core's local store. -/
def storeRoom (a : Nat) : Bool := decide (a % 64 = 0 ∧ a < 0x40000)

/-- The handler table of a service core replaced, queued messages staying (R482). -/
def Core.reload (c : Core) (image : List Word) : Core :=
  { c with
    chans := Vector.ofFn fun i : Fin 64 => { chanOf i.val (dw image i.val) with queue := (c.chans[i]).queue }
    ctl := { c.ctl with chen := chenOf image }
    rr := 0 }

/-- A doubleword of the image that LOAD reads, as a service-core read (R365, R482): an address in a window is no translated
address (log 57), a device page's content is free (log 17), poisoned bytes raise POISON (R415). -/
def State.readEntry (s : State) (sid va : Nat) : State × Except XFault Word :=
  if inWindows va then (s, .error ⟨0x0A, 0x00, 0, none⟩)
  else
    match s.translate sid va .read with
    | (s1, .error f) => (s1, .error f)
    | (s1, .ok x) =>
      if ptePol x.leaf = 2 then (s1.free.2, .ok s1.free.1)
      else if (s1.hostBlock (s1.readStops sid (s1.cachedLeaf x.pa x.leaf) (lineOf x.pa))).isSome then (s1, .error ⟨0, 0, 0, some (lineOf x.pa)⟩)
      else if s1.meetsPoison (s1.cacheFor sid) x.pa 8 then (s1, .error ⟨poisonCause x.pa, if inHost x.pa 1 then 0 else 1, 0, none⟩)
      else (s1.readLine sid (s1.cachedLeaf x.pa x.leaf) (dedupBit x.leaf) (lineOf x.pa), .ok (s1.mem.read64 x.pa))

/-- The image read of LOAD: the address and the fault that end it, or the entries. -/
def State.readTable (s : State) (sid va : Nat) : Nat → State × Except (Nat × XFault) (List Word)
  | 0 => (s, .ok [])
  | n + 1 =>
    match s.readEntry sid va with
    | (s1, .error f) => (s1, .error (va, f))
    | (s1, .ok w) =>
      match s1.readTable sid (va + 8) n with
      | (s2, .error f) => (s2, .error f)
      | (s2, .ok l) => (s2, .ok (w :: l))

/-- What LOAD finds: a fault and its address, a bad image (none), or the image, channel 56's entry ignored (R482). -/
def State.loadTable (s : State) (tile : Nat) : State × Except (Nat × XFault) (Option (List Word)) :=
  let sid := svcOf tile
  let c := s.coreAt sid
  match s.readTable sid c.ctl.shtab.toNat 64 with
  | (s1, .error f) => (s1, .error f)
  | (s1, .ok l0) =>
    let l := l0.set 56 0
    let bad := (List.range 64).any fun i => entryBad i (bits c.ctl.scode 63 48) storeRoom (dw l i)
    (s1, .ok (if bad then none else some l))

/-- LOAD through the management space (R482): ST 4 for a bad image or a fault of its read (log 27). -/
def State.loadMgmt (s : State) (tile : Nat) : Nat × State :=
  match s.loadTable tile with
  | (s1, .ok (some l)) => (0, s1.setCore (svcOf tile) ((s1.coreAt (svcOf tile)).reload l))
  | (s1, _) => (4, s1)

/-- The host answers that a LOAD needs first (R253, R369). -/
def State.loadStops (s : State) (tile : Nat) : List (Nat × Bool) :=
  match s.loadTable tile with
  | (_, .error (_, ⟨_, _, _, some line⟩)) => [(line, false)]
  | _ => []

/-- SCODE with its zero bits. -/
def scodeMask : Word := 0xFFFFFFFFFFFFF000#64
/-- SHTAB with its zero bits. -/
def shtabMask : Word := 0x0000FFFFFFFFFFC0#64

/-- SCODE or SHTAB of a service core written. -/
def State.writeBoot (s : State) (sid : Nat) (shtab : Bool) (v : Word) : State :=
  let c := s.coreAt sid
  s.setCore sid { c with ctl :=
    if shtab then { c.ctl with shtab := v &&& shtabMask } else { c.ctl with scode := v &&& scodeMask } }

/-- Whether a tile belongs to a valid partition. -/
def State.tileValid (s : State) (tile : Nat) : Bool :=
  match s.partOfTile tile with
  | some p => (s.part p).pmap.getLsbD 63
  | none => false

/-- A management write in a boot block: refused with ST 4 for a tile of no valid partition. -/
def State.bootWrite (s : State) (tile r : Nat) (v : Word) : Nat × State :=
  if !s.tileValid tile then (4, s)
  else if r = 0 then (0, s.writeBoot (svcOf tile) false v)
  else if r = 8 then (0, s.writeBoot (svcOf tile) true v)
  else if r = 16 ∧ v.getLsbD 0 then s.loadMgmt tile
  else (0, s)

/-! ### The space (R383, R384) -/

/-- Eight slot-table bytes from a byte number. -/
def Net.slotDw (n : Net) (k : Nat) : Word :=
  BitVec.ofNat 64 ((List.range 8).foldl (fun a i => a + (getAt 0 n.slots (k + i)).toNat * 256 ^ i) 0)

/-- Eight slot-table bytes written. -/
def Net.putSlots (n : Net) (k : Nat) (v : Word) : Net :=
  { n with slots := (List.range 8).foldl (fun l i => setAt l (k + i) (v.extractLsb' (8 * i) 8)) n.slots }

/-- A doubleword of the management space read by an agent (R384). -/
def State.mgmtRead (s : State) (agent off : Nat) : State × Word :=
  let p := off / 8 % 128
  if off = 0 then s.readMsem agent
  else (s,
    if off = 8 then s.sluice.mstat
    else if 0x1000 ≤ off ∧ off < 0x1400 then (s.part p).pmap
    else if 0x2000 ≤ off ∧ off < 0x2400 then (s.part p).lease
    else if 0x3000 ≤ off ∧ off < 0x3100 then s.catWord (off / 8 % 32)
    else if 0x3200 ≤ off ∧ off < 0x3400 then
      (if off / 8 % 2 = 0 then (s.zone (off / 16 % 32)).sens0 else (s.zone (off / 16 % 32)).sens1)
    else if 0x4000 ≤ off ∧ off < 0x4400 then (s.part p).quota
    else if 0x5000 ≤ off ∧ off < 0x5400 then (s.part p).ptroot
    else if 0x6000 ≤ off ∧ off < 0x6040 then (getAt 0 s.sluice.vhb (off / 8 % 8)).setWidth 64
    else if 0x8000 ≤ off ∧ off < 0x9000 then
      (let c := s.coreAt (svcOf (off / 32 % 128))
       if off % 32 = 0 then c.ctl.scode else if off % 32 = 8 then c.ctl.shtab else 0)
    else if 0x10000 ≤ off ∧ off < 0x11800 then s.net.slotDw (off - 0x10000)
    else if 0x20000 ≤ off ∧ off < 0x22000 then s.dedupDw (off / 64 % 128) (off / 8 % 8)
    else if 0x40000 ≤ off ∧ off < 0x50000 then s.peerRoute (off / 512 % 128) (off / 8 % 64)
    else 0)

/-- A doubleword of the management space written by an agent (R384). -/
def State.mgmtWrite (s : State) (agent off : Nat) (v : Word) : State :=
  let p := off / 8 % 128
  if off = 0 then (if v.getLsbD 0 then s else s.releaseMsem agent)
  else if off = 8 then { s with sluice := { s.sluice with deny := s.sluice.deny &&& ~~~(v.extractLsb' 32 32) } }
  else if 0x1000 ≤ off ∧ off < 0x1400 then s.guarded agent fun t => t.writePmap p v
  else if 0x2000 ≤ off ∧ off < 0x2400 then
    (let s1 := if v.getLsbD 0 ∧ agent < 2 then s.renewLease agent p else s
     if v.getLsbD 0 ∧ v >>> 1 = 0 then s1 else s1.guarded agent fun t => (0, t.writeLease p v))
  else if 0x3000 ≤ off ∧ off < 0x3100 then s.guarded agent fun t => (0, t.writeCat (off / 8 % 32) v)
  else if 0x4000 ≤ off ∧ off < 0x4400 then s.guarded agent fun t => (0, t.setPart p { t.part p with quota := v })
  else if 0x5000 ≤ off ∧ off < 0x5400 then s.guarded agent fun t => (0, t.writePtroot p v)
  else if 0x6000 ≤ off ∧ off < 0x6040 then
    s.guarded agent fun t => (0, { t with sluice := { t.sluice with
      vhb := setAt t.sluice.vhb (off / 8 % 8) (v.extractLsb' 0 2) } })
  else if 0x8000 ≤ off ∧ off < 0x9000 then s.guarded agent fun t => t.bootWrite (off / 32 % 128) (off % 32) v
  else if 0x10000 ≤ off ∧ off < 0x11800 then
    s.guarded agent fun t => (0, { t with net := t.net.putSlots (off - 0x10000) v })
  else if 0x40000 ≤ off ∧ off < 0x50000 then
    s.guarded agent fun t => (0, { t with sluice := { t.sluice with
      proutes := setAt t.sluice.proutes (off / 512 % 128 * 64 + off / 8 % 64) (v &&& 0xFFF8000000000000#64) } })
  else s

/-- The host answers that a management write needs before it takes effect (R253). -/
def State.mgmtStops (s : State) (agent off : Nat) (v : Word) : List (Nat × Bool) :=
  if !s.holdsMsem agent then []
  else if 0x1000 ≤ off ∧ off < 0x1400 then s.pmapStops (off / 8 % 128) v
  else if 0x8000 ≤ off ∧ off < 0x9000 ∧ off % 32 = 16 ∧ v.getLsbD 0 ∧ s.tileValid (off / 32 % 128) then
    s.loadStops (off / 32 % 128)
  else []

/-- A write of an agent in the management space. While it waits for hosts, MSTAT.ST reads 7 (R386, R482). -/
def State.mgmtAct (s : State) (name : String) (agent off : Nat) (v : Word) : Out :=
  match s.hostBlock (s.mgmtStops agent off v) with
  | some x => (s.setSt 7).awaitFor name x.1 x.2 .other
  | none => .next (s.mgmtWrite agent off v)

/-- A host's read of `len` bytes of the management space: all ones but for a naturally aligned doubleword (R383). -/
def State.hostMgmtRead (s : State) (port off len : Nat) : State × Word :=
  if len = 8 ∧ off % 8 = 0 ∧ off < 1048576 then s.mgmtRead port off else (s, 0xFFFFFFFFFFFFFFFF#64)

/-! ### The MSI-X tables (R389 to R391) -/

/-- A pending vector that its host no longer masks, sent by its port (R391). -/
def State.sendPending (s : State) (k : Nat) : State :=
  if s.sluice.pba.contains k && !s.msixMasked k then
    { s with sluice := { s.sluice with pba := s.sluice.pba.filter (· ≠ k), msi := s.sluice.msi ++ [(k / 262144, k)] } }
  else s

/-- A doubleword of a vector's table entry written by a host (R390): the message address, or the data and vector control. A
vector that it unmasks and that is pending is sent. -/
def State.writeVector (s : State) (k : Nat) (hi : Bool) (v : Word) : State :=
  let e := getAt (0, 0x100000000#64) s.sluice.msix k
  ({ s with sluice := { s.sluice with msix := setAt s.sluice.msix k (if hi then (e.1, v) else (v, e.2)) } }).sendPending k

/-- A host's write of a doubleword in the function registers of a partition (R390), but for the windows, whose writes are
HOST_CHANNEL_WRITE: the MSI-X table, and RENEW in LEASE. -/
def State.funcWrite (s : State) (port part off : Nat) (v : Word) : State :=
  if 0x8000 ≤ off ∧ off < 0x10000 then s.writeVector (vecKey port part ((off - 0x8000) / 16)) (off % 16 = 8) v
  else if off = 0x4000 ∧ v.getLsbD 0 then s.renewLease port part
  else s

/-! ### Events of the space -/

/-- Whether an agent can reach the management space: a port whose link is up, or the management service core. -/
def State.mgmtAgent (s : State) (agent : Nat) : Bool :=
  decide (s.stage = .b1 ∨ s.stage = .b2 ∨ s.stage = .b3) &&
  (decide (agent = 2) || (decide (agent < 2) && s.sluice.up.toList.getD agent false))

/-- RCLS_WRITE (R329). -/
def execRclsWrite (part : Nat) (c : BitVec 2) (v : Word) (s : State) : Out :=
  enabledIf "RCLS_WRITE" (decide (part < 128)) (s.writeRcls part c v)

/-- Whether the function of a partition answers: partition 0's always, another's while V = 1 (R389). -/
def State.funcThere (s : State) (part : Nat) : Bool := decide (part < 128) && (decide (part = 0) || (s.part part).pmap.getLsbD 63)

/-- A write by an agent that can reach the management space. -/
def State.mgmtEvent (s : State) (name : String) (b : Bool) (agent off : Nat) (v : Word) : Out :=
  if s.mgmtAgent agent && b then s.mgmtAct name agent off v else notEnabled name

/-- PTROOT_WRITE by management (R360, R384): agent · 128 + partition, and the value. -/
def execPtrootWrite (who : Nat) (v : Word) (s : State) : Out :=
  s.mgmtEvent "PTROOT_WRITE" true (who / 128) (0x5000 + 8 * (who % 128)) v

/-- What MIGCFG holds after a write (R403). -/
def migcfgWrite (old busy v : Word) : Word :=
  let m := v &&& 0x0000000080FFFE00#64
  if busy ≠ 0 ∨ 512 < bits m 17 9 + (bits m 23 18 + 1) then old else m

/-- MIGCFG of a service core written. -/
def State.writeMigcfg (s : State) (sid : Nat) (v : Word) : State :=
  let c := s.coreAt sid
  s.setCore sid { c with ctl := { c.ctl with migcfg := migcfgWrite c.ctl.migcfg c.ctl.migbusy v } }

/-- MIGCFG_WRITE (R403). -/
def execMigcfgWrite (tile : Nat) (v : Word) (s : State) : Out :=
  enabledIf "MIGCFG_WRITE" (decide (tile < 128)) (s.writeMigcfg (svcOf tile) v)

/-- The offset MGA holds. -/
def mgaOff (c : Core) : Nat := bits c.ctl.mga 19 3 * 8

/-- MGD_ACCESS (R383): the management service core reads into A, or writes, the doubleword at its MGA. -/
def execMgdAccess (write : Bool) (v : Word) (s : State) : Out :=
  let c := s.coreAt (svcOf 0)
  if !s.dieRuns 0 then notEnabled "MGD_ACCESS"
  else if write then s.mgmtAct "MGD_ACCESS" 2 (mgaOff c) v
  else
    let q := s.mgmtRead 2 (mgaOff c)
    let k := q.1.coreAt (svcOf 0)
    .next (q.1.setCore (svcOf 0) { k with r := { k.r with a := q.2 } })

/-- LOAD through SCTL (R384, R482): agent · 128 + tile. -/
def execLoad (who : Nat) (s : State) : Out :=
  s.mgmtEvent "LOAD" true (who / 128) (0x8000 + 32 * (who % 128) + 16) 1

/-- Whether the PF's capability answers: in B1 and later, and in a B0 that both slots leave in place (R426, R428). -/
def State.pfAnswers (s : State) : Bool := decide (s.stage ≠ .off ∧ (s.stage ≠ .b0 ∨ s.sluice.fail = 2))

/-- A write of BSTAT: HOLD is its only writable field (R428). -/
def State.writeBstat (s : State) (v : Word) : State := { s with sluice := { s.sluice with hold := v.getLsbD 8 } }

/-- REGISTER_WRITE: a doubleword write in the management space (R380, R383); from 1 MiB on, by a port in the function registers of a
partition, 64 KiB each (R389, R390); at 16 MiB + 8, by a port to BSTAT (R428; log 27). One that is not naturally aligned, or goes to
an absent function, is dropped. -/
def execRegisterWrite (agent off : Nat) (v : Word) (s : State) : Out :=
  if off = 0x1000008 then
    enabledIf "REGISTER_WRITE" (decide (agent < 2) && s.pfAnswers && (decide (s.stage = .b0) || s.sluice.up.toList.getD agent false))
      (s.writeBstat v)
  else if off < 1048576 then
    if off % 8 = 0 then s.mgmtEvent "REGISTER_WRITE" true agent off v
    else enabledIf "REGISTER_WRITE" (s.mgmtAgent agent) s
  else
    let part := off / 65536 - 16
    let o := off % 65536
    enabledIf "REGISTER_WRITE" (decide (agent < 2 ∧ part < 128 ∧ 0x4000 ≤ o) && s.mgmtAgent agent)
      (if s.funcThere part && decide (o % 8 = 0) then s.funcWrite agent part o v else s)

/-- CAT_WRITE (R348). -/
def execCatWrite (agent z : Nat) (v : Word) (s : State) : Out :=
  s.mgmtEvent "CAT_WRITE" (decide (z < 32)) agent (0x3000 + 8 * z) v

/-- FNC_WRITE: FNC written with 1 and no other field changed (R348, R355). -/
def execFncWrite (agent z : Nat) (s : State) : Out :=
  s.mgmtEvent "FNC_WRITE" (decide (z < 32)) agent (0x3000 + 8 * z) ((s.zone z).cat ||| 0x40000)

/-- MSEM_READ (R385). The value goes to the reader. -/
def execMsemRead (agent : Nat) (s : State) : Out :=
  enabledIf "MSEM_READ" (s.mgmtAgent agent) (s.hostMgmtRead agent 0 8).1

/-- MSEM_RELEASE (R385). -/
def execMsemRelease (agent : Nat) (s : State) : Out := s.mgmtEvent "MSEM_RELEASE" true agent 0 0

/-- PMAP_WRITE (R381). -/
def execPmapWrite (agent part : Nat) (v : Word) (s : State) : Out :=
  s.mgmtEvent "PMAP_WRITE" (decide (part < 128)) agent (0x1000 + 8 * part) v

/-- LEASE_WRITE (R387). -/
def execLeaseWrite (agent part : Nat) (v : Word) (s : State) : Out :=
  s.mgmtEvent "LEASE_WRITE" (decide (part < 128)) agent (0x2000 + 8 * part) v

/-- RENEW through a function's LEASE register (R387, R390); an absent function answers Unsupported Request (R389). -/
def execRenew (port part : Nat) (s : State) : Out :=
  enabledIf "RENEW" (s.sluice.up.toList.getD port false && decide (part < 128))
    (if s.funcThere part then s.renewLease port part else s)

/-- A lease with REM one less. -/
def leaseTick (l : Word) : Word :=
  if bits l 49 40 = 0 then l else l - (1#64 <<< 40)

/-- LEASE_TICK (R387): every non-zero REM falls by one; the expiry of each that reaches 0 belongs to the same tick, so
those turns come next. -/
def execLeaseTick (s : State) : Out :=
  let hit := (s.parts.filter fun e => decide (bits e.2.lease 49 40 = 1)).map (·.1)
  .next { s with
    parts := s.parts.map fun e => (e.1, { e.2 with lease := leaseTick e.2.lease })
    sluice := { s.sluice with expiring := hit }
    agenda := hit.map (fun p => ⟨0, .expiry p⟩) ++ s.agenda }

/-- LEASE_EXPIRY (R388): the standby takes over when its link is up, else the lease lapses. -/
def execLeaseExpiry (part : Nat) (s0 : State) : Out :=
  let l := (s0.part part).lease
  let s : State := { s0 with sluice := { s0.sluice with expiring := s0.sluice.expiring.filter (· ≠ part) } }
  let hold := leaseHold l
  let stby := bits l 61 60
  if !s0.sluice.expiring.contains part then notEnabled "LEASE_EXPIRY"
  else if (stby = 1 ∨ stby = 2) ∧ stby ≠ hold ∧ s.sluice.up.toList.getD (stby - 1) false then
    .next ((s.setPart part { s.part part with lease := leaseRenew (leaseSet l stby 0) }).leaseNotice part 0x20 stby hold)
  else .next ((s.setPart part { s.part part with lease := leaseSet l 0 0 }).leaseNotice part 0x21 0 hold)

end Sys2Proof.Machine
end

