-- ==== Sys2Proof/Machine/Registers.lean ====
section
/-! DEFINITION. MFC and MTC (R303) and the control registers they name (R288 to R292, R402). -/

namespace Sys2Proof.Machine

/-- GANG (R289). -/
def gangWord (x : Seat) : Word :=
  BitVec.ofNat 64 (x.y0.toNat * 2 ^ 40 + x.x0.toNat * 2 ^ 32 + x.h1.toNat * 2 ^ 24 + x.w1.toNat * 2 ^ 16 +
    x.ry.toNat * 2 ^ 8 + x.rx.toNat)

/-- Whether a channel is pending (R274): a queued message, a bare pend, or a resumed region. -/
def Core.pending (c : Core) (n : BitVec 6) : Bool :=
  !(c.chan n).queue.isEmpty || (c.chan n).bare ||
  c.parks.toList.any fun p => decide (p.st = .resumed ∧ p.chan = n)

/-- The pending bits of all channels. -/
def Core.chpn (c : Core) : BitVec 64 :=
  BitVec.ofNat 64 ((List.range 64).foldl (fun a i => a + (if c.pending (BitVec.ofNat 6 i) then 2 ^ i else 0)) 0)

/-- The cycles of a die since its reset (R288). -/
def State.cyc (s : State) (d : Nat) : Word := BitVec.ofNat 64 (s.now - s.dieBase.toList.getD d 0)

/-- PAIR (R291): SIDE reads 0. -/
def State.pairWord (s : State) : Word :=
  if s.paired (s.partOf s.focus) && !s.svc then BitVec.ofNat 64 (s.core.ctl.mism.toNat * 65536 + 1) else 0

/-- ZONE (R292). -/
def State.zoneWord (s : State) : Word :=
  let z := zoneOfTile (tileOf s.focus)
  let pc := match s.core.seat with | some x => x.pcls.toNat | none => 0
  BitVec.ofNat 64 (pc * 256 + (s.zone z).st.toNat * 32 + z)

/-- The control register of a number as the agent in focus reads it; a read of MGD acts on the management space. -/
def State.readCtl (s : State) (n : Nat) : State × Word :=
  let c := s.core
  let x := s.part (s.partOf s.focus)
  if n = 0x99 then s.mgmtRead 2 (mgaOff c)
  else (s,
    if n = 0x00 then BitVec.ofNat 64 s.focus
    else if n = 0x01 then BitVec.ofNat 64 (s.partOf s.focus)
    else if n = 0x02 then c.lid.setWidth 64
    else if n = 0x03 then (match c.seat with | some y => gangWord y | none => 0)
    else if n = 0x04 then (c.ctl.chen.extractLsb' 0 32).setWidth 64
    else if n = 0x05 then ((c.ctl.chen ||| chenBit56).extractLsb' 32 32).setWidth 64
    else if n = 0x06 then (c.chpn.extractLsb' 0 32).setWidth 64
    else if n = 0x07 then (c.chpn.extractLsb' 32 32).setWidth 64
    else if n = 0x08 then c.ctl.cmask.setWidth 64
    else if n = 0x09 then c.ctl.rmode
    else if n = 0x0A then c.ctl.xseed
    else if n = 0x0B then (s.cluster (clusterOf (srcId s.focus))).damp.setWidth 64
    else if n = 0x0C then c.ctl.fcode.setWidth 64
    else if n = 0x0D then s.cyc (dieOf s.focus)
    else if n = 0x0E then s.pairWord
    else if n = 0x0F then s.zoneWord
    else if n = 0x81 then c.ctl.migcfg
    else if n = 0x82 then c.ctl.migbusy
    else if n = 0x84 then c.ctl.scode
    else if n = 0x85 then c.ctl.shtab
    else if n = 0x88 then x.ptroot
    else if 0x90 ≤ n ∧ n < 0x94 then x.rcls.toList.getD (n - 0x90) 0
    else if n = 0x98 then c.ctl.mga
    else 0)

/-- MFC (R303). -/
def execMfc (px : List Prefix) (imm : BitVec 8) (st : State) : Out :=
  runInstr (.mfc px imm) st (fun _ st =>
    let q := st.readCtl imm.toNat
    .ok (q.1.setA q.2))

/-- RMODE after a write (R290). -/
def rmodeWrite (old v : Word) : Word :=
  let rm := if 5 ≤ bits v 2 0 then bits old 2 0 else bits v 2 0
  BitVec.ofNat 64 (bits v 3 3 * 8 + rm)

/-- CHEN with 32 of its bits replaced, channel 56's never (R272). -/
def chenWrite (old : BitVec 64) (hi : Bool) (v : Word) : BitVec 64 :=
  (if hi then v.extractLsb' 0 32 ++ old.extractLsb' 0 32 else old.extractLsb' 32 32 ++ v.extractLsb' 0 32) &&& ~~~chenBit56

/-- SLOAD (R482): with A[0] = 1 the handler table is loaded; OPND 0x32 for a bad image. -/
def State.sload (s : State) (v : Word) : Except Stop State :=
  if ¬ v.getLsbD 0 then .ok s
  else
    match s.loadTable (tileOf s.focus) with
    | (_, .error (va, f)) =>
      if f.cause = 0x11 ∨ f.cause = 0x1A then trapAt f.cause f.detail (BitVec.ofNat 64 va)
      else .error (xlatStop f 0 .read s.focus va none)
    | (_, .ok none) => trapAt 0x07 0x32 s.core.ctl.shtab
    | (s1, .ok (some l)) => .ok (s1.upd fun c => c.reload l)

/-- A write of MGD (R383): a host access's effects, once hosts have answered what it needs (R253). -/
def State.mgdWrite (s : State) (v : Word) : Except Stop State :=
  match stopFor (s.hostBlock (s.mgmtStops 2 (mgaOff s.core) v)) with
  | .error e => .error e
  | .ok _ => .ok (s.mgmtWrite 2 (mgaOff s.core) v)

/-- A control register written by the agent in focus; a write of a read-only one is ignored (R7, R303). -/
def State.writeCtl (s : State) (n : Nat) (v : Word) : Except Stop State :=
  let ctl := fun (f : Ctl → Ctl) => s.upd fun c => { c with ctl := f c.ctl }
  let p := s.partOf s.focus
  if n = 0x04 then .ok (ctl fun k => { k with chen := chenWrite k.chen false v })
  else if n = 0x05 then .ok (ctl fun k => { k with chen := chenWrite k.chen true v })
  else if n = 0x08 then .ok (ctl fun k => { k with cmask := v.extractLsb' 0 8 })
  else if n = 0x09 then .ok (ctl fun k => { k with rmode := rmodeWrite k.rmode v })
  else if n = 0x0A then .ok (ctl fun k => { k with xseed := v })
  else if n = 0x81 then .ok (s.writeMigcfg s.focus v)
  else if n = 0x84 then .ok (s.writeBoot s.focus false v)
  else if n = 0x85 then .ok (s.writeBoot s.focus true v)
  else if n = 0x86 then s.sload v
  else if n = 0x88 then .ok (s.writePtroot p v)
  else if 0x90 ≤ n ∧ n < 0x94 then .ok (s.writeRcls p (BitVec.ofNat 2 (n - 0x90)) v)
  else if n = 0x98 then .ok (ctl fun k => { k with mga := v &&& 0x00000000000FFFF8#64 })
  else if n = 0x99 then s.mgdWrite v
  else .ok s

/-- MTC (R303). -/
def execMtc (px : List Prefix) (imm : BitVec 8) (st : State) : Out :=
  runInstr (.mtc px imm) st (fun _ st => st.writeCtl imm.toNat st.core.r.a)

end Sys2Proof.Machine
end

