-- ==== Sys2Proof/Machine/Exception.lean ====
section
/-! DEFINITION. Traps and service calls (R318, R404), the return from a migration (R406), and the errors of chapter 17 that
end or rerun a region (R202, R248, R415 to R419). -/

namespace Sys2Proof.Machine

/-! ### TRAP and SVC -/

/-- TRAP #n: cause TRAP with detail n and info 0; the region's start migrates (R404). -/
def execTrap (px : List Prefix) (n : BitVec 8) (st : State) : Out :=
  runInstr (.trap px n) st (fun _ _ => .error (.trap ⟨0x30, n, some 0, 0, 0, 0⟩))

/-- SVC #n: the region commits with the program counter behind the SVC, then cause SVC is raised with A[15:0] as info
(R318, R395). -/
def execSvc (px : List Prefix) (s : BitVec 6) (w1 : W1) (st : State) : Out :=
  match (Instr.svc px s w1).parts, attrsOf (.svc px s w1) with
  | some p, some a =>
    st.atBoundary fun s1 =>
      match s1.contextFault p a with
      | some t => .next (s1.takeFault (s1.site p) t)
      | none =>
        let t := (s1.retire s1 (partsLen p)).commit
        s1.whenClear (.next (t.takeFault (s1.site p) ⟨0x31, w1.aux.setWidth 8, some (t.core.r.a.extractLsb' 0 16), 0, 0, 0⟩))
  | _, _ => .refused (.notEnabled "INSTRUCTION")

/-! ### ERET (R405, R406) -/

/-- The frame that starts at a local address and is in use. -/
def frameAt (migcfg migbusy f : Word) : Option Nat :=
  (List.range 64).find? fun k =>
    decide (k ≤ bits migcfg 23 18 ∧ f = BitVec.ofNat 64 (frameAddr migcfg k)) && migbusy.getLsbD k

/-- Whether FLG keeps R20. -/
def flgOk (g : Word) : Bool := decide (bits g 63 16 = 0 ∧ bits g 11 9 = 0 ∧ bits g 14 12 < 5)

/-- Whether REPST and REPPC keep R405. -/
def repOk (st pc : Word) : Bool :=
  decide (bits st 9 1 = 0) &&
  (if st.getLsbD 0 then decide (bits st 12 10 ≤ bits st 23 21) else decide (st = 0 ∧ pc = 0))

/-- Whether a frame's fields may be returned (R406). -/
def frameOk (ws : List Word) : Bool :=
  decide (bits (dw ws 3) 63 2 = 0 ∧ ¬ (dw ws 3).getLsbD 1 ∧ bits (dw ws 9) 63 24 = 0) && flgOk (dw ws 8) &&
  repOk (dw ws 5) (dw ws 6)

/-- The fields of a frame that a return carries: CTL, PC, REPST, REPPC, A, FLG, PRES, P0 to P7, M0 to M23. -/
def frameFields (ws : List Word) : List Word :=
  [dw ws 3, dw ws 4, dw ws 5, dw ws 6, dw ws 7, dw ws 8, dw ws 9] ++ (ws.drop 16).take 32

/-- ERET (R406): the return goes to the core and TOKEN whose migration holds the frame (log 28). -/
def execEret (px : List Prefix) (st : State) : Out :=
  runInstr (.eret px) st (fun _ st =>
    let k := st.core.ctl
    let f := st.core.r.a
    match frameAt k.migcfg k.migbusy f with
    | none => trapAt 0x07 0x71 f
    | some n =>
      let ws := st.lstore.readDws (tileOf st.focus * 16777216 + f.toNat) 64
      if !frameOk ws then trapAt 0x07 0x72 f
      else
        let own := (findAt st.core.frames n).getD (0, 0)
        let t := st.upd fun c => { c with
          ctl := { c.ctl with migbusy := c.ctl.migbusy &&& ~~~(BitVec.ofNat 64 (2 ^ n)) }
          frames := dropAt c.frames n }
        .ok { t with wire := t.wire ++ [⟨.ret own.2, st.focus, own.1, 56, 0, frameFields ws, 0, none, 0, 0, .direct⟩] })

/-! ### Errors (R202, R248, R415, R416) -/

/-- The site of the instruction at the program counter. -/
def State.siteNow (s : State) : Site :=
  match s.fetch with
  | (_, .ok ws) =>
    (match decode ws with
     | .ok (i, _) => (match i.parts with | some p => s.site p | none => ⟨0, 0, s.core.pc⟩)
     | .error _ => ⟨ws.getLastD 0, 0, s.core.pc⟩)
  | (_, .error _) => ⟨s.baseAt, 0, s.core.pc⟩

/-- A clean copy of a line dropped from the cache of the core in focus (R415). -/
def State.dropClean (s : State) (line : Nat) : State :=
  match s.cacheFor s.focus with
  | some k => if s.l1At k line = some .e ∨ s.l1At k line = some .s then s.evictL1 k line else s
  | none => s

/-- An uncorrectable error consumed by the running activation of the core in focus (R415): the region runs again, or
faults with ECC the second time. -/
def State.consumeError (s : State) (detail : BitVec 8) (line : Option Nat) : State :=
  if s.core.rerun then s.takeFault s.siteNow ⟨0x10, detail, none, 0, 0, 0⟩
  else
    let s1 := match line with | some l => s.dropClean l | none => s
    let t := s1.discard
    { t with core := { t.core with rerun := true } }

/-- An ECC notice of an agent (R416). -/
def State.eccNotice (s : State) (sid : Nat) (detail : BitVec 8) (m1 : Word) : State :=
  s.faultNotice sid (s.coreAt sid).lid (faultWord 0x10 detail 0) m1 0

/-- The activation of the core in focus ended by a damaged checkpoint (R416). -/
def State.endDamaged (s : State) : State :=
  let t := s.discard
  ({ t with core := { t.core with act := none, inter := none } }).eccNotice t.focus 0x01 0

/-- Whether a core that a shadow bank holds keeps a region: the interrupted one, or that of a park slot. -/
def Core.hasRegion (c : Core) : Option (BitVec 2) → Bool
  | none => c.inter.isSome
  | some n => decide ((c.park n).st ≠ .free)

/-- That region ended (R413). -/
def Core.endRegion (c : Core) : Option (BitVec 2) → Core
  | none => { c with inter := none }
  | some n => c.setPark n { c.park n with st := .free }

/-- An uncorrectable error in an L2 data entry (R248): clean tags go; otherwise every tag that points to it is poisoned, which its
consumers meet (`State.sourAt`), not a cluster with a copy of its own. -/
def State.l2Error (s : State) (e : Nat) : State :=
  let mine := s.l2.tags.filter fun t => decide (t.ent = some e)
  if mine.all fun t => !t.dirty then mine.foldl (fun u t => u.evictTag t.line) s
  else { s with l2 := { s.l2 with tags := s.l2.tags.map fun t => if t.ent = some e then { t with bad := true } else t } }

end Sys2Proof.Machine
end

