-- ==== Sys2Proof/Machine/Select.lean ====
section
/-! DEFINITION. Selection and the start of an activation (R275 to R277, R279), long results and the instruction limit as
events (R46, R52). -/

namespace Sys2Proof.Machine

/-! ### Queues (R26, R177, R273) -/

/-- The depth of a channel's queue: 16 on a service core (R278), as the launch laid it out elsewhere (R265). -/
def State.queueDepth (s : State) (sid : Nat) (ch : BitVec 6) : Nat :=
  if isSvc sid then 16
  else
    match (s.cluster (clusterOf sid)).qd with
    | none => 0
    | some q => 2 ^ (if ch = 0 then q.1 else if ch.toNat < 56 then q.2.1 else q.2.2)

/-- A message queued on a channel. -/
def Core.enqueue (c : Core) (ch : BitVec 6) (m : Msg) : Core :=
  c.setChan ch { c.chan ch with queue := (c.chan ch).queue ++ [m] }

/-- The next sequence number that an ordered channel takes from a source. -/
def Core.turn (c : Core) (src : Nat) (ch : BitVec 6) : BitVec 16 :=
  match c.ordNext.find? fun e => e.1 == (src, ch) with
  | some e => e.2
  | none => 0

/-- A turn passed on. -/
def Core.nextTurn (c : Core) (src : Nat) (ch : BitVec 6) : Core := { c with ordNext := (nextSeq c.ordNext src ch).2 }

/-- Held messages whose turn has come moved to their queues, as far as there is room (R177). -/
def State.drainHeld (s : State) (sid : Nat) (c : Core) : Nat → Core
  | 0 => c
  | n + 1 =>
    match c.ordHeld.find? fun e => decide (e.2.hdr.extractLsb' 0 16 = c.turn e.2.src e.1 ∧
        (c.chan e.1).queue.length < s.queueDepth sid e.1) with
    | none => c
    | some e =>
      s.drainHeld sid (({ c with ordHeld := c.ordHeld.filter (· ≠ e) }.enqueue e.1 e.2).nextTurn e.2.src e.1) n

/-! ### Eligibility (R275, R279) -/

/-- Whether a channel has a region in a park slot of a state. -/
def Core.parkedOn (c : Core) (n : BitVec 6) (f : ParkSt → Bool) : Bool :=
  c.parks.toList.any fun p => decide (p.chan = n) && f p.st

/-- Whether a region awaits a reply. -/
def ParkSt.waits : ParkSt → Bool
  | .parked | .migrated | .waiting => true
  | .free | .resumed => false

/-- The oldest eligible message of a queue: of the bound ones only the first of each source is next (R177). -/
def eligibleMsg (cmask : BitVec 8) (seen : List Nat) : List Msg → Option Msg
  | [] => none
  | m :: t =>
    let clear := !cmask.getLsbD (bits m.hdr 38 36)
    if m.bound then
      (if seen.contains m.src then eligibleMsg cmask seen t
       else if clear then some m
       else eligibleMsg cmask (m.src :: seen) t)
    else if clear then some m else eligibleMsg cmask seen t

/-- Whether a channel is eligible. -/
def Core.eligible (c : Core) (n : BitVec 6) : Bool :=
  let full := c.parks.toList.all fun p => decide (p.st ≠ .free)
  let res := c.parkedOn n fun st => decide (st = .resumed)
  decide (n ≠ 56) && c.ctl.chen.getLsbD n.toNat && !(c.parkedOn n ParkSt.waits) &&
  (res || (!full && ((c.chan n).bare || (eligibleMsg c.ctl.cmask [] (c.chan n).queue).isSome)))

/-- The eligible channels. -/
def Core.eligibles (c : Core) : List (BitVec 6) :=
  ((List.range 64).map (BitVec.ofNat 6)).filter c.eligible

/-- The distance of a channel from RR, wrapping at 64. -/
def fromRr (rr n : BitVec 6) : Nat := (n - rr).toNat

/-- The channel that R275 step 2 selects. -/
def Core.choose (c : Core) : Option (BitVec 6) :=
  c.eligibles.foldl (fun best n =>
    match best with
    | none => some n
    | some b =>
      if (c.chan b).epri < (c.chan n).epri ∨ ((c.chan b).epri = (c.chan n).epri ∧ fromRr c.rr n < fromRr c.rr b)
      then some n else best) none

/-- Steps 4 and 5 of R275 after the selection of a channel among the eligible ones. -/
def Core.age (c : Core) (sel : BitVec 6) (els : List (BitVec 6)) : Core :=
  let c1 := els.foldl (fun (k : Core) e =>
    if e = sel then k
    else
      let x := k.chan e
      if x.pass = 254 then k.setChan e { x with epri := if x.epri = 7 then 7 else x.epri + 1, pass := 0 }
      else k.setChan e { x with pass := x.pass + 1 }) c
  { c1.setChan sel { c1.chan sel with epri := (c1.chan sel).pri, pass := 0 } with rr := sel + 1 }

/-! ### The start of an activation (R16, R277) -/

/-- FLG at activation start. -/
def flgOfRmode (r : Word) : Word := BitVec.ofNat 64 (bits r 3 3 * 2 ^ 15 + bits r 2 0 * 2 ^ 12)

/-- M0 to M8 of a message. -/
def startSlots (payload : List Word) (hdr : Word) : List Word :=
  ((List.range 8).map fun i => payload.getD i 0) ++ [hdr]

/-- The registers at activation start. -/
def startRegs (r : Regs) (rmode : Word) (ps : List Word) (payload : List Word) (hdr : Word) : Regs :=
  { a := 0, flg := flgOfRmode rmode
    p := Vector.ofFn fun i : Fin 8 => ps.getD i.val 0
    m := Vector.ofFn fun i : Fin 32 => if i.val < 24 then (startSlots payload hdr).getD i.val 0 else r.m[i]
    pres := (r.pres &&& 0xFF000000) ||| 0x000001FF
    va := Vector.replicate 4 0, k := Vector.replicate 4 0 }

/-- The activation of channel `n` of the core in focus started from a payload and a header. Poisoned pointers, or a message that a
shadow bank damaged (`bad`), raise POISON before its first instruction (R413, R415; log 69). -/
def State.startAct (s : State) (n : BitVec 6) (payload : List Word) (hdr : Word) (bad : Bool) : State :=
  let c := s.core
  let pre := (c.chan n).preset.toNat
  let ps := if s.svc then s.lstore.readDws (tileOf s.focus * 16777216 + pre) 8
    else s.spad.readDws (clusterOf s.focus * 16777216 + pre) 8
  let c1 := { c with
    r := startRegs c.r c.ctl.rmode ps payload hdr
    pc := BitVec.ofNat 64 (s.codeRegion.1 + (c.chan n).entry.toNat)
    xfer := true, rep := Rep.idle, long := [], buf := [], rsave := [], icount := 0, rerun := false, mismOnce := false
    act := some n }
  let t := ({ s with core := { c1 with ck := c1.checkpoint } } : State).count (ifaceOf s.focus) (s.partOf s.focus) c.lid
    (fun x => { x with n := x.n + 1 })
  if bad then t.takeFault ⟨0, 0, t.core.pc⟩ ⟨0x11, 0x01, none, 0, 0, 0⟩
  else if !s.svc && s.storeBad (clusterOf s.focus * 16777216 + pre) 64 then
    t.takeFault ⟨0, 0, t.core.pc⟩ ⟨0x11, 0x01, none, BitVec.ofNat 64 pre, 0, 0⟩
  else t

/-- The resumed region of a channel selected: its slot is freed, and it restarts from its checkpoint (R17, R279), still the region that
has consumed an error or met a mismatch (R415, R419). -/
def State.restart (s : State) (n : BitVec 6) (slot : BitVec 2) : State :=
  let p := s.core.park slot
  let c := (s.core.setPark slot { p with st := .free }).restore p.ck
  let c1 := { c with
    ck := p.ck, long := [], buf := [], rsave := [], icount := 0, rerun := p.rerun, mismOnce := p.mismOnce, act := some n }
  ({ s with core := c1 }).count (ifaceOf s.focus) (s.partOf s.focus) s.core.lid (fun x => { x with n := x.n + 1 })

/-- The slot of a channel's resumed region. -/
def Core.resumedSlot (c : Core) (n : BitVec 6) : Option (BitVec 2) :=
  ((List.range 4).map (BitVec.ofNat 2)).find? fun i => decide ((c.park i).st = .resumed ∧ (c.park i).chan = n)

/-- Step 3 of R275. -/
def State.begin (s : State) (n : BitVec 6) : State :=
  match s.core.resumedSlot n with
  | some slot => s.restart n slot
  | none =>
    let x := s.core.chan n
    match eligibleMsg s.core.ctl.cmask [] x.queue with
    | some m =>
      let c := s.core.setChan n { x with queue := x.queue.erase m }
      ({ s with core := s.drainHeld s.focus c 16 }).startAct n m.payload m.hdr m.bad
    | none =>
      ({ s with core := s.core.setChan n { x with bare := false } }).startAct n []
        (mkHdr (srcId s.focus) (s.partOf s.focus) n 0 0 s.core.lid 0) false

/-- Whether the core in focus selects: it runs nothing, and its partition's cores are not stopped (R392, R401, R407,
R420). -/
def State.selects (s : State) : Bool :=
  let x := s.part (s.partOf s.focus)
  s.dieRuns (dieOf s.focus) && s.core.act.isNone && s.core.inter.isNone && !s.core.stopped &&
  (if s.svc then decide (x.reset = .none) else !x.stopped)

/-- SELECTION (R275): with no channel eligible the core idles. -/
def execSelection (s : State) : Out :=
  if !s.selects then .next s
  else
    match s.core.choose with
    | none => .next s
    | some n =>
      let els := s.core.eligibles
      .next (({ s with core := s.core.age n els }).begin n)

/-! ### Long results and the limit -/

/-- LONG_RESULT: the due results of an agent land (R45, R46). -/
def execLongResult (sid : Nat) (s : State) : Out :=
  enabledIf "LONG_RESULT" ((s.coreAt sid).long.any fun l => decide (l.left = 0)) (s.onCore sid State.landDue)

/-- INSTRUCTION_LIMIT: a region of 65,536 instructions commits (R52), after the answers of hosts that it needs (R253). -/
def execInstructionLimit (sid : Nat) (s : State) : Out :=
  if !((s.coreAt sid).act.isSome && decide (65536 ≤ (s.coreAt sid).icount)) then notEnabled "INSTRUCTION_LIMIT"
  else
    match (s.focusOn sid).commitBlock with
    | some x => s.awaitFor "INSTRUCTION_LIMIT" x.1 x.2 (.core sid)
    | none => .next (s.onCore sid State.commit)

/-! ### Errors as events (R415 to R419) -/

/-- PATROL_SCRUB: a corrected error changes no value (R414). -/
def execPatrolScrub (s : State) : Out := .next s

end Sys2Proof.Machine
end

