-- ==== Sys2Proof/Machine/Deliver.lean ====
section
/-! DEFINITION. Deliveries: messages, refusals and retries (R273, R399, R480), acknowledgements (R281), deposits (R311),
arrivals from peers (R313), replies to parked regions and paused agents (R372, R400), returns (R406), and the host-channel
windows (R286, R287). -/

namespace Sys2Proof.Machine

/-! ### The wire -/

/-- The published message of a place on the wire. -/
def State.wireAt (s : State) (n : Nat) : Option Wire := s.wire[n]?

/-- A published message gone from the wire: its entry, and the copy of the packet that carried it, are acknowledged (R281, R338). -/
def State.takeWire (s : State) (n : Nat) (w : Wire) : State :=
  { s with
    wire := s.wire.eraseIdx n
    acks := if w.entry.isSome || w.trip.pkt.isSome then s.acks ++ [⟨w.src, w.entry, w.dst, w.ch, w.trip.pkt, none,
      (match w.kind with | .wrs _ => 0 | _ => w.hdr), w.word⟩] else s.acks }

/-- Whether a message has come to its receiver: no packet of the agenda carries it, or that is complete. -/
def Trip.ready (t : Trip) : Bool := t.pkt.isNone || t.came

/-- A message as its receiver finds it: of classes 4 to 7, on the channel that the offset in force gives (R330, R346). -/
def State.fixChannel (s : State) (w : Wire) : Wire :=
  match w.trip.raw with
  | none => w
  | some ch =>
    let k := s.classChannel (s.partOf w.src) (w.hdr.extractLsb' 36 3) ch
    { w with
      ch := k
      hdr := w.hdr.extractLsb' 45 19 ++ (k ++ w.hdr.extractLsb' 0 39)
      trip := { w.trip with raw := none } }

/-- Whether the agent of a SID accepts deliveries at all: its partition is not being reset (R480), and a small core is in
a running launch (R273). -/
def State.accepts (s : State) (sid : Nat) : Bool :=
  s.dieRuns (dieOf sid) && decide ((s.part (s.partOf sid)).reset = .none) && (isSvc sid || (s.coreAt sid).seat.isSome)

/-- Whether a message is bound by ordered delivery at its receiver (R177). -/
def State.bound (s : State) (w : Wire) : Bool :=
  decide (w.kind = .msg) && !isSvc w.src && ((s.coreAt w.dst).chan w.ch).ord &&
  (match (s.coreAt w.dst).seat with | some x => decide (w.hdr.extractLsb' 16 16 = x.lid) | none => false)

/-- The messages of a source to an agent and channel that its interface has sent and not seen acknowledged, before a place on the
wire (R177). -/
def State.unacked (s : State) (n : Nat) (w : Wire) : Nat :=
  ((s.wire.take n).filter fun x => decide (x.kind = .msg ∧ x.src = w.src ∧ x.dst = w.dst ∧ x.ch = w.ch)).length +
  (s.acks.filter fun a => decide (a.entry.isSome ∧ a.sid = w.src ∧ a.dst = w.dst ∧ a.ch = w.ch)).length

/-- Whether the sender's interface still holds a message back: 16 before it on an ordered channel are unacknowledged (R177). -/
def State.heldBack (s : State) (n : Nat) (w : Wire) : Bool := s.bound w && decide (16 ≤ s.unacked n w)

/-- The LID of a header (R306). -/
def hdrLid (h : Word) : BitVec 16 := h.extractLsb' 16 16

/-- A counted message received (R284). -/
def State.received (s : State) (w : Wire) (iface : Nat) : State :=
  match w.kind with
  | .msg | .wrs _ | .initial => s.count iface (bits w.hdr 51 45) (hdrLid w.hdr) (fun x => { x with rv := x.rv + 1 })
  | _ => s

/-- What the receiving interface does with a message on a queue: it takes it, it holds it ahead of its turn, it keeps it
waiting for its turn, or it refuses it. -/
inductive Fate where
  | take (c : Core)
  | later
  | refuse
deriving DecidableEq, Repr

/-- The fate of a message at its receiver (R177, R273). -/
def State.fate (s : State) (w : Wire) : Fate :=
  let c := s.coreAt w.dst
  let room := decide ((c.chan w.ch).queue.length < s.queueDepth w.dst w.ch)
  if !s.accepts w.dst then .refuse
  else if s.bound w then
    let m : Msg := ⟨w.hdr, w.payload, w.src, true, false⟩
    (if w.hdr.extractLsb' 0 16 ≠ c.turn w.src w.ch then
       (if c.ordHeld.length < 16 then .take { c with ordHeld := c.ordHeld ++ [(w.ch, m)] } else .later)
     else if room then .take (s.drainHeld w.dst ((c.enqueue w.ch m).nextTurn w.src w.ch) 16)
     else .refuse)
  else if room then .take (c.enqueue w.ch ⟨w.hdr, w.payload, w.src, false, false⟩)
  else .refuse

/-- Whether the limit of 64 refusals binds a delivery (R273). -/
def Wire.limited (w : Wire) : Bool :=
  match w.kind with
  | .msg | .wrs _ | .psend _ _ => true
  | _ => false

/-- A message dropped with a notice (R273, R312): counted as received but for a PSEND; an ordered channel's turn passes on
(log 29). -/
def State.dropMsg (s : State) (n : Nat) (w : Wire) (cause detail : BitVec 8) : State :=
  let s1 := (s.takeWire n w).received w (ifaceOf w.dst)
  let hdr := match w.kind with | .wrs _ => 0 | _ => w.hdr
  let s2 := s1.faultNotice w.src (hdrLid w.hdr) (faultWord cause detail (if cause = 0x0D then w.ch.setWidth 16 else 0)) hdr w.word
  if s.bound w then s2.setCore w.dst ((s2.coreAt w.dst).nextTurn w.src w.ch) else s2

/-- A refusal (R273): sent again no sooner than 64 cycles later, dropped after the 64th where the limit binds. -/
def State.refuse (s : State) (n : Nat) (w : Wire) (down : Bool) : State :=
  if w.limited ∧ 63 ≤ w.tries then
    (if down then s.dropMsg n w 0x13 0x01 else s.dropMsg n w 0x0D 0x00)
  else { s with
    wire := s.wire.set n { w with tries := w.tries + 1, next := s.now + 64, trip := .direct }
    net := match w.trip.pkt with | some id => s.net.dropPkt id | none => s.net }

/-- Whether R480 discards a delivery to an agent at once. -/
def State.discards (s : State) (w : Wire) : Bool :=
  decide ((s.part (s.partOf w.dst)).reset ≠ .none) && !w.held && !w.limited

/-- An attempt to deliver a queued message. -/
def State.attempt (s : State) (name : String) (n : Nat) (w : Wire) : Out :=
  if s.discards w then .next (s.takeWire n w)
  else if s.heldBack n w then notEnabled name
  else
    match s.fate w with
    | .take c => .next (((s.takeWire n w).received w (ifaceOf w.dst)).setCore w.dst c)
    | .later => notEnabled name
    | .refuse => .next (s.refuse n w false)

/-- A delivery attempted on the channel queues, or refused by a peer or its route (`down`); deposits that would land and
what channel 56 carries are other events. -/
def State.arrive (s : State) (name : String) (n : Nat) (down : Bool) (w : Wire) : Out :=
  match w.kind with
  | .psend _ _ => .next (s.refuse n w down)
  | .wrs _ => if s.accepts w.dst then notEnabled name else .next (s.refuse n w false)
  | .ret _ => notEnabled name
  | .msg => if w.ch = 56 ∧ ¬ s.discards w then notEnabled name else s.attempt name n w
  | .fault | .initial | .note => s.attempt name n w

/-- MESSAGE_ARRIVAL (R273): the first attempt. -/
def execMessageArrival (n : Nat) (down : Bool) (s : State) : Out :=
  match s.wireAt n with
  | none => notEnabled "MESSAGE_ARRIVAL"
  | some w =>
    if w.tries ≠ 0 || !w.trip.ready then notEnabled "MESSAGE_ARRIVAL"
    else
      let v := s.fixChannel w
      ({ s with wire := s.wire.set n v }).arrive "MESSAGE_ARRIVAL" n down v

/-- MESSAGE_RETRY (R273): a later attempt. -/
def execMessageRetry (n : Nat) (down : Bool) (s : State) : Out :=
  match s.wireAt n with
  | none => notEnabled "MESSAGE_RETRY"
  | some w =>
    if w.tries = 0 ∨ s.now < w.next ∨ w.kind = .fault ∨ !w.trip.ready then notEnabled "MESSAGE_RETRY" else s.arrive "MESSAGE_RETRY" n down w

/-- FAULT_MESSAGE_RETRY (R399). -/
def execFaultMessageRetry (n : Nat) (s : State) : Out :=
  match s.wireAt n with
  | none => notEnabled "FAULT_MESSAGE_RETRY"
  | some w =>
    if w.kind ≠ .fault ∨ w.tries = 0 ∨ s.now < w.next ∨ !w.trip.ready then notEnabled "FAULT_MESSAGE_RETRY"
    else s.attempt "FAULT_MESSAGE_RETRY" n w

/-! ### Acknowledgements (R281, R310) -/

/-- One acknowledgement of an entry: freed when none is owed. -/
def ackHeld (l : List (Nat × Nat)) (e : Nat) : List (Nat × Nat) :=
  (l.map fun x => if x.1 = e then (x.1, x.2 - 1) else x).filter fun x => decide (x.2 ≠ 0)

/-- An acknowledgement at its sender: the entry counts it, and the retained packet goes (R281, R338). -/
def State.acknowledge (s : State) (a : Ack) : State :=
  let s1 := { s with
    acks := s.acks.erase a
    net := match a.pkt with | some id => s.net.dropPkt id | none => s.net }
  match a.entry with
  | some e => s1.setCore a.sid { s1.coreAt a.sid with held := ackHeld (s1.coreAt a.sid).held e }
  | none => s1

/-- MESSAGE_ACK: the oldest acknowledgement on its way to an agent that no packet of the agenda carries arrives. -/
def execMessageAck (sid : Nat) (s : State) : Out :=
  match s.acks.find? fun a => decide (a.sid = sid ∧ a.entry.isSome ∧ a.via.isNone) with
  | none => notEnabled "MESSAGE_ACK"
  | some a => .next (s.acknowledge a)

/-! ### Deposits and peers (R311 to R313) -/

/-- A deposit in a receive slot: its record, if it has one, takes the deposit, so that the deposit stands when a discard
restores the slot (R18). -/
def Core.deposit (c : Core) (t : BitVec 3) (v : Word) : Core :=
  let n := 24 + t.setWidth 5
  { c.putSlot n v true with rsave := c.rsave.map fun e => if e.n = n then ⟨n, v, true⟩ else e }

/-- WRS_DEPOSIT (R311): it lands after the receiver's accesses of the cycle, so that a turn of the receiver comes in a later one (R19). -/
def execWrsDeposit (n : Nat) (s : State) : Out :=
  match s.wireAt n with
  | none => notEnabled "WRS_DEPOSIT"
  | some w =>
    match w.kind with
    | .wrs t =>
      if !s.accepts w.dst || !w.trip.ready || (decide (w.tries ≠ 0) && decide (s.now < w.next)) then notEnabled "WRS_DEPOSIT"
      else
        let t1 := ((s.takeWire n w).received w (ifaceOf w.dst)).setCore w.dst ((s.coreAt w.dst).deposit t (dw w.payload 0))
        .next { t1 with deposited := t1.deposited ++ [w.dst] }
    | _ => notEnabled "WRS_DEPOSIT"

/-- PSEND_ACK: the peer acknowledges a PSEND that has come to it, no sooner than its retry is due, counted in S and Rv together (R273,
R284, R312). -/
def execPsendAck (n : Nat) (s : State) : Out :=
  match s.wireAt n with
  | none => notEnabled "PSEND_ACK"
  | some w =>
    match w.kind with
    | .psend _ part =>
      if !w.trip.ready || decide (s.now < w.next) then notEnabled "PSEND_ACK"
      else .next ((s.takeWire n w).count (ifaceOf w.src) part (hdrLid w.hdr) fun x => { x with s := x.s + 1, rv := x.rv + 1 })
    | _ => notEnabled "PSEND_ACK"

/-- PEER_ARRIVAL (R313): taken on channel 59, or refused, which its sender retries. -/
def execPeerArrival (dst src : BitVec 12) (seq : BitVec 16) (payload : List Word) (s : State) : Out :=
  let d := dst.toNat
  let c := s.coreAt d
  let part := s.partOf d
  let hdr := mkHdr src.toNat part 59 0 payload.length c.lid seq
  if 8 < payload.length then notEnabled "PEER_ARRIVAL"
  else if s.accepts d ∧ (c.chan 59).queue.length < s.queueDepth d 59 then
    .next ((s.setCore d (c.enqueue 59 ⟨hdr, payload, 16384 + src.toNat, false, false⟩)).count (ifaceOf d) part c.lid
      fun x => { x with s := x.s + 1, rv := x.rv + 1 })
  else .next s

/-! ### Replies (R372, R400) -/

/-- The slot of a TOKEN whose region is in a state (R397). -/
def Core.tokenSlot (c : Core) (token : BitVec 8) (st : ParkSt) : Option (BitVec 2) :=
  let n := token.extractLsb' 6 2
  if (c.park n).st = st ∧ (c.park n).gen = token.extractLsb' 0 6 then some n else none

/-- The AGENT that a reply to a parked region repeats: M2[63:60] of its fault message for PAGE and PERM, else 0 (R400). -/
def Park.agent (p : Park) : Nat :=
  if p.fword.extractLsb' 24 8 = 0x08#8 ∨ p.fword.extractLsb' 24 8 = 0x09#8 then bits (dw p.info 1) 63 60 else 0

/-- A region reply applied to a core; one that names nothing, or is not formed as R400 gives (log 67), changes nothing. -/
def State.replyTo (s : State) (d : Nat) (m0 : Word) : State :=
  let c := s.coreAt d
  match c.tokenSlot (m0.extractLsb' 48 8) .parked with
  | none => s
  | some n =>
    let p := c.park n
    if bits m0 47 0 ≠ 0 ∨ (bits m0 63 60 ≠ 0 ∧ p.agent ≠ 1) then s
    else if bits m0 59 56 = 0 then s.setCore d (c.setPark n { p with st := .resumed })
    else if bits m0 59 56 = 1 then s.setCore d (c.setPark n { p with st := .free })
    else if bits m0 59 56 = 2 then (s.setCore d (c.setPark n { p with st := .migrated })).migrate d n
    else s

/-- A message for channel 56 of a core. -/
def State.reply56 (s : State) (n : Nat) : Option Wire :=
  match s.wireAt n with
  | some w => if w.kind = .msg ∧ w.ch = 56 ∧ w.trip.ready ∧ ¬ s.discards w then some w else none
  | none => none

/-- REGION_REPLY (R400). -/
def execRegionReply (n : Nat) (s : State) : Out :=
  match s.reply56 n with
  | none => notEnabled "REGION_REPLY"
  | some w =>
    if 2 ≤ bits (dw w.payload 0) 63 60 then notEnabled "REGION_REPLY"
    else
      let t := s.takeWire n w
      .next (if w.payload.isEmpty then t else t.replyTo w.dst (dw w.payload 0))

/-- Whether a suspended engine waits for a reply with this M1 (R372; log 67). -/
def Core.awaits (c : Core) (agent : Nat) (m1 : Word) : Bool :=
  match findAt c.engMsg agent with
  | some m => decide (dw m.2 1 = m1)
  | none => false

/-- A reply to a matrix engine (R137): one for a command that has been aborted or has ended is discarded (R138). -/
def State.replyMx (s : State) (d : Nat) (abort : Bool) (m1 : Word) : State :=
  let c := s.coreAt d
  match c.mx.run with
  | none => s
  | some r =>
    if !r.susp || r.abort || r.ended.isSome || !c.awaits 2 m1 then s
    else if abort then s.mxEndGang d 0x22
    else s.updMx d fun m => { m with run := some { r with susp := false } }

/-- A reply to a stream engine (R226). -/
def State.replySe (s : State) (d : Nat) (abort : Bool) (m1 : Word) : State :=
  let c := s.coreAt d
  match c.se.cur with
  | none => s
  | some g =>
    if !c.se.susp || !c.awaits 3 m1 then s
    else if abort then s.sgoEnd d g 0x22
    else s.setCore d { c with se := { c.se with susp := false } }

/-- A reply to a bulk copy command, named by its ticket (R230); one whose context is swapped out takes none (R413). -/
def State.replyBulk (s : State) (abort : Bool) (m3 : Word) : State :=
  match s.bulkAt (bits m3 51 48) (bits m3 47 41) (bits m3 31 0) with
  | none => s
  | some b => if !b.paused || b.away then s else if abort then s.bulkEnd b 0x22 else s.putBulk { b with paused := false }

/-- A reply to the placement of a launch, named by its LID (R266, R372). -/
def State.replyPlacement (s : State) (d : Nat) (abort : Bool) (m1 : Word) : State :=
  match s.launches.find? fun l => l.paused && decide (l.part = s.partOf d ∧ l.lid = m1.extractLsb' 48 16) with
  | none => s
  | some l => s.putLaunch { l with paused := false, noMore := l.noMore || abort }

/-- AGENT_REPLY (R372): one that finds no agent waiting for it, or is not formed as R372 gives, changes nothing. -/
def execAgentReply (n : Nat) (s : State) : Out :=
  match s.reply56 n with
  | none => notEnabled "AGENT_REPLY"
  | some w =>
    let m0 := dw w.payload 0
    let t := s.takeWire n w
    let agent := bits m0 63 60
    let abort := decide (bits m0 59 56 = 1)
    if agent < 2 then notEnabled "AGENT_REPLY"
    else if 2 ≤ bits m0 59 56 ∨ bits m0 55 0 ≠ 0 then .next t
    else if agent = 2 then .next (t.replyMx w.dst abort (dw w.payload 1))
    else if agent = 3 then .next (t.replySe w.dst abort (dw w.payload 1))
    else if agent = 4 then .next (t.replyBulk abort (dw w.payload 3))
    else if agent = 5 then .next (t.replyPlacement w.dst abort (dw w.payload 1))
    else .next t

/-! ### Returns (R405, R406) -/

/-- The repetition state of REPST and REPPC. -/
def repOfWords (st pc : Word) : Rep :=
  { act := st.getLsbD 0, left := st.extractLsb' 24 40, b1 := st.extractLsb' 21 3, str := st.extractLsb' 18 3
    iter := st.extractLsb' 13 5, pos := st.extractLsb' 10 3, addr := pc, body := none }

/-- The checkpoint a return carries. -/
def ckptOfFields (ws : List Word) : Ckpt :=
  { a := dw ws 4, flg := dw ws 5
    p := Vector.ofFn fun i : Fin 8 => dw ws (7 + i.val)
    m := Vector.ofFn fun i : Fin 24 => dw ws (15 + i.val)
    pres := (dw ws 6).extractLsb' 0 24, pc := dw ws 1, rep := repOfWords (dw ws 2) (dw ws 3) }

/-- FRAME_RETURN (R406): handled as a region reply. -/
def execFrameReturn (n : Nat) (s : State) : Out :=
  match s.wireAt n with
  | none => notEnabled "FRAME_RETURN"
  | some w =>
    match w.kind with
    | .ret token =>
      let t := s.takeWire n w
      let c := s.coreAt w.dst
      if !w.trip.ready then notEnabled "FRAME_RETURN"
      else if s.discards w then .next t
      else
        match c.tokenSlot token .migrated with
        | none => .next t
        | some k =>
          if bits (dw w.payload 0) 1 0 = 1 then .next (t.setCore w.dst (c.setPark k { c.park k with st := .free }))
          else .next (t.setCore w.dst (c.setPark k { c.park k with st := .resumed, ck := ckptOfFields w.payload }))
    | _ => notEnabled "FRAME_RETURN"

/-- MIGRATION_RETRY: a waiting migration offered again (R403). -/
def execMigrationRetry (sid : Nat) (slot : BitVec 2) (s : State) : Out :=
  enabledIf "MIGRATION_RETRY" (decide (((s.coreAt sid).park slot).st = .waiting)) (s.migrate sid slot)

/-! ### Host-channel windows (R286, R287, R390) -/

/-- The key of a window. -/
def winKey (port part w : Nat) : Nat := (port * 128 + part) * 4 + w

/-- A window. -/
def State.win (s : State) (k : Nat) : HWin := getAt ⟨[], 0⟩ s.sluice.wins k

/-- A window replaced. -/
def State.setWin (s : State) (k : Nat) (x : HWin) : State :=
  { s with sluice := { s.sluice with wins := setAt s.sluice.wins k x } }

/-- CREDIT: free entries of a window. -/
def HWin.credit (x : HWin) : Nat := 16 - x.fifo.length

/-- One more dropped write, saturating. -/
def HWin.drop (x : HWin) : HWin := { x with drops := if x.drops = 0xFFFFFFFF then x.drops else x.drops + 1 }

/-- HOST_CHANNEL_WRITE: a write of `len` bytes at an offset of a window (R286): a message from one aligned 64-byte write to
MSG by the holder's port with room; another write in MSG's range is dropped and counted; DROPS clears where 1 is written, by a write
of its 8 bytes; one of another size changes nothing (log 75). -/
def execHostChannelWrite (port part w off len : Nat) (ws : List Word) (s : State) : Out :=
  let k := winKey port part w
  let x := s.win k
  if !s.sluice.up.toList.getD port false || decide (128 ≤ part ∨ 4 ≤ w ∨ s.stage ≠ .b3) || !(s.part part).pmap.getLsbD 63 then
    notEnabled "HOST_CHANNEL_WRITE"
  else if off < 0x40 then
    (if s.leasePort part = some port ∧ off = 0 ∧ len = 64 ∧ x.fifo.length < 16 then
       .next (s.setWin k { x with fifo := x.fifo ++ [(List.range 8).map (dw ws)] })
     else .next (s.setWin k x.drop))
  else if off = 0x48 ∧ len = 8 then .next (s.setWin k { x with drops := x.drops &&& ~~~((dw ws 0).extractLsb' 0 32) })
  else .next s

/-- HOST_CHANNEL_DELIVERY: the oldest entry of a window goes to the partition's scheduling core (R287); a refusal leaves
it, retried without limit. -/
def execHostChannelDelivery (port part w : Nat) (s : State) : Out :=
  let k := winKey port part w
  let x := s.win k
  match x.fifo with
  | [] => notEnabled "HOST_CHANNEL_DELIVERY"
  | m :: rest =>
    let d := s.schedOf part
    let ch := BitVec.ofNat 6 (60 + w)
    let c := s.coreAt d
    if !s.accepts d || decide (s.queueDepth d ch ≤ (c.chan ch).queue.length) then .next s
    else
      let q := s.nextOwn (2199023255552 + k)
      .next ((q.2.setWin k { x with fifo := rest }).setCore d
        ((q.2.coreAt d).enqueue ch ⟨mkHdr 0 part ch 0 8 0 q.1, m, 8448, false, false⟩))

/-- A host's read of a doubleword in the function registers of a partition (R286, R390); what the table does not list reads 0. -/
def State.hostFuncRead (s : State) (port part off : Nat) : Option Word :=
  if !s.funcThere part then none
  else some (if off < 0x4000 then
    (let x := s.win (winKey port part (off / 4096))
     if off % 4096 = 0x40 then BitVec.ofNat 64 x.credit else if off % 4096 = 0x48 then x.drops.setWidth 64 else 0)
  else if off = 0x4000 then (s.part part).lease
  else if 0x5000 ≤ off ∧ off < 0x5040 then s.dedupDw part (off / 8 % 8)
  else if 0x6000 ≤ off ∧ off < 0x6100 then
    BitVec.ofNat 64 (((List.range 64).filter fun i => s.sluice.pba.contains (vecKey port part ((off - 0x6000) * 8 + i))).foldl
      (fun a i => a + 2 ^ i) 0)
  else if 0x8000 ≤ off ∧ off < 0x10000 then
    (let e := getAt (0, 0x100000000#64) s.sluice.msix (vecKey port part ((off - 0x8000) / 16))
     if off % 16 = 8 then e.2 else e.1)
  else 0)

end Sys2Proof.Machine
end

