-- ==== Sys2Proof/Machine/Partition.lean ====
section
/-! DEFINITION. Partition actions: PSTOP, PGO, SCRUB (R392), CSWAP with the shadow bank (R409 to R411), their completions
(R407, R412), and the end of launches in a fenced zone (R355). -/

namespace Sys2Proof.Machine

/-! ### Notices -/

/-- The notice of a partition action to one asker (R392, R410): source and sequence are free (log 14). -/
def State.actionNotice (s : State) (p code st : Nat) (a : Nat × BitVec 6) : State :=
  let q := s.free
  let ch := doneChan a.2
  q.2.note 8449 a.1 ch (mkHdr (q.1.extractLsb' 16 12).toNat (s.partOf a.1) ch 0 1 0 (q.1.extractLsb' 0 16))
    [BitVec.ofNat 64 (code * 2 ^ 56 + st * 2 ^ 48 + p)]

/-- An action completes: every asker's notice, and no action under way. -/
def State.actionDone (s : State) (p code st : Nat) : State :=
  let x := s.part p
  x.askers.foldl (fun t a => t.actionNotice p code st a) (s.setPart p { x with action := none, askers := [] })

/-! ### Requests (R392) -/

/-- The checks of the issuer and the partition. -/
def State.actionCheck (s : State) (q : Nat) (ch : BitVec 6) (v : Word) : Except Stop Unit :=
  if ¬ (s.part q).pmap.getLsbD 63 then trapAt 0x07 0x60 v
  else if s.focus ≠ svcOf 0 ∧ s.partOfTile (tileOf s.focus) ≠ some q then trapAt 0x0C 0x02 v
  else if ch = 56 then trapAt 0x07 0x47 v
  else .ok ()

/-- A request for an action: its status and the state. `wrong` names the status that refuses it now, if any; another action
under way refuses it with status 2 (log 30). -/
def State.request (s : State) (q : Nat) (ch : BitVec 6) (same : Action → Bool) (wrong : Option Nat) (act : Action) :
    Nat × State :=
  let x := s.part q
  match x.action with
  | some a =>
    if same a then (1, s.setPart q { x with askers := x.askers ++ [(s.focus, ch)] }) else (2, s)
  | none =>
    match wrong with
    | some w => (w, s)
    | none => (0, s.setPart q { x with action := some act, askers := [(s.focus, ch)] })

/-- A status in A and Z. -/
def State.answer (r : Nat × State) : State := (r.2.setA (BitVec.ofNat 64 r.1)).setZ (decide (r.1 = 0))

/-- A PSTOP, PGO or SCRUB: `f` makes the request for the partition. -/
def actionBody (px : List Prefix) (sp : BitVec 6) (ch : BitVec 6) (f : State → Nat → Nat × State) : Body := fun _ s =>
  match s.readOp (ctxLong px sp) sp with
  | .error e => .error e
  | .ok v =>
    if bits v 63 7 ≠ 0 then trapAt 0x07 0x60 v
    else
      match s.actionCheck v.toNat ch v with
      | .error e => .error e
      | .ok _ => .ok ((State.answer (f s v.toNat)).post s (specSteps sp))

/-- PSTOP's request: status 1 for a halted partition, whatever action is under way; selection stops at once (R407 step 1). -/
def State.requestStop (s : State) (ch : BitVec 6) (q : Nat) : Nat × State :=
  let r := if (s.part q).halted then (1, s) else s.request q ch (fun a => decide (a = .pstop)) none .pstop
  if r.1 = 0 then (0, r.2.setPart q { r.2.stopClock q with stopping := true }) else r

/-- PSTOP (R392). -/
def execPstop (px : List Prefix) (s : BitVec 6) (w1 : W1) (st : State) : Out :=
  runInstr (.pstop px s w1) st (actionBody px s w1.aux fun t q => t.requestStop w1.aux q)

/-- PGO (R392). -/
def execPgo (px : List Prefix) (s : BitVec 6) (w1 : W1) (st : State) : Out :=
  runInstr (.pgo px s w1) st (actionBody px s w1.aux fun t q =>
    t.request q w1.aux (fun a => decide (a = .pgo)) (if (t.part q).halted then none else some 2) .pgo)

/-- SCRUB (R392). -/
def execScrub (px : List Prefix) (s : BitVec 6) (w1 : W1) (st : State) : Out :=
  runInstr (.scrub px s w1) st (actionBody px s w1.aux fun t q =>
    t.request q w1.aux (fun a => decide (a = .scrub)) (if (t.part q).halted then none else some 2) .scrub)

/-! ### The context (R409) -/

/-- The clusters of a partition. -/
def State.partClusters (s : State) (p : Nat) : List Nat := (s.partTiles p).flatMap tileClusters

/-- The bytes of the persistent regions of a partition's clusters. -/
def State.persBytes (s : State) (p : Nat) : Memory :=
  s.spad.filter fun e => (s.partClusters p).contains (e.1 / 16777216) &&
    decide (e.1 % 16777216 < (s.cluster (e.1 / 16777216)).persEnd)

/-- The poisoned ones among those bytes. -/
def State.persBad (s : State) (p : Nat) : List Nat :=
  s.badStore.filter fun k => (s.partClusters p).contains (k / 16777216) &&
    decide (k % 16777216 < (s.cluster (k / 16777216)).persEnd)

/-- Whether a count belongs to a partition. -/
def countOf (p : Nat) (e : Nat × Counts) : Bool := decide (e.1 % 8388608 / 65536 = p)

/-- Whether a message on the wire is one that a cluster interface of a partition retains until its receiver has it (R409). -/
def State.keptWire (s : State) (p : Nat) (w : Wire) : Bool :=
  decide (w.src < 8192) && !isSvc w.src && decide (s.partOfTile (tileOf w.src) = some p)

/-- Whether a packet is one that leaves whole with a partition's context. -/
def State.keptPkt (s : State) (p : Nat) (id : Option Nat) : Bool :=
  match id.bind s.net.pkt with | some k => k.kept p && k.still | none => false

/-- Whether an acknowledgement belongs to a partition's context: one due to a small core, or one that a packet of the context carries. -/
def State.keptAck (s : State) (p : Nat) (a : Ack) : Bool :=
  (a.entry.isSome && decide (a.sid < 8192) && !isSvc a.sid && decide (s.partOfTile (tileOf a.sid) = some p)) || s.keptPkt p a.via ||
  (match a.pkt.bind s.net.pkt with | some k => k.kept p | none => false)

/-- A core as its context keeps it: its instruction cache is none of what R409 lists (R374). -/
def Core.shelved (c : Core) : Core := { c with icache := [] }

/-- The live context of a partition. -/
def State.context (s : State) (p : Nat) : Ctx :=
  { cores := (s.partCores p).map fun c => (c, (s.coreAt c).shelved)
    clusters := (s.partClusters p).map fun c => (c, s.cluster c)
    spad := s.persBytes p
    bad := s.persBad p
    launches := s.launches.filter fun l => decide (l.part = p)
    forms := (s.forms.filter fun f => decide (f.part = p)).map s.shelveForm
    counts := s.counts.filter (countOf p)
    pkts := s.net.keptPkts p (s.runTime p)
    asms := s.net.keptAsms p (s.runTime p)
    resv := s.net.resv.filter (s.net.keptRes p)
    wire := s.wire.filter (s.keptWire p)
    acks := (s.acks.filter (s.keptAck p)).map fun a => if s.keptPkt p a.via then a else { a with via := none }
    bulks := (s.bulks.filter fun b => decide (b.part = p) && b.status.isNone && !b.away).map fun b => (b.dk, b.seq) }

/-- An empty context: no launch, everything at launch start (R410). -/
def State.emptyContext (s : State) (p : Nat) : Ctx :=
  ⟨(s.partCores p).map fun c => (c, Core.zero),
   (s.partClusters p).map fun c => (c, { s.cluster c with regions := [], qd := none, owner := none }), [], [], [], [], [], [], [], [],
   [], [], []⟩

/-- A cluster with the layout of a context's; its L1 is emptied when the split changes (R270). -/
def State.layAs (s : State) (c : Nat) (x : Cluster) : State :=
  let s1 := if (s.cluster c).spsz = x.spsz then s else s.quitL1 c
  s1.setCluster c { s1.cluster c with spsz := x.spsz, regions := x.regions, qd := x.qd, owner := x.owner }

/-- A context made live in place of another: bulk copy commands of the one that leaves wait, and those of the one that comes go on
(R230), a paused one by translating its piece again (R412). -/
def State.install (s : State) (p : Nat) (x : Ctx) : State :=
  let pers := s.persBytes p
  let bad := s.persBad p
  let s1 : State := { s with
    spad := x.spad.foldl (fun m e => m.write e.1 e.2) (pers.foldl (fun m e => m.write e.1 0) s.spad)
    badStore := (s.badStore.filter fun k => !bad.contains k) ++ x.bad
    launches := (s.launches.filter fun l => decide (l.part ≠ p)) ++ x.launches
    forms := (s.forms.filter fun f => decide (f.part ≠ p)) ++ x.forms.map s.reviveForm
    counts := x.counts.foldl (fun l e => setAt l e.1 e.2) (s.counts.filter fun e => !countOf p e)
    wire := (s.wire.filter fun w => !s.keptWire p w) ++ x.wire
    acks := (s.acks.filter fun a => !s.keptAck p a) ++ x.acks
    bulks := s.bulks.map fun b =>
      if b.part = p ∧ b.status = none then 
        (let back := x.bulks.contains (b.dk, b.seq)
         { b with away := !back, paused := b.paused && !(b.away && back) }) else b
    net := (s.net.shelve p).unshelve x (s.runTime p) }
  let s2 := x.clusters.foldl (fun t e => t.layAs e.1 e.2) s1
  x.cores.foldl (fun t e => t.setCore e.1 e.2) s2

/-- The context of a partition's shadow banks, an empty one included. -/
def State.banked (s : State) (p : Nat) : Ctx := (s.part p).shadow.getD (s.emptyContext p)

/-- The host answers that an exchange needs first (R253): for the L1s that it empties. -/
def State.swapStops (s : State) (p : Nat) : List (Nat × Bool) :=
  ((s.banked p).clusters.filter fun e => decide ((s.cluster e.1).spsz ≠ e.2.spsz)).flatMap fun e => s.cacheStops e.1

/-- XCHG (R410). -/
def State.exchange (s : State) (p : Nat) : State :=
  let live := s.context p
  let s1 := s.install p (s.banked p)
  s1.setPart p { s1.part p with shadow := some live, arrived := true }

/-- Whether some cluster of a partition lays out more than 224 KiB (R409). -/
def State.tooLarge (s : State) (p : Nat) : Bool := (s.partClusters p).any fun c => decide (229376 < (s.cluster c).queueEnd)

/-- The frames of `n` pages of a partition from an address, each mapped R and W; none when one is not, as in the windows, whose
addresses are not translated (R25). -/
def State.areaFrames (s : State) (p va : Nat) : Nat → Option (List Nat)
  | 0 => some []
  | n + 1 =>
    if inWindows va then none
    else match s.walk p va with
    | .error _ => none
    | .ok x =>
      if (permFault true .rmw x.leaf).isSome then none
      else
        match s.areaFrames p (va + 4096) n with
        | none => none
        | some l =>
          some (((if pteCont x.leaf then ptePa x.leaf / 65536 * 65536 else ptePa x.leaf) + (va - x.va)) :: l)

/-- The table line of an area's first page whose walk waits on a host (R369); a page that faults ends the area's walks. -/
def State.areaStops (s : State) (p va : Nat) : Nat → List (Nat × Bool)
  | 0 => []
  | n + 1 =>
    if inWindows va then []
    else match s.walk p va with
    | .error f => (f.wait.map fun line => (line, false)).toList
    | .ok _ => s.areaStops p (va + 4096) n

/-- 4 KiB pages of a spill area: 4 MiB a tile and 64 KiB (R410). -/
def State.areaPages (s : State) (p : Nat) : Nat := 1024 * (s.partTiles p).length + 16

/-- CSWAP's request (R410). -/
def State.requestSwap (s : State) (ch : BitVec 6) (v : Word) : Nat × State :=
  let q := bits v 6 0
  let x := s.part q
  let area := bits v 47 16 * 65536
  let held := x.shadow.isSome
  match bits v 9 8 with
  | 0 =>
    if x.action.isSome ∨ ¬ x.halted then (2, s)
    else if s.tooLarge q then (5, s)
    else (0, (s.exchange q).actionNotice q 0x33 0 (s.focus, ch))
  | 1 =>
    s.request q ch (fun a => match a with | .spill _ => true | _ => false)
      (if ¬ x.halted then some 2 else if ¬ held then some 3 else if (s.areaFrames q area (s.areaPages q)).isNone then some 4
       else none)
      (.spill ((s.areaFrames q area (s.areaPages q)).getD []))
  | _ =>
    s.request q ch (fun a => match a with | .fill _ => true | _ => false)
      (if ¬ x.halted then some 2 else if held then some 3 else if (s.areaFrames q area (s.areaPages q)).isNone then some 4
       else if s.tooLarge q then some 5 else none)
      (.fill ((s.areaFrames q area (s.areaPages q)).getD []))

/-- The host answers that a CSWAP needs first: for an accepted XCHG, and for the translation of an area. -/
def State.cswapStops (s : State) (v : Word) : List (Nat × Bool) :=
  let q := bits v 6 0
  let x := s.part q
  if x.action.isSome ∨ ¬ x.halted then []
  else if bits v 9 8 ≠ 0 then s.areaStops q (bits v 47 16 * 65536) (s.areaPages q)
  else if s.tooLarge q then [] else s.swapStops q

/-- CSWAP (R410). XCHG takes effect with its acceptance, its notice following; it waits for hosts' answers first (R253). -/
def execCswap (px : List Prefix) (s : BitVec 6) (w1 : W1) (st : State) : Out :=
  runInstr (.cswap px s w1) st (fun _ st =>
    match st.readOp (ctxLong px s) s with
    | .error e => .error e
    | .ok v =>
      if bits v 63 48 ≠ 0 ∨ bits v 15 10 ≠ 0 ∨ v.getLsbD 7 ∨ bits v 9 8 = 3 ∨ (bits v 9 8 = 0 ∧ bits v 47 16 ≠ 0) then
        trapAt 0x07 0x61 v
      else
        match st.actionCheck (bits v 6 0) w1.aux v, stopFor (st.hostBlock (st.cswapStops v)) with
        | .error e, _ | .ok _, .error e => .error e
        | .ok _, .ok _ => .ok ((State.answer (st.requestSwap w1.aux v)).post st (specSteps s)))

/-! ### Launches in a fenced zone (R355) -/

/-- The lower-left tile of a partition (R353). -/
def State.homeTile (s : State) (p : Nat) : Nat :=
  let m := (s.part p).pmap
  p / 32 * 32 + bits m 4 2 * 4 + bits m 1 0

/-- A COOL notice to the service core of a partition's lower-left tile (R355; log 31). -/
def State.coolNotice (s : State) (l : Launch) (z : Nat) : State :=
  s.faultNotice (swCore (s.homeTile l.part)) l.lid (faultWord 0x28 (BitVec.ofNat 8 z) l.lid) 0 0

/-- Whether a message is of a launch's cores alone: an initial message or a completion on its way to one, or one that only a core's
interface still holds, withdrawn or refused. -/
def State.scrubbedWire (s : State) (cores : List Nat) (w : Wire) : Bool :=
  (cores.contains w.dst && decide (w.kind = .note ∨ w.kind = .initial)) ||
  (cores.contains w.src && (decide (w.tries ≠ 0) || (match w.trip.pkt.bind s.net.pkt with
    | some k => decide (k.leg = .out)
    | none => false)))

/-- A launch ended by the fencing of a zone: its contexts are scrubbed, withdrawn packets included (R409), no completion is sent. -/
def State.coolLaunch (s : State) (l : Launch) (z : Nat) : State :=
  let cores := s.launchCores l
  let s1 := s.dropLaunch l
  let s2 := if !l.running then s1 else
    { (cores.foldl (fun t c => t.setCore c Core.zero) (l.clusters.foldl State.scrubCluster s1)) with
      forms := s1.forms.filter fun f => !(f.members.any cores.contains)
      bulks := s1.bulks.filter fun b => !cores.contains b.sid || b.status.isSome || b.away
      lineOps := s1.lineOps.filter fun op => !cores.contains op.sid
      wire := s1.wire.filter fun w => !s1.scrubbedWire cores w
      net := s1.net.dropPkts fun k => decide (k.leg = .out) && (cores.map epOf).contains k.src }
  s2.coolNotice l z

/-- The launches of a partition that touch a fenced zone ended (R412 step 5): the running ones, and where the context has `arrived` the
waiting ones too, which a spilled image kept through the fencing (R355). -/
def State.coolRestored (s : State) (p : Nat) (arrived : Bool) : State :=
  (s.launches.filter fun l => decide (l.part = p) && (l.running || arrived)).foldl (fun t l =>
    match l.zones.find? fun z => (t.zone z).fnc with
    | some z => t.coolLaunch l z
    | none => t) s

/-- The host answers that ending the launches in fenced zones, or in one that is about to be fenced, needs first (R253): their
clusters' lines are written back. -/
def State.coolStops (s : State) (z : Option Nat) : List (Nat × Bool) :=
  ((s.launches.filter fun l => l.running && l.zones.any fun y => (s.zone y).fnc || decide (some y = z)).flatMap
    Launch.clusters).flatMap s.cacheStops

/-! ### Completions -/

/-- PARTITION_HALT: a PSTOP completes, its partition's traffic drained, the writes of its bulk copies performed (R230, R335, R407). -/
def execPartitionHalt (part : Nat) (s : State) : Out :=
  enabledIf "PARTITION_HALT" (decide ((s.part part).action = some .pstop) && !s.net.inMesh part && !s.lateWrites part)
    (let s0 := s.haltPart part
     let s1 := s0.setNet (s0.net.withdraw part)
     (s1.setPart part { s1.part part with halted := true, stopping := false }).actionDone part 0x30 0)

/-- PARTITION_RESUME: a PGO completes (R412). -/
def execPartitionResume (part : Nat) (s : State) : Out :=
  s.atHome "PARTITION_RESUME" (decide ((s.part part).action = some .pgo)) (s.coolStops none)
    (((s.resumePart part { s.part part with halted := false }).coolRestored part (s.part part).arrived).actionDone part 0x31 0)

/-- SCRUB_COMPLETE (R392). -/
def execScrubComplete (part : Nat) (s : State) : Out :=
  s.atHome "SCRUB_COMPLETE" (decide ((s.part part).action = some .scrub)) (s.tileStops (s.partTiles part))
    ((s.scrubPart part).actionDone part 0x32 0)

/-- The bytes of frames by their offset from the first. -/
def State.frameBytes (s : State) : Nat → List Nat → Memory
  | _, [] => []
  | o, f :: t =>
    ((s.mem.filter fun e => decide (f ≤ e.1 ∧ e.1 < f + 4096)).map fun e => (o + (e.1 - f), e.2)) ++
    s.frameBytes (o + 4096) t

/-- An image written over frames: its bytes are free, since the spec gives no layout for them (log 33). -/
def State.writeImage (s : State) (frames : List Nat) : State :=
  frames.foldl (fun t f => (List.range 512).foldl (fun u i =>
    let q := u.free
    q.2.storeHome (f + 8 * i) 8 0xFF q.1.toNat) t) s

/-- The lines of frames. -/
def frameLines (fs : List Nat) : List Nat := fs.flatMap fun f => (List.range 32).map fun i => lineOf f + i

/-- SPILL: the shadow context goes to the area (R410). -/
def execSpill (part : Nat) (s : State) : Out :=
  match (s.part part).action, (s.part part).shadow with
  | some (.spill fs), some x =>
    s.atHome "SPILL" true ((frameLines fs).flatMap s.writeStops)
      (let s1 := s.writeImage fs
       let s2 : State := { s1 with spills := (part, s1.frameBytes 0 fs, x) :: s1.spills }
       (s2.setPart part { s2.part part with shadow := none }).actionDone part 0x34 0)
  | _, _ => notEnabled "SPILL"

/-- FILL: the image of the area becomes the shadow context; bytes that are no image fail their integrity code (R410). -/
def execFill (part : Nat) (s : State) : Out :=
  match (s.part part).action with
  | some (.fill fs) =>
    s.atHome "FILL" true ((frameLines fs).map fun l => (l, false))
      (let t := (frameLines fs).foldl State.lower s
       match s.spills.find? fun e => decide (e.1 = part ∧ e.2.1 = s.frameBytes 0 fs) with
       | some e => (t.setPart part { t.part part with shadow := some e.2.2, arrived := true }).actionDone part 0x35 0
       | none => (t.setPart part { t.part part with shadow := none }).actionDone part 0x35 1)
  | _ => notEnabled "FILL"

end Sys2Proof.Machine
end

