-- ==== Sys2Proof/Machine/Coolant.lean ====
section
/-! DEFINITION. Coolant zones: sampling, valves, the flow-limited state, sensor traps and the spillway sequence (R347 to
R356; log 40). Times are in cycles of 1.25 GHz. -/

namespace Sys2Proof.Machine

/-- Cycles in a millisecond. -/
def msCycles : Nat := 1250000

/-! ### Zones and samples (R347, R351) -/

/-- The tiles of a zone. -/
def zoneTiles (z : Nat) : List Nat := ((List.range 32).map fun i => z / 8 * 32 + i).filter fun t => decide (zoneOfTile t = z)

/-- The partitions with tiles in a zone. -/
def State.zoneParts (s : State) (z : Nat) : List Nat := ((zoneTiles z).filterMap s.partOfTile).eraseDups

/-- Whether two zones are adjacent (R347). -/
def adjacent (a b : Nat) : Bool :=
  decide (a / 8 = b / 8) &&
  (let dx := if a % 2 = b % 2 then 0 else 1
   let ya := a % 8 / 2
   let yb := b % 8 / 2
   let dy := if ya < yb then yb - ya else ya - yb
   decide (dx + dy = 1))

/-- FLOW in 0.5 mL/min. -/
def sFlow (s0 : Word) : Nat := bits s0 63 48
/-- TIN in 0.5 °C. -/
def sTin (s0 : Word) : Nat := bits s0 47 40
/-- TOUT in 0.5 °C. -/
def sTout (s0 : Word) : Nat := bits s0 39 32
/-- DRY. -/
def sDry (s0 : Word) : Bool := s0.getLsbD 31
/-- Hotspot i in 1/16 °C. -/
def sHot (s1 : Word) (i : Nat) : Nat := (s1.extractLsb' (16 * i) 16).toNat

/-- The granted allotment in FLOW's units (R349, R350). -/
def State.granted (s : State) (z : Nat) : Nat := 4 * classAllot (s.gcls z)

/-- The gas trigger: against one of the last ten samples a hotspot has risen by 10 °C with TIN steady (R354). -/
def gasRise (s0 s1 : Word) (past : List (Word × BitVec 8)) : Bool :=
  past.any fun p =>
    let t := p.2.toNat
    let tin := sTin s0
    decide ((if t < tin then tin - t else t - tin) < 2) &&
    (List.range 4).any fun i => decide (sHot p.1 i + 160 ≤ sHot s1 i)

/-- TJMAX in °C. -/
def Zone.tjmax (x : Zone) : Nat := bits x.cat 34 27
/-- TTGT in °C. -/
def Zone.ttgt (x : Zone) : Nat := bits x.cat 26 19
/-- VMAX. -/
def Zone.vmax (x : Zone) : BitVec 6 := x.cat.extractLsb' 52 6

/-- A count of samples in a row. -/
def runOf (n : Nat) (b : Bool) : Nat := if b then n + 1 else 0

/-- Whether a sample lets a VERIFY succeed: flow at least 80 % of the allotment, DRY clear, no gas trigger. -/
def sampleGood (granted : Nat) (s0 s1 : Word) (past : List (Word × BitVec 8)) : Bool :=
  decide (8 * granted ≤ 10 * sFlow s0) && !sDry s0 && !gasRise s0 s1 past

/-- The zone's record after a sample. -/
def Zone.sampled (x : Zone) (granted : Nat) (judge : Bool) (s0 s1 : Word) : Zone :=
  let flow := sFlow s0
  let below := fun pct => decide (10 * flow < pct * granted)
  { x with
    sens0 := s0 &&& 0xFFFFFFFF80000000#64
    sens1 := s1
    good := x.good && (!judge || sampleGood granted s0 s1 x.past)
    low30 := runOf x.low30 (below 3)
    low70 := runOf x.low70 (below 7)
    dry := runOf x.dry (sDry s0)
    hot := runOf x.hot (decide (2 * (x.ttgt + 5) < sTout s0))
    well := runOf x.well (!below 8 && (List.range 4).all fun i => decide (sHot s1 i + 48 < 16 * x.tjmax))
    past := ((s1, BitVec.ofNat 8 (sTin s0)) :: x.past).take 10 }

/-! ### Sensor traps (R353) -/

/-- Partitions that hear of a zone's events: its owner, and those with a launch running or waiting on it. -/
def State.zoneListeners (s : State) (z : Nat) : List Nat :=
  let x := s.zone z
  ((if x.cat.getLsbD 51 then [bits x.cat 49 43] else []) ++
    (s.launches.filter fun l => l.zones.contains z).map fun l => l.part).eraseDups

/-- A sensor trap: code and detail, ST after the event. -/
def State.zoneTrap (s : State) (z : Nat) (code detail : Nat) : State :=
  let x := s.zone z
  let m0 := BitVec.ofNat 64 (code * 2 ^ 56 + detail * 2 ^ 48 + z * 2 ^ 40 + x.st.toNat * 2 ^ 37)
  let q := s.nextOwn (3298534883328 + z)
  let dests := (svcOf 0 :: (s.zoneListeners z).map fun p => svcOf (s.homeTile p)).eraseDups
  dests.foldl (fun t d => t.note 8448 d 58 (mkHdr 0 (t.partOf d) 58 0 2 0 q.1) [m0, x.sens0]) q.2

/-! ### Suspension and return (R354, R355) -/

/-- SUSPEND: the partitions with cores in the zone are pre-empted, each context staying in place (R409; log 62), their packets not
entered withdrawn (R335). -/
def State.coolSuspend (s : State) (z : Nat) : State :=
  (s.zoneParts z).foldl (fun t p =>
    let x := t.stopClock p
    let u := (t.setPart p { x with cooled := z :: x.cooled.filter (· ≠ z) }).haltPart p
    u.setNet (u.net.withdraw p)) s

/-- The suspended partitions restored, unless something else holds them (R356). -/
def State.coolResume (s : State) (z : Nat) : State :=
  ((s.parts.filter fun e => e.2.cooled.contains z).map (·.1)).foldl (fun t p =>
    let x := t.part p
    let u := t.resumePart p { x with cooled := x.cooled.filter (· ≠ z) }
    if (u.part p).stopped then u else u.coolRestored p x.arrived) s

/-- The waiting launches that a partition's shadow banks hold for a fenced zone removed (R355). -/
def State.fenceShadow (s : State) (z p : Nat) : State :=
  match (s.part p).shadow with
  | none => s
  | some c =>
    let gone := c.launches.filter fun l => !l.running && l.zones.contains z
    let s1 := s.setPart p { s.part p with shadow := some { c with launches := c.launches.filter fun l => !gone.contains l } }
    gone.foldl (fun t l => t.coolNotice l z) s1

/-- The end of a sequence: writes that waited take effect (R348). -/
def Zone.settle (x : Zone) (st : BitVec 3) : Zone :=
  { x with spill := .none, st := st, low30 := 0, low70 := 0, dry := 0, well := 0,
           cat := maskWrite catLate x.cat (x.later.getD x.cat), later := none }

/-- FENCE_ZONE: the zone takes no launch; the launches with a core in it end with COOL (R355). -/
def State.fence (s : State) (z count : Nat) : State :=
  let s1 := (s.setZone z { (s.zone z).settle 3 with fnc := true }).zoneTrap z 0x14 count
  let s2 := (s1.launches.filter fun l => l.zones.contains z).foldl (fun t l => t.coolLaunch l z) s1
  let s3 := (s2.parts.map (·.1)).foldl (fun t p => t.fenceShadow z p) s2
  s3.coolResume z

/-! ### The events -/

/-- The triggers of R354 as trap bits: flow, gas, dry. -/
def triggers (x : Zone) (gas : Bool) : Nat :=
  (if 20 ≤ x.low30 then 1 else 0) + (if gas then 2 else 0) + (if 2 ≤ x.dry then 4 else 0)

/-- Whether the coolant controller runs (R426). -/
def State.coolantOn (s : State) : Bool := decide (s.stage = .b2 ∨ s.stage = .b3)

/-- Since when a zone is primed: in B2 every zone, after a die reset those of its die (R422, R426). -/
def State.primedSince (s : State) (z : Nat) : Option Nat :=
  match s.stage with
  | .b2 => s.sluice.priming
  | .b3 => findAt s.sluice.primes (z / 8)
  | _ => none

/-- Whether samples of a zone are being judged: in VERIFY, or after the first 2 s of priming (R354, R426). -/
def State.judging (s : State) (z : Nat) : Bool :=
  match (s.zone z).spill with
  | .verify _ => true
  | _ => (match s.primedSince z with
    | some t => decide (t + 2000 * msCycles ≤ s.now)
    | none => false)

/-- Valves fully open, and zones judged afresh (R426). -/
def State.primeZones (s : State) (zs : List Nat) : State :=
  zs.foldl (fun t z => t.setZone z { t.zone z with valve := 63, good := true, since := s.now }) s

/-- The zones of a die primed, once its reset has ended in B3 (R422): a sequence that was under way in one is over. -/
def State.primeDie (s : State) (d : Nat) : State :=
  if s.stage ≠ .b3 then s
  else
    let zs := (List.range 8).map (8 * d + ·)
    let t := zs.foldl (fun u z =>
      let x := u.zone z
      if x.spill = .none then u else u.setZone z (x.settle (if x.fnc then 3 else 0))) s
    let t1 : State := { t with
      parts := t.parts.map fun e => (e.1, { e.2 with cooled := e.2.cooled.filter fun z => !zs.contains z })
      sluice := { t.sluice with
        primes := setAt t.sluice.primes d t.now
        judged := t.sluice.judged.filter fun z => !zs.contains z } }
    t1.primeZones zs

/-- SENSOR_SAMPLE: the sample is recorded; a trigger starts the spillway sequence, else the zone may become flow-limited; an
outlet too hot for 10 ms is reported (R351 to R354). -/
def execSensorSample (z : Nat) (s0 s1 : Word) (s : State) : Out :=
  if !s.coolantOn ∨ 32 ≤ z then notEnabled "SENSOR_SAMPLE"
  else
    let old := s.zone z
    let x := old.sampled (s.granted z) (s.judging z) s0 s1
    let gas := gasRise s0 s1 old.past
    let trig := triggers x gas
    let hot := (List.range 4).any fun i => decide (16 * x.tjmax ≤ sHot s1 i)
    let t := s.setZone z x
    let t1 :=
      if s.stage = .b3 ∧ s.primedSince z = none ∧ x.spill = .none ∧ trig ≠ 0 then
        ((t.setZone z { x with st := 2, spill := .suspend, since := s.now }).zoneTrap z 0x10 trig).coolSuspend z
      else if s.stage = .b3 ∧ s.primedSince z = none ∧ x.st = 0 ∧ (10 ≤ x.low70 ∨ hot) then
        (t.setZone z { x with st := 1, valve := x.vmax, well := 0 }).zoneTrap z 0x01 (if 10 ≤ x.low70 then 1 else 2)
      else t
    .next (if x.hot = 100 then t1.zoneTrap z 0x03 0 else t1)

/-- Whether an adjacent zone is being purged (R354). -/
def State.purgeNear (s : State) (z : Nat) : Bool :=
  s.zones.any fun e => adjacent e.1 z && (match e.2.spill with | .purge _ => true | _ => false)

/-- VALVE_ADJUST: the controller moves a valve: up to VMAX, at VMAX while the zone is flow-limited, beyond it beside a purge
and in VERIFY (R347, R352, R354). -/
def execValveAdjust (z : Nat) (v : BitVec 6) (s : State) : Out :=
  let x := s.zone z
  enabledIf "VALVE_ADJUST" (decide (z < 32) && s.coolantOn && (s.primedSince z).isNone &&
      (match x.spill with
       | .none => if s.purgeNear z then true else if x.st = 1 then v == x.vmax else decide (v.toNat ≤ x.vmax.toNat)
       | .verify _ => true
       | _ => false))
    (s.setZone z { x with valve := v })

/-- FLOW_LIMITED_LEAVE: flow and hotspots have been good for 10 ms (R352). -/
def execFlowLimitedLeave (z : Nat) (s : State) : Out :=
  let x := s.zone z
  enabledIf "FLOW_LIMITED_LEAVE" (decide (x.st = 1 ∧ 100 ≤ x.well)) ((s.setZone z { x with st := 0 }).zoneTrap z 0x02 0)

/-- CLOSE: the zone's cores and engines have stopped; the valve closes (R354). -/
def execClose (z : Nat) (s : State) : Out :=
  let x := s.zone z
  enabledIf "CLOSE" (decide (x.spill = .suspend)) (s.setZone z { x with spill := .close, valve := 0, since := s.now })

/-- PURGE: 10 ms after the valve closed (R354). -/
def execPurge (z : Nat) (s : State) : Out :=
  let x := s.zone z
  enabledIf "PURGE" (decide (x.spill = .close ∧ x.since + 10 * msCycles ≤ s.now))
    (s.setZone z { x with spill := .purge 1, valve := 63, since := s.now })

/-- VERIFY: 200 ms of purging are over (R354). -/
def execVerify (z : Nat) (s : State) : Out :=
  let x := s.zone z
  match x.spill with
  | .purge n => enabledIf "VERIFY" (decide (x.since + 200 * msCycles ≤ s.now))
      (s.setZone z { x with spill := .verify n, good := true, since := s.now })
  | _ => notEnabled "VERIFY"

/-- VERIFY_EXPIRY: after 50 ms the suspended partitions' restoration begins, the zone is purged again, or it is fenced (R354,
R355). -/
def execVerifyExpiry (z : Nat) (s : State) : Out :=
  let x := s.zone z
  match x.spill with
  | .verify n =>
    if s.now < x.since + 50 * msCycles then notEnabled "VERIFY_EXPIRY"
    else if x.good then .next (s.setZone z { x with spill := .restore n, since := s.now })
    else
      let t := s.zoneTrap z 0x12 n
      if n < 3 then .next (t.setZone z { x with spill := .purge (n + 1), valve := 63, since := s.now })
      else s.atHome "VERIFY_EXPIRY" true (s.coolStops (some z)) (t.fence z n)
  | _ => notEnabled "VERIFY_EXPIRY"

/-- RESTORE_COMPLETE: ST returns to 0, the zone is reported restored, and its partitions run again (R353, R354). -/
def execRestoreComplete (z : Nat) (s : State) : Out :=
  let x := s.zone z
  match x.spill with
  | .restore n => s.atHome "RESTORE_COMPLETE" true (s.coolStops none) (((s.setZone z (x.settle 0)).zoneTrap z 0x13 n).coolResume z)
  | _ => notEnabled "RESTORE_COMPLETE"

end Sys2Proof.Machine
end

