-- ==== Sys2Proof/Machine/CacheOps.lean ====
section
/-! DEFINITION. Declared tiles and line maintenance (R216 to R220, R239 to R241). -/

namespace Sys2Proof.Machine

/-! ### The status of a tile instruction -/

/-- A status written to A; Z is set when it is 0 (R216, R217). -/
def State.report (s : State) (status : Nat) : State := (s.setA (BitVec.ofNat 64 status)).setZ (decide (status = 0))

/-- The base or line address a tile instruction names: bits above 48, ALIGN detail 0x02, the checks of a window (R26, R481),
translation (R201, R216). A window address that passes its checks names no physical line (log 35). -/
def State.tileAddr (s : State) (need : Need) (va : Word) : State × Except Stop (Option Phys) :=
  let a := va.toNat
  if 2 ^ 48 ≤ a then (s, trapAt 0x0A 0x01 va)
  else if a % 128 ≠ 0 then (s, trapAt 0x06 0x02 va)
  else
    match s.windowSpot va 1 with
    | .error e => (s, .error e)
    | .ok (some (.loc ea)) =>
      (s, match s.windowLocal ea 1 true .scalar with | .error e => .error e | .ok _ => .ok none)
    | .ok (some _) => (s, .ok none)
    | .ok none =>
      match s.translate s.focus a need with
      | (s1, .error f) => (s1, .error (xlatStop f 0 need s.focus a none))
      | (s1, .ok x) => (s1, .ok (some x))

/-! ### TDECL (R216, R239, R241) -/

/-- PITCH of TDECL's geometry. -/
def tdPitch (a : Word) : Nat := (a.extractLsb' 16 24).toNat
/-- LN. -/
def tdLn (a : Word) : Nat := (a.extractLsb' 11 5).toNat + 1
/-- ROWS. -/
def tdRows (a : Word) : Nat := (a.extractLsb' 0 11).toNat + 1

/-- Whether a geometry breaks a field rule (OPND detail 0x22). -/
def tdBad (a : Word) : Bool :=
  decide (a.extractLsb' 40 24 ≠ 0#24 ∨ tdPitch a % 128 ≠ 0 ∨ tdPitch a < 128 * tdLn a ∨ 262144 < tdRows a * tdLn a * 128)

/-- The virtual addresses of a tile's lines. -/
def tdLines (base : Word) (a : Word) : List Word :=
  (List.range (tdRows a)).flatMap fun r => (List.range (tdLn a)).map fun l =>
    base + BitVec.ofNat 64 (r * tdPitch a + l * 128)

/-- Every line translated as a store would be, in order. -/
def State.tdTranslate : State → List Word → State × Except Stop (List (Option Phys))
  | s, [] => (s, .ok [])
  | s, va :: t =>
    match s.tileAddr .write va with
    | (s1, .error e) => (s1, .error e)
    | (s1, .ok x) =>
      match State.tdTranslate s1 t with
      | (s2, .error e) => (s2, .error e)
      | (s2, .ok l) => (s2, .ok (x :: l))

/-- The physical lines of a tile's translated lines. -/
def physLines (xs : List (Option Phys)) : List Nat := (xs.filterMap fun x => x.map fun y => lineOf y.pa).eraseDups

/-- TDECL's status, in the order of its table; a tile with a line in a window has status 4, and no slice where that is its base
(log 35). -/
def State.tdStatus (s : State) (part : Nat) (xs : List (Option Phys)) : Nat :=
  let lines := physLines xs
  if lines.any fun l => (s.tileAt l).isSome then 1
  else
    match xs.head? with
    | some (some b) =>
      if (s.freeSlot (homeOfLine (lineOf b.pa))).isNone then 2
      else if 4096 ≤ (s.tiles.filter fun t => decide (t.part = part)).length then 3
      else if xs.any fun x => (match x with | some y => decide (2 ≤ pteHp y.leaf) | none => true) then 4
      else 0
    | _ => 4

/-- Every copy of a line written back if dirty, and left as S. -/
def State.shareAll (s : State) (line : Nat) : State :=
  let s1 := s.cleanOne line
  let s2 := (s1.holders line).foldl (fun t c => t.setL1 c line (some .s)) s1
  s2.setDir line (s2.dirRec line).shared

/-- The clusters by which the holders of any of some lines are named. -/
def State.holderNames (s : State) (lines : List Nat) : List Nat := ((lines.flatMap s.holders).map dirName).eraseDups

/-- The host answers that absorbing lines needs first: open transactions, and the write-backs of R241 (R253, R259). -/
def State.absorbStops (s : State) (lines : List Nat) : List (Nat × Bool) :=
  let many := decide (1 < (s.holderNames lines).length)
  (lines.filter fun l => s.snooped l || (many && s.lineDirty l)).map fun l => (l, true)

/-- A record's cluster copies moved out of it: its host bits stay (R234, R241). -/
def State.clearDir (s : State) (line : Nat) : State := s.setDir line (s.dirRec line).empty

/-- The lines held at line granule absorbed into a new tile's entry (R241); the tile's entry names their holders from now on. -/
def State.absorb (s : State) (part slot : Nat) (lines : List Nat) : State :=
  let names := s.holderNames lines
  let q : State × DirRec := match names with
    | [] => (s, DirRec.zero)
    | [c] =>
      if lines.any fun l => (s.holders l).any fun k => s.l1At k l != some .s then (s, DirRec.zero.own c)
      else (s, { DirRec.zero with st := .ds, exact := [c] })
    | _ => (lines.foldl State.shareAll s, { names.foldl DirRec.addSharer DirRec.zero with st := .ds })
  let s1 := lines.foldl State.clearDir q.1
  { s1 with tiles := s1.tiles ++ [⟨part, lines.headD 0, slot, lines, q.2⟩] }

/-- A declared tile recorded at the free index of its base line's slice (R239). -/
def State.declare (s : State) (part : Nat) (lines : List Nat) : Except Stop State :=
  match stopFor (s.hostBlock (s.absorbStops lines)) with
  | .error e => .error e
  | .ok _ => .ok (s.absorb part ((s.freeSlot (homeOfLine (lines.headD 0))).getD 0) lines)

/-- TDECL (R216). -/
def execTdecl (px : List Prefix) (s : BitVec 6) (w1 : W1) (st : State) : Out :=
  runInstr (.tdecl px s w1) st (fun _ st =>
    match st.readOp (ctxAddr px s) s with
    | .error e => .error e
    | .ok va =>
      let a := st.core.r.a
      if tdBad a then trapAt 0x07 0x22 a
      else
        match st.tdTranslate (tdLines va a) with
        | (_, .error e) => .error e
        | (t, .ok xs) =>
          let part := t.partOf t.focus
          let status := t.tdStatus part xs
          match (if status = 0 then t.declare part (physLines xs) else .ok t) with
          | .error e => .error e
          | .ok u => .ok ((u.report status).post st (specSteps s)))

/-! ### TUND, TFWD, TWB, TINV (R217, R218) -/

/-- A tile of the partition named by its base: status 1 when there is none. -/
def tileBody (px : List Prefix) (s : BitVec 6) (check : State → Except Stop Unit) (f : State → Tile → Except Stop State) :
    Body := fun _ st =>
  match st.readOp (ctxAddr px s) s with
  | .error e => .error e
  | .ok va =>
    match check st with
    | .error e => .error e
    | .ok _ =>
      match st.tileAddr .leaf va with
      | (_, .error e) => .error e
      | (t, .ok x) =>
        match t.tiles.find? fun y => decide (some y.base = x.map (fun z => lineOf z.pa) ∧ y.part = t.partOf t.focus) with
        | none => .ok ((t.report 1).post st (specSteps s))
        | some y =>
          match f t y with
          | .error e => .error e
          | .ok u => .ok ((u.report 0).post st (specSteps s))

/-- No check of A. -/
def noCheck (_ : State) : Except Stop Unit := .ok ()

/-- TUND (R217). -/
def execTund (px : List Prefix) (s : BitVec 6) (w1 : W1) (st : State) : Out :=
  runInstr (.tund px s w1) st (tileBody px s noCheck fun t y => .ok (t.undeclare y))

/-- The check of TFWD's A: reserved bits, and a target in the partition. R217 does not place MEMB among the checks; it is judged before
the address and status 1 (log 83). -/
def fwdCheck (st : State) : Except Stop Unit :=
  let a := st.core.r.a
  let core := (a.extractLsb' 0 12).toNat
  if a.extractLsb' 13 51 ≠ 0#51 then trapAt 0x07 0x26 a
  else if st.partOfTile (tileOf core) ≠ st.partOfTile (tileOf st.focus) then trapAt 0x0C 0x00 a
  else if st.paired (st.partOf st.focus) && sideOne core then trapAt 0x0C 0x03 a
  else .ok ()

/-- A record joined by a sharer that takes the line as S. -/
def DirRec.join (r : DirRec) (cl : Nat) (dirty : Bool) : DirRec :=
  match r.st with
  | .di => { r with st := .ds, exact := [cl], coarse := none }
  | _ => r.share cl dirty

/-- One line of a tile pushed as shared: owners elsewhere are downgraded. -/
def State.pushShared (s : State) (cl line : Nat) : State :=
  let s0 := s.fillFor cl line (s.ddOf (s.cachePart cl) line)
  let s1 := s0.downgradeBut cl line
  if (s1.l1At cl line).isSome || !s0.mayCache cl line then s1 else s1.setL1 cl line (some .s)

/-- One line of a tile pushed with ownership: dirty data passes to the target, other copies go. -/
def State.pushOwned (s : State) (cl line : Nat) : State :=
  let s0 := s.fillFor cl line (s.ddOf (s.cachePart cl) line)
  let s1 := s0.takeLine cl line
  match s1.l1At cl line with
  | some .m | some .o => s1.setL1 cl line (some .m)
  | _ => if s0.mayCache cl line then s1.setL1 cl line (some .e) else s1

/-- Whether a tile's entry already gives a cluster what a push asks for. -/
def DirRec.hasAs (d : DirRec) (cl : Nat) (own : Bool) : Bool :=
  if own then decide (d.st = .dx ∧ d.owner = cl)
  else (decide (d.st = .ds ∨ d.st = .dd) && d.exact.contains cl) || (decide (d.st = .dx ∨ d.st = .dd) && decide (d.owner = cl))

/-- A tile pushed into a cluster (R217): nothing where it is held as asked; nothing into a power-gated cluster (R218) or one
without an L1 (log 35). -/
def State.forward (s : State) (t : Tile) (cl : Nat) (own : Bool) : Except Stop State :=
  if (s.cluster cl).gated || !s.hasL1 cl || t.dir.hasAs cl own then .ok s
  else
    match stopFor (s.hostBlock (t.lines.map (fun l => (l, own)) ++ t.lines.flatMap (s.roomStops (s.cachePart cl)))) with
    | .error e => .error e
    | .ok _ =>
      if own then .ok ((t.lines.foldl (fun u l => u.pushOwned cl l) s).setTile { t with dir := t.dir.own cl })
      else .ok ((t.lines.foldl (fun u l => u.pushShared cl l) s).setTile { t with dir := t.dir.join cl (t.lines.any s.lineDirty) })

/-- TFWD (R217). -/
def execTfwd (px : List Prefix) (s : BitVec 6) (w1 : W1) (st : State) : Out :=
  runInstr (.tfwd px s w1) st (tileBody px s fwdCheck fun t y =>
    t.forward y (clusterOf (t.core.r.a.extractLsb' 0 12).toNat) (t.core.r.a.getLsbD 12))

/-- What an operation on a whole tile or line does once the hosts have answered for its write-backs (R253). -/
def State.afterHosts (s : State) (stops : List (Nat × Bool)) (t : State) : Except Stop State :=
  match stopFor (s.hostBlock stops) with
  | .error e => .error e
  | .ok _ => .ok t

/-- TWB (R217). -/
def execTwb (px : List Prefix) (s : BitVec 6) (w1 : W1) (st : State) : Out :=
  runInstr (.twb px s w1) st (tileBody px s noCheck fun t y => t.afterHosts (t.unitStops y.base) (t.cleanLine y.base))

/-- TINV (R217). -/
def execTinv (px : List Prefix) (s : BitVec 6) (w1 : W1) (st : State) : Out :=
  runInstr (.tinv px s w1) st (tileBody px s noCheck fun t y => t.afterHosts (t.unitStops y.base) (t.recall y.base))

/-! ### CLWB, CLINV, CLFL (R219, R220) -/

/-- A line maintenance instruction: only a physical line has copies to act on; windows are checked as a byte's store
(R481). The core leaves the work to the homes (R220). -/
def lineBody (px : List Prefix) (s : BitVec 6) (f : State → Nat → State) : Body := fun _ st =>
  match st.readOp (ctxAddr px s) s with
  | .error e => .error e
  | .ok va =>
    match st.resolve .leaf va 1 with
    | (_, .error e) => .error e
    | (t, .ok (.phys pa _)) => .ok ((f t (lineOf pa)).post st (specSteps s))
    | (t, .ok (.loc ea)) =>
      (match t.windowLocal ea 1 true .scalar with
       | .error e => .error e
       | .ok _ => .ok (t.post st (specSteps s)))
    | (t, .ok (.rem _ _)) => .ok (t.post st (specSteps s))

/-- CLWB (R219). -/
def execClwb (px : List Prefix) (s : BitVec 6) (w1 : W1) (st : State) : Out :=
  runInstr (.clwb px s w1) st (lineBody px s fun t l => t.leaveOp ⟨0, l, t.focus⟩)

/-- CLINV (R219). -/
def execClinv (px : List Prefix) (s : BitVec 6) (w1 : W1) (st : State) : Out :=
  runInstr (.clinv px s w1) st (lineBody px s fun t l => t.leaveOp ⟨1, l, t.focus⟩)

/-- CLFL (R219): the hosts' copies leave first, since a line without a tag has none (R234; log 36). -/
def execClfl (px : List Prefix) (s : BitVec 6) (w1 : W1) (st : State) : Out :=
  runInstr (.clfl px s w1) st (lineBody px s fun t l => t.leaveOp ⟨2, l, t.focus⟩)

end Sys2Proof.Machine
end

