-- ==== Sys2Proof/Machine/Ways.lean ====
section
/-! DEFINITION. The links between the dies and the ways over them (R11, R343, R384). -/

namespace Sys2Proof.Machine

/-- The die a link's slot table sends from: 0 to 3 polder, 4 + n dike die n, 16 the sluice die. -/
def tableFrom (t : Nat) : Nat :=
  let l := t / 2
  let back := decide (t % 2 = 1)
  if l < 12 then (if back then 4 + l else l / 3)
  else
    match l with
    | 12 => if back then 1 else 0
    | 13 => if back then 2 else 0
    | 14 => if back then 3 else 1
    | 15 => if back then 3 else 2
    | 16 => if back then 16 else 0
    | _ => if back then 16 else 3

/-- The die a link's slot table sends to. -/
def tableTo (t : Nat) : Nat := tableFrom (if t % 2 = 0 then t + 1 else t - 1)

/-- The polder die a link's slot table sends from; none for a direction that leaves a dike or the sluice die. -/
def tableDie (t : Nat) : Option Nat := if t < 36 ∧ tableFrom t < 4 then some (tableFrom t) else none

/-- A direction of a link. -/
def Net.link (n : Net) (t : Nat) : Link := getAt Link.zero n.links t

/-- A direction replaced. -/
def Net.setLink (n : Net) (t : Nat) (l : Link) : Net := { n with links := setAt n.links t l }

/-- Whether a link is up in both directions. -/
def Net.linkUp (n : Net) (l : Nat) : Bool :=
  !(n.link (2 * l)).down && !(n.link (2 * l)).held && !(n.link (2 * l + 1)).down && !(n.link (2 * l + 1)).held

/-- The table by which a die sends on a link. -/
def tableOn (d l : Nat) : Nat := if tableFrom (2 * l) = d then 2 * l else 2 * l + 1

/-- The polder dies lie in a ring 0, 1, 3, 2 (R11): a die's place in it. -/
def ringPos (d : Nat) : Nat := match d with | 0 => 0 | 1 => 1 | 3 => 2 | _ => 3

/-- The link between a place of the ring and the next. -/
def ringLink (i : Nat) : Nat := match i % 4 with | 0 => 12 | 1 => 14 | 2 => 15 | _ => 13

/-- The ways round the ring whose links are up: their lengths and first tables. -/
def Net.ringWays (n : Net) (d e : Nat) : List (Nat × Nat) :=
  let a := ringPos d
  let k := (ringPos e + 4 - a) % 4
  let there := (List.range k).map fun j => ringLink (a + j)
  let round := (List.range (4 - k)).map fun j => ringLink (a + 3 - j)
  [there, round].filterMap fun l => if l.all n.linkUp then l.head?.map fun x => (l.length, tableOn d x) else none

/-- A last step by a link, if that is up. -/
def Net.lastStep (n : Net) (d l : Nat) : List (Nat × Nat) := if n.linkUp l then [(1, tableOn d l)] else []

/-- The ways from a polder die to a die. -/
def Net.waysFrom (n : Net) (d e : Nat) : List (Nat × Nat) :=
  if e < 4 then n.ringWays d e
  else if e < 16 then (if (e - 4) / 3 = d then n.lastStep d (e - 4) else n.ringWays d ((e - 4) / 3))
  else if d = 0 then n.lastStep 0 16
  else if d = 3 then n.lastStep 3 17
  else n.ringWays d 0 ++ n.ringWays d 3

/-- The ways from any die to another. -/
def Net.ways (n : Net) (d e : Nat) : List (Nat × Nat) :=
  if d < 4 then n.waysFrom d e
  else if d < 16 then n.lastStep d (d - 4)
  else
    [(0, 16), (3, 17)].flatMap fun x =>
      if !n.linkUp x.2 then []
      else
        let goal := if e < 4 then e else (e - 4) / 3
        if goal = x.1 then [(1, tableOn 16 x.2)] else (n.ringWays x.1 goal).map fun w => (w.1 + 1, tableOn 16 x.2)

/-- The table by which a packet leaves a die toward another: that of a shortest way, free among several; none when no way is left
(R343). -/
def State.nextTable (s : State) (d e : Nat) : State × Option Nat :=
  let w := s.net.ways d e
  let best := (w.filter fun x => w.all fun y => decide (x.1 ≤ y.1)).map (·.2)
  match best with
  | [] => (s, none)
  | [t] => (s, some t)
  | l => let q := s.free; (q.2, l[q.1.toNat % l.length]?)

end Sys2Proof.Machine
end

