-- ==== Sys2Proof/Machine/Coherence.lean ====
section
/-! DEFINITION. The homes' transactions (R233 to R241), the L2's fills, and what hosts, expanders and peers do to lines
(R253 to R257). A core's access performs the transactions it needs at once; the events here are those that a cluster,
a host or a peer makes of its own accord (log 38). Each waits at the home while hosts owe answers for its line (R237, R253;
log 26). -/

namespace Sys2Proof.Machine

/-! ### Cluster requests (R236) -/

/-- Whether a cache takes part in coherence: a cluster has an L1, a service core its data cache (R233). -/
def State.canCache (s : State) (k : Nat) : Bool := decide (1024 ≤ k) || s.hasL1 k

/-- A shared read of a line by a cache: the fill of its tag, then its copy (R236, R245). -/
def State.shareInto (s : State) (k line : Nat) : State := (s.fillFor k line (s.ddOf (s.cachePart k) line)).l1Share k line

/-- READ_SHARED: a line granule read by a cache without a copy (R236). -/
def execReadShared (cl line : Nat) (s : State) : Out :=
  s.atHome "READ_SHARED" (s.canCache cl && (s.l1At cl line).isNone) ((line, false) :: s.fillStops cl line)
    (s.shareInto cl line)

/-- Exclusive ownership of a line, or of its whole tile, for a cache; the line is clean unless dirty data passed. A line that
the cache may not hold is only taken from the others (R241). -/
def State.acquire (s : State) (k line : Nat) : State :=
  let s0 := s.fillFor k line (s.ddOf (s.cachePart k) line)
  if !s0.mayCache k line then s0.recall line
  else
    let s1 := ((s0.unitOf line).filter (· ≠ line)).foldl (fun t l => t.takeLine k l) s0
    (s1.pushOwned k line).updDir line fun r => r.own (dirName k)

/-- READ_FOR_OWNERSHIP (R236). -/
def execReadForOwnership (cl line : Nat) (s : State) : Out :=
  s.atHome "READ_FOR_OWNERSHIP" (s.canCache cl && (s.l1At cl line).isNone) (s.writeStops line ++ s.fillStops cl line)
    (s.acquire cl line)

/-- UPGRADE from S or O (R236). -/
def execUpgrade (cl line : Nat) (s : State) : Out :=
  s.atHome "UPGRADE" (s.canCache cl && (s.l1At cl line == some .s || s.l1At cl line == some .o)) (s.writeStops line)
    (s.acquire cl line)

/-- WRITE_BACK: a dirty line leaves a cache (R236); of a tile line the cluster keeps its tile permission (R240). It is a device
write toward hosts (R253). -/
def execWriteBack (cl line : Nat) (s : State) : Out :=
  s.atHome "WRITE_BACK" (s.dirtyIn cl line) [(line, true)] (s.evictL1 cl line)

/-- CLEAN_EVICTION_NOTICE (R235, R236). -/
def execCleanEvictionNotice (cl line : Nat) (s : State) : Out :=
  enabledIf "CLEAN_EVICTION_NOTICE" ((s.l1At cl line == some .e || s.l1At cl line == some .s) && !s.snooped line)
    (s.evictL1 cl line)

/-- A record whose owner has been downgraded in place (R236). -/
def DirRec.lowerAt (r : DirRec) (cl : Nat) (dirty : Bool) : DirRec := if r.owner = cl then r.lower dirty else r

/-- PROBE_ANSWER: a cluster interface gives up or downgrades its copy, whatever its cores do (R237); without a copy it
answers so and nothing changes (R235). -/
def execProbeAnswer (cl line : Nat) (inv : Bool) (s : State) : Out :=
  match s.l1At cl line with
  | none => .next s
  | some st =>
    if inv then s.atHome "PROBE_ANSWER" true (if s.dirtyIn cl line then [(line, true)] else []) (s.evictL1 cl line)
    else
      let t := s.downgrade cl line
      .next (if (t.tileAt line).isSome then t else t.setDir line ((t.dirRec line).lowerAt (dirName cl) (decide (st = .m))))

/-- TILE_GRANULE_REQUEST: a request of a cluster of the declaring partition for a tile's line, performed for the whole
tile (R238 to R240). -/
def execTileGranuleRequest (cl line : Nat) (own : Bool) (s : State) : Out :=
  s.atHome "TILE_GRANULE_REQUEST" (s.canCache cl && (s.tileGrain cl line).isSome)
    ((if own then s.writeStops line else [(line, false)]) ++ s.fillStops cl line)
    (if own then s.acquire cl line else s.shareInto cl line)

/-- LINE_GRANULE_WRITE: before a line-granule write to a tile's line the whole tile is written back and invalidated
(R241). -/
def execLineGranuleWrite (line : Nat) (s : State) : Out :=
  s.atHome "LINE_GRANULE_WRITE" (s.tileAt line).isSome (s.unitStops line) (s.recall line)

/-- HOME_ATOMIC: the home recalls the line, hosts' copies included, before its atomic unit performs (R182, R253). -/
def execHomeAtomic (line : Nat) (s : State) : Out :=
  s.atHome "HOME_ATOMIC" true (s.writeStops line) (s.recall line)

/-- REMOTE_WINDOW_ACCESS: a remote load, store, STN or atomic is performed in the owning store by the instruction, or the
publication, that makes it (R185; log 38). -/
def execRemoteWindowAccess (_ : Nat) (s : State) : Out := .next s

/-- L2_FILL: a line filled into its slice for a partition (R245). It may share an entry only where the partition maps it with
DD = 1 too (R243). A tag that leaves for it may wait for hosts (R247, R253). -/
def execL2Fill (line part : Nat) (elig : Bool) (s : State) : Out :=
  s.atHome "L2_FILL" true (s.roomStops part line) (s.l2Fill line part (elig && s.ddOf part line))

/-! ### Hosts (R252 to R255) -/

/-- Whether a host link of B3 is up (R426). -/
def State.linkUp (s : State) (port : Nat) : Bool := decide (s.stage = .b3) && s.sluice.up.toList.getD port false

/-- Whether a port runs CXL with CXL.cache and CXL.mem, its link up (R252). -/
def State.cxlPort (s : State) (port : Nat) : Bool := s.linkUp port && decide (s.ports.toList.getD port 0 = 2#2)

/-- A line of this package's HBM. -/
def hbmLine (line : Nat) : Bool := inGlobalPool (line * 128) 128 || inLocalPool (line * 128) 128

/-- The polder die by which a request from the sluice die for a line of HBM enters: one of a shortest way (R343). -/
def State.hostEntry (s : State) (line : Nat) : Option Nat := ((s.nextTable 16 (4 + homeOfLine line)).2).map tableTo

/-- Whether requests from outside for a line of HBM find their way: while the die by which they enter, or the polder die beside the
home, is in reset, the sluice die holds them (R421). -/
def State.hostPath (s : State) (line : Nat) : Bool :=
  let free := fun (d : Nat) => (findAt s.sluice.dieReset d).isNone
  s.sluice.dieReset.isEmpty ||
    (free (homeOfLine line / 3) && (match s.hostEntry line with | some d => free d | none => true))

/-- A host request that the sluice die holds; a request made again has passed its completion timeout, and one that asks for a completion
is answered with Completer Abort (R421; log 38). -/
def State.holdHost (s : State) (port line : Nat) (completes : Bool) : State :=
  let h := s.sluice
  if h.hostHeld.contains (port, line) then
    (if completes then
      { s with sluice := { h with hostHeld := h.hostHeld.erase (port, line), hostAborts := h.hostAborts ++ [(port, line)] } }
     else s)
  else { s with sluice := { h with hostHeld := h.hostHeld ++ [(port, line)] } }

/-- A host request let through. -/
def State.freeHost (s : State) (port line : Nat) : State :=
  { s with sluice := { s.sluice with hostHeld := s.sluice.hostHeld.erase (port, line) } }

/-- A line of host memory behind a port (R358). -/
def hostLine (port line : Nat) : Bool := inHost (line * 128) 128 && decide (line * 128 / 0x4000000000000 % 2 = port)

/-- The write-backs of a host's request that other lines of its tile's hosts must answer for (R253). -/
def State.otherStops (s : State) (line : Nat) : List (Nat × Bool) := (s.unitStops line).filter fun x => decide (x.1 ≠ line)

/-- What a port's request for a line needs of the other port first: its whole copy, or its exclusive one (R253). -/
def State.otherMust (s : State) (port line : Nat) (all : Bool) : Bool :=
  (s.dirRec line).hostBit (1 - port) && (all || ((s.dirRec line).hx && !(s.dirRec line).hostBit port))

/-- A tag for a line that a host is to cache, so that the home has a record of it (R234); under which partition's quota is free
(log 26). -/
def State.hostFill (s : State) (line : Nat) : State :=
  if (s.tagOf line).isSome then s else let q := s.free; q.2.l2Fill line (q.1.toNat % 128) false

/-- What that tag needs of hosts first (R247, R253). -/
def State.hostFillStops (s : State) (line : Nat) : List (Nat × Bool) := s.roomStops (s.free.1.toNat % 128) line

/-- A host's read of a line that it caches, the other port's copy already as the read needs it (R253). Without a tag for it the
line is read uncached. -/
def State.hostRead (s : State) (port line : Nat) (excl : Bool) : State :=
  let s1 := (if excl then s.recall line else s.lower line).hostFill line
  if (s1.tagOf line).isNone then s1
  else s1.setDir line { (s1.dirRec line).setHost port true with hx := excl }

/-- CXL_MEM_READ: a host read that caches the line, exclusive or shared (R253); the sluice die may hold it (R421). -/
def execCxlMemRead (port line : Nat) (excl : Bool) (s : State) : Out :=
  let ok := s.cxlPort port && decide (port < 2) && hbmLine line && !s.snooped line
  if ok && !s.hostPath line then .next (s.holdHost port line true)
  else if ok && s.otherMust port line excl then .next (s.snoopBut (some port) line excl .other)
  else
    s.atHome "CXL_MEM_READ" ok ((if excl then s.otherStops line else []) ++ s.hostFillStops line)
      ((s.freeHost port line).hostRead port line excl)

/-- Bytes written at the home one after the other by an agent outside the package. -/
def State.storeBytes (s : State) (pa : Nat) : List Byte → State
  | [] => s
  | b :: t => (s.storeHome pa 1 1 b.toNat).storeBytes (pa + 1) t

/-- The Back-Invalidate of a line that a port owes an answer to. -/
def State.snoopOf (s : State) (port line : Nat) : Option Snoop :=
  s.snoops.find? fun x => decide (x.line = line) && x.ports.contains port

/-- CXL_MEM_WRITE: a line-granule write of at most the bytes of one CXL line; the other port's copy is invalidated first, the
writer's bits stay (R253). A write of a port that owes an answer for the line is ordered before its BIRsp (R254). The sluice die may
hold it (R421). -/
def execCxlMemWrite (port pa : Nat) (data : List Byte) (s : State) : Out :=
  let line := lineOf pa
  let ok := s.cxlPort port && decide (port < 2) && hbmLine line && decide (pa % 64 + data.length ≤ 64)
  let crossing := (s.snoopOf port line).isSome
  if ok && !s.hostPath line then .next (s.holdHost port line true)
  else if ok && !s.snooped line && s.otherMust port line true then .next (s.snoopBut (some port) line true .other)
  else s.atHome "CXL_MEM_WRITE" (ok && (!s.snooped line || crossing)) (s.otherStops line)
    ((s.freeHost port line).storeBytes pa data)

/-- A Back-Invalidate replaced; once nobody owes an answer it is closed, the line's record says what the hosts keep, and the line
operations that waited for it go on (R220, R253). -/
def State.putSnoop (s : State) (x y : Snoop) : State :=
  if y.ports.isEmpty then
    ({ s with snoops := s.snoops.filter (· ≠ x) }.setDir y.line ((s.dirRec y.line).answered y)).retryOps
  else { s with snoops := s.snoops.map fun z => if z = x then y else z }

/-- BIRSP: a host's answer (R253). -/
def execBirsp (port line : Nat) (s : State) : Out :=
  match s.snoopOf port line with
  | none => notEnabled "BIRSP"
  | some x => .next (s.putSnoop x { x with ports := x.ports.filter (· ≠ port) })

/-- BICONFLICT: the crossing read of a port that owes an answer counts as first and is answered; an exclusive one once no other
port may hold the line. The BISnp is sent again where the new state still needs it: always to invalidate, and toward an
exclusive copy (R254). -/
def execBiconflict (port line : Nat) (excl : Bool) (s : State) : Out :=
  match s.snoopOf port line with
  | none => notEnabled "BICONFLICT"
  | some x =>
    let other := (s.dirRec line).hostBit (1 - port) && !(x.inv && x.asked.contains (1 - port) && !x.ports.contains (1 - port))
    if (excl && (other || (s.hostBlock (s.otherStops line)).isSome)) || (s.tagOf line).isNone then notEnabled "BICONFLICT"
    else
      let t := s.hostRead port line excl
      let t1 := if excl then t.setDir line ((t.dirRec line).setHost (1 - port) false) else t
      .next (t1.putSnoop x (if x.inv || excl then x else { x with ports := x.ports.filter (· ≠ port) }))

/-- SNPINV: every device copy of a host line goes, dirty data to the host (R255). -/
def execSnpinv (port line : Nat) (s : State) : Out :=
  enabledIf "SNPINV" (s.cxlPort port && hostLine port line) ((s.recall line).evictTag line)

/-- SNPDATA: the owner is downgraded to S, dirty data goes to the host (R255). -/
def execSnpdata (port line : Nat) (s : State) : Out :=
  enabledIf "SNPDATA" (s.cxlPort port && hostLine port line) (s.shareAll line)

/-- SNPCUR: the current data is returned, the states stay (R255). -/
def execSnpcur (port line : Nat) (s : State) : Out :=
  enabledIf "SNPCUR" (s.cxlPort port && hostLine port line) s

/-- HOST_POSTED_WRITE: a host's write is performed at the home, in the order of its arrival (R187): into device memory, or
by the host into its own (log 38). The sluice die may hold the former; a posted write has no completion (R421). -/
def execHostPostedWrite (port pa : Nat) (data : List Byte) (s : State) : Out :=
  let line := lineOf pa
  let ok := s.linkUp port && decide (port < 2) && decide (pa % 128 + data.length ≤ 128) && (hbmLine line || hostLine port line)
  if ok && hbmLine line && !s.hostPath line then .next (s.holdHost port line false)
  else s.atHome "HOST_POSTED_WRITE" ok (s.writeStops line) ((s.freeHost port line).storeBytes pa data)

/-! ### Timeouts of host requests (R202, R212, R253) -/

/-- A load, vector load or returning atomic of MAJ 0xC: its chain, address operand, width, need, and whether an AtomicOp can
carry it (R212). -/
structure HostReq where
  px : List Prefix
  sp : BitVec 6
  n : Nat
  need : Need
  travels : Bool
deriving DecidableEq, Repr

/-- The request of an instruction. A no-return atomic makes none that its activation waits for (R210). -/
def hostReq : Instr → Option HostReq
  | .ldg px s _ | .ldx px s _ => some ⟨px, s, accessBytes px, .read, true⟩
  | .vldg px s _ => some ⟨px, s, 64, .read, true⟩
  | .amoadd px s w | .amoswp px s w => if w.aux.getLsbD 0 then none else some ⟨px, s, accessBytes px, .rmw, true⟩
  | .amoand px s w | .amoor px s w | .amoxor px s w | .amomin px s w | .amomax px s w | .amominn px s w | .amomaxn px s w
  | .amofadd px s w => if w.aux.getLsbD 0 then none else some ⟨px, s, accessBytes px, .rmw, false⟩
  | .amocas px s _ => some ⟨px, s, accessBytes px, .rmw, true⟩
  | _ => none

/-- The instruction at the program counter of the core in focus, once order 1 of R201 lets it through, in the state its fetch leaves. -/
def State.instrNow (s : State) : Option (State × Instr × Attrs) :=
  match s.fetch with
  | (_, .error _) => none
  | (t, .ok ws) =>
    match decode ws with
    | .error _ => none
    | .ok (i, _) =>
      match i.parts, attrsOf i with
      | some p, some a => if (t.contextFault p a).isSome then none else some (t, i, a)
      | _, _ => none

/-- Whether that instruction has committed before it is performed (order 2 of R201). -/
def State.commitsFirst (s : State) : Bool := match s.instrNow with | some (_, _, a) => a.commit | none => false

/-- The access to a line of the instruction at the program counter of the core in focus, once orders 1 to 8 of R201 let it
through: its virtual address, its place, and whether it has committed before (an atomic or a device access). A line of a cluster's
store is named as the remote window names it. -/
def State.lineAccess (s : State) (line : Nat) : Option (Word × Nat × Bool) :=
  match s.instrNow with
  | none => none
  | some (t, i, _) =>
    match hostReq i with
    | none => none
    | some q =>
      match t.readOp (ctxAddr q.px q.sp) q.sp with
      | .error _ => none
      | .ok va =>
        let asks := fun (x : Spot) => decide (q.need = .rmw) || !(t.fromMemory x q.n).isEmpty
        match t.resolve q.need va q.n with
        | (_, .ok (.phys pa leaf)) =>
          if lineOf pa = line ∧ (q.travels || !t.atomicOpPath pa leaf) ∧ asks (.phys pa leaf)
            then some (va, pa, decide (q.need = .rmw ∨ ptePol leaf = 2)) else none
        | (_, .ok (.rem cl off)) =>
          if lineOf (windowAddr cl off) = line ∧ asks (.rem cl off)
            then some (va, windowAddr cl off, decide (q.need = .rmw)) else none
        | _ => none

/-- The host memory access of the instruction at the program counter of the core in focus that a host can leave unanswered: one
that its cache does not serve. -/
def State.hostAccess (s : State) (line : Nat) : Option (Word × Bool) :=
  match s.lineAccess line with
  | some (va, pa, com) =>
    if inHost pa 1 ∧ (com || (match s.cacheFor s.focus with | some k => (s.l1At k line).isNone | none => true)) then some (va, com)
    else none
  | none => none

/-- The fault of a request that is lost at the instruction of the core in focus (R201 order 9); an atomic and a device access have
committed before (R204, R212). -/
def State.takeLost (s : State) (cause : BitVec 8) (va : Word) (committed : Bool) : State :=
  let t := if committed then s.commit else s
  t.takeFault t.siteNow ⟨cause, 0x00, none, va, 0, 0⟩

/-- HTIME at the instruction of the core in focus. -/
def State.takeHtime (s : State) (va : Word) (committed : Bool) : State := s.takeLost 0x19 va committed

/-- The lines of the buffered stores of the core in focus whose publication waits for a line. -/
def State.waiters (s : State) (line : Nat) : List Nat :=
  (s.core.buf.filterMap fun e => match e with
    | .glob g => (match g.place with
      | .phys pa => if (s.entryStops e).any fun x => decide (x.1 = line) then some (lineOf pa) else none
      | .remote _ _ => none)
    | _ => none).eraseDups

/-- A Back-Invalidate that no host answers fails the request of a core that waits for it: published stores are dropped when the
commit performs them and reported with HTIME (R202); any other access faults with HTIME. -/
def State.coreTimeout (s : State) (x : Snoop) : State :=
  let w := if x.inv then s.waiters x.line else []
  if !w.isEmpty then
    { s with core := { s.core with doomed := s.core.doomed ++ w.map fun l => (l, 0x19) } }
  else if s.core.act.isNone then s
  else
    match s.lineAccess x.line with
    | some (va, _, com) => s.takeHtime va com
    | none => s.takeHtime (BitVec.ofNat 64 (x.line * 128)) s.commitsFirst

/-- Whether a core holds a buffered store or atomic to a line; one of a cluster's store is named as the remote window names it. -/
def Core.stores (c : Core) (line : Nat) : Bool :=
  c.buf.any fun e => match e with
    | .glob g => (match g.place with
      | .phys pa => decide (lineOf pa = line)
      | .remote cl off => decide (lineOf (windowAddr cl off) = line))
    | _ => false

/-- The buffered stores of the core in focus to a line fail when they are published (R202). -/
def State.doom (s : State) (line : Nat) (cause : BitVec 8) : State := s.upd fun c => { c with doomed := c.doomed ++ [(line, cause)] }

/-- Whether the publication of the core in focus asks a host for a line of its memory: it stores to it, and its cache does not own it. -/
def State.asksHost (s : State) (line : Nat) : Bool :=
  inHost (line * 128) 128 && s.core.stores line &&
  (match s.cacheFor s.focus with | some k => !(s.l1At k line == some .m || s.l1At k line == some .e) | none => true)

/-- Line operations that wait for a line failed: they are dropped and reported (R202, R220, R253; log 26). -/
def State.failOps (s : State) (line : Nat) : State :=
  let hit := fun (op : LineOp) => (s.opStops op).any fun x => decide (x.1 = line)
  (s.lineOps.filter hit).foldl (fun t op => t.storeError op.sid 0x19 op.line) { s with lineOps := s.lineOps.filter fun op => !hit op }

/-- Whether a core waits for its own line operations on a line, and not for a request of its own. -/
def State.waitsOps (s : State) (sid line : Nat) : Bool :=
  s.lineOps.any fun op => decide (op.sid = sid) && (s.opStops op).any fun x => decide (x.1 = line)

/-- A running engine command of an agent, by kind, ended with a status: 1 its matrix engine's, 2 its stream engine's, 3 its oldest
bulk copy's (R231, R395). -/
def State.engineFail (s : State) (sid kind : Nat) (status : BitVec 8) : Option State :=
  match kind with
  | 1 => (match s.mxRun sid with
    | some r => if r.forming || r.susp || r.ended.isSome then none else some (s.mxEndGang sid status)
    | none => none)
  | 2 => (match (s.coreAt sid).se.cur with
    | some g => if (s.coreAt sid).se.susp then none else some (s.sgoEnd sid g status)
    | none => none)
  | 3 => (match s.bulks.find? fun b => decide (b.sid = sid) && b.taken && !b.paused && b.status.isNone && s.bulkLive b with
    | some b => some (s.bulkEnd b status)
    | none => none)
  | _ => none

/-- HOST_TIMEOUT: a host does not answer. A Back-Invalidate of the line fails the request that waits for it, and the line stays as
it was (R253). Without one, a host access fails: that of the instruction which agent `sid` runs, that of its buffered stores and
no-return atomics when they are published (R202), or of an engine's command, which `sid` names as 8192 times its kind above its agent
(log 26). -/
def execHostTimeout (sid line : Nat) (s : State) : Out :=
  match s.snoops.find? fun x => decide (x.line = line) with
  | some x =>
    let t : State := { s with snoops := s.snoops.filter (· ≠ x) }.failOps line
    .next (match x.asker with
      | .core c => if s.waitsOps c line then t else t.onCore c fun u => u.coreTimeout x
      | .matrix c => t.mxEndGang c 0x19
      | .stream c => (match (t.coreAt c).se.cur with | some g => t.sgoEnd c g 0x19 | none => t)
      | .bulk dk p n => (match t.bulkAt dk p n with
        | some b => if b.status.isNone && t.bulkLive b then t.bulkEnd b 0x19 else t
        | none => t)
      | .other => t)
  | none =>
    if 8192 ≤ sid then
      (match (if inHost (line * 128) 128 then s.engineFail (sid % 8192) (sid / 8192) 0x19 else none) with
       | some t => .next t
       | none => notEnabled "HOST_TIMEOUT")
    else
      let t := s.focusOn sid
      match t.core.act, t.hostAccess line with
      | some _, some (va, com) => t.whenClear (.next ((t.takeHtime va com).focusOn s.focus))
      | _, _ => enabledIf "HOST_TIMEOUT" (t.asksHost line) ((t.doom line 0x19).focusOn s.focus)

/-! ### Power gating, expanders, peers (R256, R257) -/

/-- The caches behind a cluster's interface: its L1, and the data cache of the service core that it stands for (R233). -/
def interfaceCaches (cl : Nat) : List Nat :=
  if dirName (svcCache (tileOfCluster cl)) = cl then [cl, svcCache (tileOfCluster cl)] else [cl]

/-- A cluster power-gated: after its write-backs and notices nothing names it (R256). -/
def State.gate (s : State) (cl : Nat) : State :=
  let s1 := (((interfaceCaches cl).foldl State.emptyCache s).leaveTiles cl).leaveRecords cl
  s1.setCluster cl { s1.cluster cl with gated := true }

/-- POWER_GATE (R256). It waits while a line of the cluster has a transaction open (R259). -/
def execPowerGate (cl : Nat) (s : State) : Out :=
  s.atHome "POWER_GATE" (s.cluster cl).owner.isNone ((interfaceCaches cl).flatMap s.cacheStops) (s.gate cl)

/-- EXPANDER_BISNP: a shared expander recalls this package's copies of a line, as a SnpInv does (R257). -/
def execExpanderBisnp (line : Nat) (s : State) : Out :=
  enabledIf "EXPANDER_BISNP" (s.inExpander (line * 128) 128) ((s.recall line).evictTag line)

/-- PEER_ACCESS: an uncached load or store of a peer package at the home of an HBM line, as a SYS agent (R257); or bytes that another
package, or a host, has written in the memory of a peer, as this package now reads them there (R358; log 85). -/
def execPeerAccess (pa : Nat) (write : Bool) (data : List Byte) (s : State) : Out :=
  let line := lineOf pa
  s.atHome "PEER_ACCESS" (decide (s.stage = .b3) && decide (pa % 128 + data.length ≤ 128) &&
      ((hbmLine line && s.hostPath line) || (write && s.inPeer (line * 128) 128)))
    (if write then s.writeStops line else [(line, false)]) (if write then s.storeBytes pa data else s.lower line)

end Sys2Proof.Machine
end

