-- ==== Sys2Proof/Machine/Network.lean ====
section
/-! DEFINITION. The deflection network (R322 to R340), the UCIe links (R341 to R343) and their time slots (R344, R345).
A packet of a message keeps the message from its receiver until it is complete, and a packet that is abandoned loses what it
transports (R339); what other packets transport acts elsewhere, at once (log 39). Ports are 0 north, 1 east, 2 south, 3 west. -/

namespace Sys2Proof.Machine

/-! ### Shapes and bounds (R336, R337) -/

/-- B of R337: entry to ejection. -/
def State.boundB (s : State) (p : Nat) : Nat := (2 * s.netW p * s.netH p + 1) * (s.netW p + s.netH p - 2)
/-- A: admission to entry. -/
def State.boundA (s : State) (p : Nat) : Nat := 64 + s.boundB p
/-- F: a five-flit packet. -/
def State.boundF (s : State) (p : Nat) : Nat := 5 * s.boundA p + s.boundB p
/-- Q: delivery. -/
def State.boundQ (s : State) (p : Nat) : Nat := 2 * s.boundF p + s.boundA p + s.boundB p

/-! ### Traffic (R322, R326) -/

/-- The network that carries a traffic: 0 REQ, 1 DATA, 2 PRB. -/
def trafficNet : Traffic → Nat
  | .read _ _ | .status _ | .write _ _ | .collective _ | .forward _ => 0
  | .data _ | .panel _ | .message _ => 1
  | .probe _ | .ack _ | .resend _ => 2

/-- The longest packet of a network. -/
def maxLen (net : Nat) : Nat := if net = 0 then 3 else if net = 1 then 5 else 2

/-- The DATA flits of some bytes with their header: 32 bytes a flit (R322). -/
def dataFlits (bytes : Nat) : Nat := (bytes + 39) / 32

/-- Whether a packet has the length that R322 gives its traffic: a line's data and a message by their bytes; of the others only the
longest is given. -/
def State.lenOk (s : State) (what : Traffic) (len : Nat) : Bool :=
  decide (0 < len ∧ len ≤ maxLen (trafficNet what)) &&
  (match what with
   | .data _ => decide (len = dataFlits 128)
   | .message n => (match s.wireAt n with | some w => decide (len = dataFlits (8 * w.payload.length)) | none => false)
   | _ => true)

/-- Whether an operand panel of a gang's member goes to another one on a route class (R135): A panels east along the member's row on
class 1, B panels north along its column on class 2. -/
def State.panelWay (s : State) (sid dst : Nat) (cls : BitVec 3) : Bool :=
  match s.formOf .mx sid with
  | none => false
  | some f => f.formed && f.members.any fun m => decide (epOf m = dst) &&
      ((cls == 1 && decide (yOf m = yOf sid ∧ xOf sid < xOf m)) || (cls == 2 && decide (xOf m = xOf sid ∧ yOf sid < yOf m)))

/-- Whether an endpoint is that of a member of a gang with which an agent forms a barrier, a GRED or a VMAXX (R326). -/
def State.gangWay (s : State) (sid dst : Nat) : Bool :=
  [FormKind.gred, .vmaxx, .bar].any fun k => match s.formOf k sid with
    | some f => (s.gangOf f.origin f.gwl f.ghl).any fun m => decide (m ≠ sid ∧ epOf m = dst)
    | none => false

/-- Whether a packet has the route class of its traffic (R326): a message its header's. -/
def State.clsOk (s : State) (what : Traffic) (dst : Nat) (cls : BitVec 3) : Bool :=
  match what with
  | .message n => (match s.wireAt n with | some w => w.hdr.extractLsb' 36 3 == cls | none => false)
  | .panel sid => s.panelWay sid dst cls
  | .collective _ => cls == 3
  | _ => cls == 0

/-- Whether a line is one of the remote window (R25). -/
def windowLine (line : Nat) : Bool := decide (0x7E0000000000 ≤ line * 128 ∧ line * 128 < 0x7E1000000000)

/-- The home of a line as an endpoint: the owning cluster of a line of the remote window, its dike die, or the sluice die for what
lies outside the package. -/
def homeEp (line : Nat) : Nat :=
  if windowLine line then epOf ((line * 128 - 0x7E0000000000) / 16777216)
  else if deviceLine line then 2048 + homeOfLine line else 2060

/-- The endpoints of an acknowledgement: from its packet's destination to its source, or between the message's two agents. -/
def State.ackEnds (s : State) (a : Ack) : Nat × Nat :=
  match a.pkt.bind s.net.pkt with
  | some p => (p.dst, p.src)
  | none => (epOf a.dst, epOf a.sid)

/-- The endpoint by which a message leaves its source, if packets carry it: an agent's, a dike die's or the sluice die's. -/
def Wire.srcEp (w : Wire) : Option Nat :=
  match w.kind with
  | .ret _ => none
  | _ => if w.src < 8192 then some (epOf w.src) else if w.src = 8448 then some 2060
         else if 8704 ≤ w.src then some (2048 + (w.src - 8704)) else none

/-- The endpoint at which a message leaves the package's networks: its receiver's, or for a fabric package the sluice die (R312). -/
def Wire.dstEp (w : Wire) : Nat := if w.toPeer then 2060 else epOf w.dst

/-- Whether a resend request for a packet has not been sent as a packet (R334; log 39). -/
def Net.unsent (n : Net) (id : Nat) : Bool := n.asks.any fun a => decide (a.pkt = id ∧ a.via = none)

/-- Whether a traffic can leave one endpoint for another now. -/
def State.trafficOk (s : State) (what : Traffic) (src dst : Nat) : Bool :=
  match what with
  | .read sid line =>
    decide (dst = homeEp line) && (if sid / 8192 = 3 then decide (2048 ≤ src) else decide (src = epOf (sid % 8192)))
  | .status sid => decide (src = epOf sid) && epFar dst
  | .write sid line => decide (src = epOf sid ∧ dst = homeEp line) && (s.coreAt sid).stores line
  | .collective sid => decide (src = epOf sid) && s.gangWay sid dst
  | .panel sid => decide (src = epOf sid)
  | .data _ | .probe _ => true
  | .message n => (match s.wireAt n with
      | some w => decide (w.srcEp = some src ∧ dst = w.dstEp ∧ w.trip.pkt = none ∧ w.next ≤ s.now) && !s.heldBack n w
      | none => false)
  | .ack n => (match s.acks[n]? with | some a => decide (a.via = none ∧ s.ackEnds a = (src, dst)) | none => false)
  | .resend id => (match s.net.pkt id with
      | some p => s.net.unsent id && decide (src = p.hop ∧ dst = p.ent)
      | none => false)
  | .forward _ => false

/-- The receiver of the message that a packet carries. -/
def State.receiverOf (s : State) (id : Nat) : Option Nat :=
  match s.wire.find? fun w => decide (w.trip.pkt = some id) with
  | some w => some w.dst
  | none => (match s.net.pkt id with
      | some p => (match p.load with
          | .message _ => (s.acks.find? fun a => decide (a.pkt = some id)).map (·.dst)
          | _ => none)
      | none => none)

/-- The agent whose packet a cluster interface sends, where the traffic says it. -/
def State.sender (s : State) (what : Traffic) : Option Nat :=
  match what with
  | .read sid _ | .status sid | .write sid _ | .collective sid | .panel sid => some (sid % 8192)
  | .message n => (s.wireAt n).map (·.src)
  | .ack n => (match s.acks[n]? with
      | some a => (match a.pkt with | some id => s.receiverOf id | none => some a.dst)
      | none => none)
  | .resend id => s.receiverOf id
  | .data _ | .probe _ | .forward _ => none

/-- The value that breaks ties of a packet (R323): its service block's agent, or the core whose packet a cluster interface sends;
which core's a reply or probe is, is free. -/
def State.sourceValue (s : State) (what : Traffic) (src : Nat) : State × Nat :=
  if epSvc src then (s, svcOf (epTile src))
  else
    match s.sender what with
    | some sid => (s, sid)
    | none =>
      let q := s.free
      let k := q.1.toNat % 4
      (q.2, coreId (epDie src) (epX src * 2 + k % 2) (epY src * 2 + k / 2))

/-- Whether a partition is that of an endpoint's tile. -/
def State.epPart (s : State) (e part : Nat) : Bool := decide (e < 2048 ∧ s.partOfTile (epTile e) = some part)

/-- Whether a request of a partition for a line is under way (R328). -/
def Net.requested (n : Net) (line part : Nat) : Bool := n.reqs.any fun r => decide (r.1 = line ∧ r.2.1 = part)

/-- Whether a packet is charged to the partition whose request started its transaction (R328): a request's own; of a line's data that of
the cluster that they reach, of the cluster that writes them back, or one with a request for the line; of a probe or its answer one
with such a request; of an acknowledgement or a resend request that of its packet. -/
def State.chargeOk (s : State) (what : Traffic) (src dst charge : Nat) : Bool :=
  match what with
  | .data line => s.net.requested line charge || s.epPart dst charge || (decide (dst = homeEp line) && s.epPart src charge)
  | .probe line => s.net.requested line charge
  | .ack n => (match s.acks[n]? with
      | some a => (match a.pkt.bind s.net.pkt with
          | some p => decide (p.home = charge)
          | none => decide (s.partOf (if a.sid < 8192 then a.sid else a.dst) = charge))
      | none => false)
  | .resend id => (match s.net.pkt id with | some p => decide (p.home = charge) | none => false)
  | .message n => (match s.wireAt n with
      | some w => decide (s.partOf (if w.src < 8192 then w.src else w.dst) = charge)
      | none => false)
  | .read sid _ => decide (s.partOf (sid % 8192) = charge)
  | .status sid | .write sid _ | .collective sid | .panel sid => decide (s.partOf sid = charge)
  | .forward _ => false

/-! ### Receipt and loss (R338 to R340) -/

/-- A packet out of its reassembly entry (R334). -/
def Net.leaveAsm (n : Net) (id : Nat) : Net :=
  { n with asms := n.asms.filter fun a => decide (a.pkt ≠ id), resv := n.resv.filter fun r => decide (r.2.2 ≠ id) }

/-- Lost acknowledgements of a packet sent again (R338). -/
def State.ackAgain (s : State) (id : Nat) : State :=
  { s with acks := s.acks.map fun a => if a.pkt = some id then { a with via := none } else a }

/-- The message whose packet has come. -/
def State.cameWire (s : State) (id : Nat) : State :=
  { s with wire := s.wire.map fun w =>
      if w.trip.pkt = (some id) then { w with trip := { w.trip with came := true } } else w }

/-- A request for a line answered: its requester has the line's data or the answer to its probe (R328). -/
def Net.answered (n : Net) (p : Pkt) : Net :=
  match p.load with
  | .data line | .probe line => { n with reqs := n.reqs.erase (line, p.home, p.dst) }
  | _ => n

/-- A packet at its receiver (R338): a duplicate is discarded and acknowledged again; a message may be delivered now; an
acknowledgement reaches its sender, a resend request its source; of another packet the retained copy waits for its
acknowledgement. A copy whose source's is in a context apart is one that its source will send again, and is not told of here. -/
def State.receive (s : State) (p : Pkt) : State :=
  let s1 := s.setNet ((s.net.leaveAsm p.id).answered p)
  let got := s1.setNet (s1.net.putPkt { p with got := true, leg := .done })
  if p.apart then s1.setNet (s1.net.dropPkt p.id)
  else if p.got then got.ackAgain p.id
  else
    match p.load with
    | .ack _ =>
      let s2 := s1.setNet (s1.net.dropPkt p.id)
      (match s.acks.find? fun a => decide (a.via = some p.id) with
       | some a => s2.acknowledge a
       | none => s2)
    | .resend id =>
      let n := s1.net.dropPkt p.id
      s1.setNet { n with asks := n.asks.map fun a => if a.pkt = id ∧ a.via = some p.id then { a with came := true } else a }
    | .message _ => got.cameWire p.id
    | _ =>
      if p.retained then { got with acks := got.acks ++ [⟨0, none, 0, 0, some p.id, none, 0, 0⟩] }
      else s1.setNet (s1.net.dropPkt p.id)

/-- Whether an instruction makes a status request to a home or a dike die (R216, R230, R231). -/
def statusRequest : Instr → Bool
  | .tdecl _ _ _ | .tund _ _ _ | .tfwd _ _ _ | .twb _ _ _ | .tinv _ _ _ | .cpgo _ _ _ | .cpst _ _ _ => true
  | _ => false

/-- Whether the instruction at the program counter of the core in focus makes a status request. -/
def State.asksStatus (s : State) : Bool :=
  match s.instrNow with
  | some (_, i, _) => statusRequest i
  | none => false

/-- What an abandoned request means to the agent that it served (R339): LINK in the load, returning atomic or status request that
the core is making; a store about to be published is dropped with R202's report; an engine's command ends. A message is dropped
with LINK to its sender's service core, and its entry is freed; one that has been delivered, and counted, but not acknowledged
leaves its sender LINK too. -/
def State.requestLost (s : State) (p : Pkt) : State :=
  match p.load with
  | .read sid line =>
    if 8192 ≤ sid then (s.engineFail (sid % 8192) (sid / 8192) 0x13).getD s
    else s.onCore sid fun t =>
      if t.core.act.isNone then t
      else match t.lineAccess line with
        | some (va, _, com) => t.takeLost 0x13 va com
        | none => t
  | .status sid => s.onCore sid fun t => if t.core.act.isSome && t.asksStatus then t.takeLost 0x13 0 t.commitsFirst else t
  | .write sid line => s.onCore sid fun t => t.doom line 0x13
  | .message _ =>
    (match s.wire.findIdx? fun w => decide (w.trip.pkt = some p.id) with
     | some n => (match s.wireAt n with | some w => s.dropMsg n w 0x13 0x01 | none => s)
     | none => (match s.acks.find? fun a => decide (a.pkt = some p.id) with
       | some a =>
         let t := s.acknowledge a
         if a.sid < 8192 then t.faultNotice a.sid (hdrLid a.hdr) (faultWord 0x13 0x01 0) a.hdr a.word else t
       | none => s))
  | _ => s

/-- A packet abandoned (R339). -/
def State.abandon (s : State) (p : Pkt) : State :=
  let t := s.setNet (s.net.dropPkt p.id)
  if p.apart then t else t.requestLost p

/-- A whole packet at the trunk of a die goes on (R328, R340): to its destination's gate there, to the arbiter of a dike die, to the
sluice die, or to wait for the link of its way; without a way it is abandoned (R343). -/
def State.goOn (s : State) (id : Nat) : State :=
  match s.net.pkt id with
  | none => s
  | some p =>
    match p.leg with
    | .trunk d =>
      let wait := fun (t : State) (table : Nat) =>
        t.setNet { t.net.putPkt { p with leg := .port } with gates := t.net.gates ++ [(table, p.home, id)] }
      if epDie p.dst = d then
        (if d < 4 then
           (if p.dst = gateOf p.dst then s.receive p else s.setNet (s.net.putPkt { p with leg := .gate, ent := gateOf p.dst }))
         else if d < 16 then wait s (36 + (d - 4))
         else s.receive p)
      else
        (match s.nextTable d (epDie p.dst) with
         | (s1, some t) => wait s1 t
         | (s1, none) => s1.abandon p)
    | _ => s

/-- A packet that has come whole to the end of its way through a mesh. -/
def State.arrived (s : State) (id : Nat) : State :=
  match s.net.pkt id with
  | none => s
  | some p =>
    if p.hop = p.dst then s.receive p
    else ((s.setNet ((s.net.leaveAsm id).putPkt { p with leg := .trunk (epDie p.hop) }))).goOn id

/-! ### Admission (R331 to R333, R340) -/

/-- Whether the damper of a cluster lets a packet in now: in 16 − L cycles of every 16 (R332; log 39). -/
def State.damperOpen (s : State) (cl : Nat) : Bool := decide (s.now % 16 < 16 - (s.cluster cl).damp.toNat)

/-- Off-die packets of an endpoint that hold a gate place on a network: those admitted and not yet on their first link (R340). -/
def Net.gatePlaces (n : Net) (src net : Nat) : Nat :=
  (n.pkts.filter fun p => decide (p.src = src ∧ p.net = net ∧ p.ent = src ∧ p.hop ≠ p.dst ∧ p.leg ≠ .link ∧ p.leg ≠ .done)).length

/-- Whether a packet's flit has waited 64 cycles to enter a mesh, and its endpoint is to raise the mark now (R333). -/
def State.starves (s : State) (p : Pkt) : Bool :=
  decide (p.leg = .mesh ∧ p.entered < p.len ∧ p.admitted + 64 ≤ s.now) && !(s.part p.part).stopped &&
  !(s.net.starve.contains (p.part, p.net, p.id))

/-- Whether an endpoint may admit a packet of `len` flits to a mesh now (R331 to R333, R335). -/
def State.admits (s : State) (ep part net len : Nat) : Bool :=
  s.netRoom part net len && !(s.net.starve.any fun e => decide (e.1 = part ∧ e.2.1 = net)) &&
  !(s.net.pkts.any fun p => decide (p.part = part ∧ p.net = net) && s.starves p) && s.damperOpen (epCluster ep) &&
  !(s.part part).stopped && s.dieRuns (epDie ep)

/-- A new packet recorded. -/
def State.newPkt (s : State) (src dst : Nat) (what : Traffic) (cls : BitVec 3) (len part charge hop : Nat) (leg : Leg) : State :=
  let q := s.sourceValue what src
  let n := q.1.net
  let copy := if epFar src then charge else part
  let s1 := q.1.setNet { n with
    pkts := n.pkts ++ [⟨n.next, what, (trafficNet what), part, charge, cls, src, dst, src, hop, q.2, n.next, len, 0, s.now, 0, leg, false,
      copy, s.runTime copy, false⟩]
    next := n.next + 1
    reqs := match what with | .read _ line | .write _ line => n.reqs ++ [(line, charge, src)] | _ => n.reqs
    asks := match what with | .resend id => n.asks.map (fun a => if a.pkt = id then { a with via := some n.next } else a) | _ => n.asks }
  match what with
  | .message k => { s1 with wire := s1.wire.modify k fun w => { w with trip := { w.trip with pkt := some n.next, came := false } } }
  | .ack k => { s1 with acks := s1.acks.modify k fun a => { a with via := some n.next } }
  | _ => s1

/-- A packet that waits at its destination's gate entered into the mesh there, under that partition's id, the gate as its source
(R328, R340); or one that a halt has withdrawn admitted again (R335). -/
def execForward (id src dst : Nat) (s : State) : Out :=
  match s.net.pkt id, s.partOfTile (epTile dst) with
  | some p, some part =>
    if p.leg = .out then
      enabledIf "PACKET_ADMISSION" (decide (p.ent = src ∧ p.hop = dst) && s.admits src p.part p.net p.len)
        (s.setNet (s.net.putPkt { p with entered := 0, admitted := s.now, leg := .mesh }))
    else
      enabledIf "PACKET_ADMISSION"
        (decide (p.leg = .gate ∧ p.dst = dst ∧ src = gateOf dst) && s.admits src part p.net p.len)
        (s.setNet (s.net.putPkt { p with
          part := part, ent := src, hop := dst, srcVal := svcOf (epTile src), entered := 0, admitted := s.now, leg := .mesh }))
  | _, _ => notEnabled "PACKET_ADMISSION"

/-- PACKET_ADMISSION (R331 to R333, R340): a packet for the own partition's tiles of the die is addressed to its endpoint, any other
to the gate of the source's own tile. A service block's leaves by its gate, a dike die's and the sluice die's by their links,
without a mesh. -/
def execPacketAdmission (src dst : Nat) (what : Traffic) (cls : BitVec 3) (len charge : Nat) (s : State) : Out :=
  match what with
  | .forward id => execForward id src dst s
  | _ =>
    let ok := (epOk src || epFar src) && (epOk dst || epFar dst) && decide (src ≠ dst) && s.trafficOk what src dst &&
      s.lenOk what len && s.clsOk what dst cls && s.chargeOk what src dst charge
    if epFar src then
      enabledIf "PACKET_ADMISSION" ok
        ((s.newPkt src dst what cls len charge charge dst (.trunk (epDie src))).goOn s.net.next)
    else
      match s.partOfTile (epTile src) with
      | none => notEnabled "PACKET_ADMISSION"
      | some part =>
        let near := epOk dst && decide (epDie dst = epDie src) && decide (s.partOfTile (epTile dst) = some part)
        let hop := if near then dst else gateOf src
        let place := near || decide (s.net.gatePlaces src (trafficNet what) < 8)
        if hop = src then
          enabledIf "PACKET_ADMISSION" (ok && place && s.dieRuns (epDie src) && !(s.part part).stopped)
            ((s.newPkt src dst what cls len part charge hop (.trunk (epDie src))).goOn s.net.next)
        else
          enabledIf "PACKET_ADMISSION" (ok && place && s.admits src part (trafficNet what) len)
            (s.newPkt src dst what cls len part charge hop .mesh)

/-! ### Routing (R324 to R327) -/

/-- A packet's flit. -/
structure Hop where
  p : Pkt
  f : Flit
deriving DecidableEq, Repr

/-- CYC[15:0] of a die. -/
def State.cyc16 (s : State) (d : Nat) : BitVec 16 := BitVec.ofNat 16 (s.now - s.dieBase.toList.getD d 0)

/-- Whether a flit comes before another at a router (R324). -/
def Hop.before (cyc : BitVec 16) (a b : Hop) : Bool :=
  let x := (cyc - a.f.stamp).toNat
  let y := (cyc - b.f.stamp).toNat
  if x ≠ y then decide (y < x)
  else if a.p.srcVal ≠ b.p.srcVal then decide (a.p.srcVal < b.p.srcVal)
  else if a.p.seq ≠ b.p.seq then decide (a.p.seq < b.p.seq)
  else decide (a.f.idx < b.f.idx)

/-- A flit put in its place among sorted ones. -/
def insertHop (cyc : BitVec 16) (h : Hop) : List Hop → List Hop
  | [] => [h]
  | x :: t => if Hop.before cyc h x then h :: x :: t else x :: insertHop cyc h t

/-- Flits in R324's order. -/
def sortHops (cyc : BitVec 16) (l : List Hop) : List Hop := l.foldr (insertHop cyc) []

/-- The flits of a network. -/
def Net.hops (n : Net) (net : Nat) : List Hop :=
  n.flits.filterMap fun f => match n.pkt f.pkt with
    | some p => if p.net = net then some ⟨p, f⟩ else none
    | none => none

/-- The router a port leads to; none at the die edge. -/
def portTo (x y port : Nat) : Option (Nat × Nat) :=
  match port with
  | 0 => if y < 15 then some (x, y + 1) else none
  | 1 => if x < 15 then some (x + 1, y) else none
  | 2 => if 0 < y then some (x, y - 1) else none
  | 3 => if 0 < x then some (x - 1, y) else none
  | _ => none

/-- The partition a router belongs to. -/
def State.routerPart (s : State) (die x y : Nat) : Option Nat := s.partOfTile (tileOfCluster (die * 256 + y * 16 + x))

/-- Allowed (R327): the ports whose far router is of the partition. -/
def State.allowed (s : State) (die x y part : Nat) : List Nat :=
  (List.range 4).filter fun k => match portTo x y k with
    | some r => decide (s.routerPart die r.1 r.2 = some part)
    | none => false

/-- The policy a route class routes by: 0 minimal-adaptive, 1 columns first, 2 rows first (R326, R329). -/
def State.policy (s : State) (part : Nat) (cls : BitVec 3) : Nat :=
  match cls.toNat with
  | 1 => 1
  | 2 => 2
  | 0 | 3 => 0
  | c => bits ((s.part part).rcls.toList.getD (c - 4) 0) 7 6

/-- The ports that shorten the way under a policy (R326). -/
def productive (policy x y dx dy : Nat) : List Nat :=
  let h := if x < dx then [1] else if dx < x then [3] else []
  let v := if y < dy then [0] else if dy < y then [2] else []
  match policy with
  | 1 => if h.isEmpty then v else h
  | 2 => if v.isEmpty then h else v
  | _ => v ++ h

/-! ### Ejection (R334) -/

/-- The entry of a packet. -/
def Net.asmOf (n : Net) (id : Nat) : Option Asm := n.asms.find? fun a => decide (a.pkt = id)

/-- Entries of an endpoint on a network. -/
def Net.asmsAt (n : Net) (ep net : Nat) : List Asm := n.asms.filter fun a => decide (a.ep = ep ∧ a.net = net)

/-- Whether a packet holds a reservation. -/
def Net.reserved (n : Net) (id : Nat) : Bool := n.resv.any fun r => decide (r.2.2 = id)

/-- Reservations of an endpoint and network whose packets hold no entry yet. -/
def Net.waitingResv (n : Net) (ep net : Nat) : List (Nat × Nat × Nat) :=
  n.resv.filter fun r => decide (r.1 = ep ∧ r.2.1 = net) && (n.asmOf r.2.2).isNone

/-- Whether a normal entry is free for a packet: reservations come first, in their order. -/
def Net.entryFree (n : Net) (ep net id : Nat) : Bool :=
  let used := ((n.asmsAt ep net).filter fun a => !a.last).length
  let wait := n.waitingResv ep net
  match wait.findIdx? fun r => decide (r.2.2 = id) with
  | some i => decide (used + i < 32)
  | none => decide (used + wait.length < 32)

/-- The age of an entry's oldest flit. -/
def Asm.age (cyc : BitVec 16) (a : Asm) : Nat := a.got.foldl (fun m g => max m (cyc - g.2).toNat) 0

/-- The entry to evict for a marked flit: its oldest flit is youngest, and its packet holds no reservation. -/
def Net.victim (n : Net) (cyc : BitVec 16) (ep net : Nat) : Option Asm :=
  ((n.asmsAt ep net).filter fun a => !n.reserved a.pkt).foldl (fun best a =>
    match best with
    | none => some a
    | some b => if a.age cyc < b.age cyc then some a else some b) none

/-- An entry opened for a flit. -/
def Net.openAsm (n : Net) (h : Hop) (now : Nat) (last : Bool) : Net :=
  { n with asms := n.asms ++ [⟨h.p.hop, h.p.net, h.p.id, [(h.f.idx, h.f.stamp)], now, last⟩] }

/-- A resend request of an endpoint, in the order of the requests; a packet has one at a time. -/
def Net.ask (n : Net) (id : Nat) : Net :=
  if n.asks.any fun a => decide (a.pkt = id) then n else { n with asks := n.asks ++ [⟨id, none, false⟩] }

/-- A reservation for an evicted packet at its endpoint, which holds at most eight on a network (R334). -/
def Net.reserve (n : Net) (ep net id : Nat) : Net :=
  if n.reserved id ∨ 8 ≤ (n.resv.filter fun r => decide (r.1 = ep ∧ r.2.1 = net)).length then n
  else { n with resv := n.resv ++ [(ep, net, id)] }

/-- A flit at its destination: ejected into an entry, or refused (R334). A late flit of a packet whose resend has been asked for finds
no entry (R346), unless it is marked. -/
def Net.eject (n : Net) (cyc : BitVec 16) (now : Nat) (h : Hop) (marked : Bool) : Option Net :=
  match n.asmOf h.p.id with
  | some a => some { n with asms := n.asms.map fun x =>
      if x = a then { x with got := if x.got.any (fun g => g.1 == h.f.idx) then x.got else x.got ++ [(h.f.idx, h.f.stamp)] }
      else x }
  | none =>
    if h.p.len = 1 then some (n.openAsm h now false)
    else if !marked && n.asks.any fun a => decide (a.pkt = h.p.id) then none
    else if n.entryFree h.p.hop h.p.net h.p.id then some (n.openAsm h now false)
    else if !marked then none
    else if !((n.asmsAt h.p.hop h.p.net).any fun a => a.last) then some (n.openAsm h now true)
    else
      match n.victim cyc h.p.hop h.p.net with
      | none => none
      | some v => some (((({ n with asms := n.asms.filter (· ≠ v) } : Net).ask v.pkt).reserve v.ep v.net v.pkt).openAsm h now v.last)

/-- A flit taken in completes its packet, which leaves its entry at once (R334). -/
def Net.complete (n : Net) (id : Nat) : Option Net :=
  match n.pkt id, n.asmOf id with
  | some p, some a => if a.got.length < p.len then none else some (n.leaveAsm id)
  | _, _ => none

/-- The partition's oldest flit on a network (R334). -/
def Net.oldest (n : Net) (cyc : BitVec 16) (part net : Nat) : Option Hop :=
  (sortHops cyc ((n.hops net).filter fun h => decide (h.p.part = part))).head?

/-! ### One router's cycle (R325) -/

/-- What a router has done so far: the networks' state, free ports, ports chosen and not yet used, ejections by endpoint,
packets completed, flits sent and deflected. -/
structure Router where
  n : Net
  free : List Nat
  picks : List Nat
  ejected : List Nat
  whole : List Nat
  sent : Nat
  deflected : Nat

/-- A flit taken out of the mesh. -/
def Net.takeFlit (n : Net) (f : Flit) : Net := { n with flits := n.flits.filter (· ≠ f) }

/-- A flit sent on the next chosen port of those its partition allows (R327): a productive one while one is free (R325). -/
def Router.send (r : Router) (x y now : Nat) (f : Flit) (fresh : Bool) (allowed prod : List Nat) : Option Router :=
  match r.picks with
  | [] => none
  | k :: rest =>
    let good := r.free.filter prod.contains
    if !r.free.contains k || !allowed.contains k || (!fresh && !good.isEmpty && !good.contains k) then none
    else
      match portTo x y k with
      | none => none
      | some far => some { r with
          n := { (r.n.takeFlit f) with flits := (r.n.takeFlit f).flits ++ [{ f with x := far.1, y := far.2, due := now + 1 }] }
          free := r.free.filter (· ≠ k)
          picks := rest
          sent := r.sent + 1
          deflected := r.deflected + (if !fresh && !prod.contains k then 1 else 0) }

/-- The productive ports of a flit that its partition allows (R325 to R327). -/
def State.goodPorts (s : State) (die x y : Nat) (p : Pkt) : List Nat :=
  (productive (s.policy p.part p.cls) x y (epX p.hop) (epY p.hop)).filter (s.allowed die x y p.part).contains

/-- One arriving flit: ejected, or sent on. -/
def State.routeFlit (s : State) (die x y : Nat) (cyc : BitVec 16) (h : Hop) (r : Router) : Option Router :=
  let here := decide (epX h.p.hop = x ∧ epY h.p.hop = y) && decide ((r.ejected.filter (· = h.p.hop)).length < 2)
  let marked := decide (r.n.oldest cyc h.p.part h.p.net = some h)
  match (if here then r.n.eject cyc (s.runTime h.p.part) h marked else none) with
  | some n =>
    let m := n.takeFlit h.f
    let r1 := { r with ejected := h.p.hop :: r.ejected }
    some (match m.complete h.p.id with
      | some m' => { r1 with n := m', whole := r.whole ++ [h.p.id] }
      | none => { r1 with n := m })
  | none => r.send x y s.now h.f false (s.allowed die x y h.p.part) (s.goodPorts die x y h.p)

/-- The arriving flits in order. -/
def State.routeAll (s : State) (die x y : Nat) (cyc : BitVec 16) : List Hop → Router → Option Router
  | [], r => some r
  | h :: t, r =>
    match s.routeFlit die x y cyc h r with
    | none => none
    | some r' => s.routeAll die x y cyc t r'

/-- The injection candidate of a router (R325): the oldest packet with a flit to enter. -/
def State.candidate (s : State) (die x y net : Nat) : Option Pkt :=
  s.net.pkts.find? fun p =>
    decide (p.net = net ∧ p.leg = .mesh ∧ epDie p.ent = die ∧ epX p.ent = x ∧ epY p.ent = y ∧ p.entered < p.len) &&
    !(s.part p.part).stopped

/-- The candidate's next flit enters on a port left over, with its stamp; it no longer keeps a starvation mark up (R333). -/
def State.inject (s : State) (die x y : Nat) (cyc : BitVec 16) (p : Option Pkt) (r : Router) : Option Router :=
  match p with
  | none => some r
  | some p =>
    if !(r.free.any (s.allowed die x y p.part).contains) then some r
    else
      let n := r.n.putPkt { p with entered := p.entered + 1 }
      let f : Flit := ⟨p.id, p.entered, x, y, s.now, cyc⟩
      let n1 := { n with
        flits := n.flits ++ [f]
        starve := n.starve.filter fun e => decide (e ≠ (p.part, p.net, p.id)) }
      { r with n := n1 }.send x y s.now f true (s.allowed die x y p.part) []

/-- The routers that have moved in this cycle (R325). -/
def State.ranNow (s : State) : List Nat := if s.net.ranAt = s.now then s.net.ran else []

/-- The channels of messages of classes 4 to 7 fixed once a flit of their packet has been ejected (R346). -/
def State.fixChannels (s : State) : State :=
  { s with wire := s.wire.map fun w =>
      if (match w.trip.pkt with | some id => (s.net.asmOf id).isSome || w.trip.came | none => false) then s.fixChannel w else w }

/-- Whether no router has anything for a damper's window to measure, and no level is to fall (R332). -/
def State.damperIdle (s : State) : Bool := s.clusters.all fun e => decide (e.2.damp = 0 ∧ e.2.routed = 0)

/-- The cycle at which the damper window under way began: windows follow each other from cycle 0 on (R332). -/
def State.windowStart (s : State) : Nat := if s.damperIdle then s.now / 256 * 256 else s.net.window

/-- Whether the damper window under way has ended and its levels are to be set now. -/
def State.windowOver (s : State) : Bool := decide (s.windowStart + 256 ≤ s.now)

/-- FLIT_ARRIVAL: one router's cycle on one network, at most once in a cycle, with the flits that reach it in that cycle (R325);
`ports` are its free choices, one for each flit it sends. -/
def execFlitArrival (die net x y : Nat) (ports : List Nat) (s : State) : Out :=
  let cl := die * 256 + y * 16 + x
  match s.routerPart die x y with
  | none => notEnabled "FLIT_ARRIVAL"
  | some _ =>
    let cyc := s.cyc16 die
    let mine := (s.net.hops net).filter fun h => decide (epDie h.p.ent = die ∧ h.f.x = x ∧ h.f.y = y ∧ h.f.due = s.now)
    let r0 : Router := ⟨s.net, List.range 4, ports, [], [], 0, 0⟩
    if s.ranNow.contains (net * 1024 + cl) || s.windowOver then notEnabled "FLIT_ARRIVAL"
    else
      match s.routeAll die x y cyc (sortHops cyc mine) r0 with
      | none => notEnabled "FLIT_ARRIVAL"
      | some r =>
        match s.inject die x y cyc (s.candidate die x y net) r with
        | none => notEnabled "FLIT_ARRIVAL"
        | some r1 =>
          let c := s.cluster cl
          let t := (s.setNet { r1.n with
            ranAt := s.now, ran := (net * 1024 + cl) :: s.ranNow, window := s.windowStart }).setCluster cl
            { c with routed := c.routed + r1.sent, deflected := c.deflected + r1.deflected }
          .next (r1.whole.foldl State.arrived t).fixChannels

/-! ### Marks, damper, timeouts (R332, R333, R338, R339) -/

/-- STARVATION_MARK: an admitted flit has waited 64 cycles to enter (R333). -/
def execStarvationMark (pkt : Nat) (s : State) : Out :=
  match s.net.pkt pkt with
  | none => notEnabled "STARVATION_MARK"
  | some p =>
    let n := s.net
    enabledIf "STARVATION_MARK" (s.starves p)
      (s.setNet { n with starve := n.starve ++ [(p.part, p.net, p.id)] })

/-- The level of a damper after a window (R332). -/
def nextDamp (c : Cluster) : BitVec 4 :=
  let target := min 15 (if c.routed = 0 then 0 else 32 * c.deflected / c.routed)
  BitVec.ofNat 4 (max target (c.damp.toNat - 1))

/-- DAMPER_WINDOW: a window of 256 cycles ends at every cluster (R332). Time waits for it, but for a window in which there was nothing
to measure. -/
def execDamperWindow (s : State) : Out :=
  enabledIf "DAMPER_WINDOW" s.windowOver
    { s with
      clusters := s.clusters.map fun e => (e.1, { e.2 with damp := nextDamp e.2, routed := 0, deflected := 0 })
      net := { s.net with window := s.windowStart + 256 } }

/-- A packet out of the mesh: its flits and its entry gone. -/
def Net.unroute (n : Net) (id : Nat) : Net :=
  { n with
    flits := n.flits.filter fun f => decide (f.pkt ≠ id)
    asms := n.asms.filter fun a => decide (a.pkt ≠ id)
    asks := n.asks.filter fun a => decide (a.pkt ≠ id) }

/-- Whether a packet that its source sends is addressed to its destination's endpoint, in its own partition's tiles on the die (R340). -/
def State.nearDst (s : State) (p : Pkt) : Bool :=
  epOk p.dst && decide (epDie p.dst = epDie p.src) && decide (s.partOfTile (epTile p.dst) = some p.copy)

/-- Whether a packet that is sent again starts where it entered the mesh that it is in: there its source is asked, or it is its
source's own mesh. -/
def Pkt.restarts (p : Pkt) (asked : Bool) : Bool := decide (p.leg = .mesh) && (asked || decide (p.ent = p.src))

/-- Whether a packet's resend can begin: its flits find room in flight (R331) and, for the gate, a place in it (R340), or the copy
does not enter a mesh. -/
def State.resendRoom (s : State) (p : Pkt) (asked : Bool) : Bool :=
  let t := s.setNet ((s.net.unroute p.id).putPkt { p with leg := .done })
  if p.restarts asked then t.netRoom p.part p.net p.len
  else if decide (p.leg ≠ .mesh ∧ p.leg ≠ .done) || epFar p.src then true
  else t.netRoom p.copy p.net p.len && (s.nearDst p || decide (t.net.gatePlaces p.src p.net < 8))

/-- A packet sent again from its first flit, its stray flits replaced (R334, R338, R346): `asked` when a resend request has reached the
place where it entered the mesh that it is in. While its copy stands at a gate or on a link, another would be a duplicate, which
its receiver discards. -/
def State.resend (s : State) (p : Pkt) (asked : Bool) : State :=
  let again := { p with sent := s.runTime p.copy, resends := p.resends + 1 }
  if p.restarts asked then s.setNet ((s.net.unroute p.id).putPkt { again with entered := 0, admitted := s.now })
  else if p.leg = .mesh ∨ p.leg = .done then
    let hop := if epFar p.src || s.nearDst p then p.dst else gateOf p.src
    let start := if epFar p.src ∨ hop = p.src then Leg.trunk (epDie p.src) else .mesh
    (s.setNet ((s.net.unroute p.id).putPkt { again with
      entered := 0, admitted := s.now, leg := start, part := p.copy, ent := p.src, hop := hop })).goOn p.id
  else s.setNet ({ s.net with asks := s.net.asks.filter fun a => decide (a.pkt ≠ p.id) }.putPkt again)

/-- RESEND_REQUEST: a source that a resend request has reached sends the packet again (R334, R338). -/
def execResendRequest (pkt : Nat) (s : State) : Out :=
  match s.net.pkt pkt with
  | none => notEnabled "RESEND_REQUEST"
  | some p =>
    enabledIf "RESEND_REQUEST" ((s.net.asks.any fun a => decide (a.pkt = pkt ∧ (a.via = none ∨ a.came))) && !p.apart &&
        decide (p.leg ≠ .out) && s.resendRoom p true)
      (s.resend p true)

/-- PARTIAL_PACKET_TIMEOUT: a packet not complete F cycles of its partition after its first flit loses its entry (R337, R338). -/
def execPartialPacketTimeout (ep pkt : Nat) (s : State) : Out :=
  match s.net.pkt pkt, s.net.asmOf pkt with
  | some p, some a =>
    enabledIf "PARTIAL_PACKET_TIMEOUT" (decide (a.ep = ep ∧ a.first + s.boundF p.part ≤ s.runTime p.part))
      (s.setNet ({ s.net with asms := s.net.asms.filter (· ≠ a) }.ask pkt))
  | _, _ => notEnabled "PARTIAL_PACKET_TIMEOUT"

/-- ACK_TIMEOUT: no acknowledgement within Q + A + B cycles of its source's partition: sent again, or abandoned after the fourth resend
(R337 to R339). -/
def execAckTimeout (pkt : Nat) (s : State) : Out :=
  match s.net.pkt pkt with
  | none => notEnabled "ACK_TIMEOUT"
  | some p =>
    let limit := s.boundQ p.copy + s.boundA p.copy + s.boundB p.copy
    enabledIf "ACK_TIMEOUT"
      (p.retained && !p.apart && decide (p.leg ≠ .out ∧ p.sent + limit ≤ s.runTime p.copy) &&
        (decide (4 ≤ p.resends) || s.resendRoom p false))
      (if 4 ≤ p.resends then s.abandon p else s.resend p false)

/-- A flit that a router drops for an uncorrectable error (R338). A packet of which no copy is kept is lost with it. -/
def State.dropFlit (s : State) (pkt idx : Nat) : State :=
  let n := s.net
  match n.pkt pkt with
  | some p =>
    if p.retained then s.setNet { n with flits := n.flits.filter fun f => !decide (f.pkt = pkt ∧ f.idx = idx) }
    else s.setNet (n.dropPkt pkt)
  | none => s

/-! ### Links (R342, R343) -/

/-- Whether the receiver has had a sequence number. -/
def Link.had (l : Link) (q : BitVec 12) : Bool :=
  l.ahead.contains q || (decide ((l.rx - q).toNat < 2048) && decide (l.rx ≠ q))

/-- The receiver's count moved over what it has had. -/
def Link.settle (l : Link) : Nat → Link
  | 0 => l
  | n + 1 =>
    if l.ahead.contains l.rx then
      Link.settle { l with rx := l.rx + 1, ahead := l.ahead.filter (· ≠ l.rx) } n
    else l

/-- What comes off a link next after a flit that has come: those sent after it. Those sent before it that have not come are lost. -/
def Link.after (l : Link) (q : BitVec 12) : List (BitVec 12) := (l.flight.dropWhile (· ≠ q)).drop 1

/-- A flit the receiver had not had: recorded, and every flit it had before acknowledged out of the window. -/
def Link.receive (l : Link) (q : BitVec 12) : Link :=
  let l1 := { l with window := l.window.filter fun w => !(l.had w.1) }
  Link.settle { l1 with ahead := l1.ahead ++ [q], flight := l.after q } 64

/-- A packet that has crossed a link is at the next die's trunk, its place in the first gate long free (R340). -/
def State.crossed (s : State) (t id : Nat) : State :=
  match s.net.pkt id with
  | none => s
  | some p => (s.setNet (s.net.putPkt { p with leg := .trunk (tableTo t), ent := p.dst })).goOn id

/-- UCIE_FLIT_ARRIVAL: flits come in the order in which they were sent or replayed, but for those lost on the way; one is delivered once,
by its sequence number, and a replayed copy is dropped (R342). A link that trains delivers none. -/
def execUcieFlitArrival (link : Nat) (seq : BitVec 12) (s : State) : Out :=
  let l := s.net.link link
  match l.window.find? fun w => w.1 == seq with
  | none => notEnabled "UCIE_FLIT_ARRIVAL"
  | some w =>
    if l.down || l.held || decide (l.fails ≠ 0) || !l.flight.contains seq then notEnabled "UCIE_FLIT_ARRIVAL"
    else if l.had seq then .next (s.setNet (s.net.setLink link { l with flight := l.after seq }))
    else .next (w.2.foldl (fun t id => t.crossed link id) (s.setNet (s.net.setLink link (l.receive seq))))

/-- SEQUENCE_GAP: a receiver that has had a later flit asks for the missing one alone (R342). -/
def execSequenceGap (link : Nat) (seq : BitVec 12) (s : State) : Out :=
  let l := s.net.link link
  enabledIf "SEQUENCE_GAP" ((l.window.any fun w => w.1 == seq) && !l.had seq && !l.flight.contains seq &&
      (l.ahead.any fun a => decide ((a - seq).toNat < 2048 ∧ a ≠ seq)))
    (s.setNet (s.net.setLink link { l with flight := l.flight ++ [seq] }))

/-- The packets that wait for a link or stand in its window, oldest first. -/
def Net.behind (n : Net) (t : Nat) : List Nat :=
  ((n.link t).window.filter fun w => !((n.link t).had w.1)).flatMap (·.2) ++
    (n.gates.filter fun g => decide (g.1 = t)).map fun g => g.2.2

/-- One direction of a link down: what waited behind it is at the trunk again (R343). -/
def State.dirDown (s : State) (t : Nat) : State :=
  let ids := s.net.behind t
  let l := s.net.link t
  let n := { s.net.setLink t { l with down := true, window := [], flight := [] } with
    gates := s.net.gates.filter fun g => decide (g.1 ≠ t) }
  s.setNet (ids.foldl (fun m id => match m.pkt id with
    | some p => m.putPkt { p with leg := .trunk (tableFrom t) }
    | none => m) n)

/-- The sluice die's report to management of a down link that has no other route (R343): a notice to the management service core, of
which the spec gives no form; its payload is free (log 74). -/
def State.linkReport (s : State) : State :=
  let q := s.free
  let r := q.2.nextOwn 4398046511104
  r.2.note 8448 (svcOf 0) 58 (mkHdr 0 (s.partOf (svcOf 0)) 58 0 1 0 r.1) [q.1]

/-- A link goes down in both directions (R343): its packets take the other route; without one, they are abandoned, and the sluice die
reports the link. -/
def State.linkDown (s : State) (l : Nat) : State :=
  let ids := s.net.behind (2 * l) ++ s.net.behind (2 * l + 1)
  let t := ids.foldl State.goOn ((s.dirDown (2 * l)).dirDown (2 * l + 1))
  if 12 ≤ l ∧ l < 16 then t else t.linkReport

/-- Both directions of a link with their failed trainings in a row counted, or cleared with every unacknowledged flit replayed in the
order of their sequence; what was on the link is lost. -/
def Net.trained (n : Net) (l : Nat) (ok : Bool) : Net :=
  let f := fun (x : Link) => if ok then { x with fails := 0, flight := x.window.map (·.1) } else { x with fails := x.fails + 1, flight := [] }
  (n.setLink (2 * l) (f (n.link (2 * l)))).setLink (2 * l + 1) (f (n.link (2 * l + 1)))

/-- RETRAIN: the link stops and trains, named by one of its tables; every unacknowledged flit is replayed, and after a failure the link
stays stopped until it has trained. The third failure in a row takes it down until die reset (R342, R343). -/
def execRetrain (link : Nat) (ok : Bool) (s : State) : Out :=
  let l := s.net.link link
  if 36 ≤ link ∨ !s.net.linkUp (link / 2) then notEnabled "RETRAIN"
  else
    let t := s.setNet (s.net.trained (link / 2) ok)
    .next (if !ok && decide (2 ≤ l.fails) then t.linkDown (link / 2) else t)

/-! ### Time slots (R344, R345) -/

/-- The byte of a slot. -/
def Net.slot (n : Net) (table slot : Nat) : Byte := getAt 0 n.slots (table * 128 + slot)

/-- The oldest packet of a partition that waits at a table. -/
def Net.waiting (n : Net) (table part : Nat) : Option Nat :=
  (n.gates.find? fun g => decide (g.1 = table ∧ g.2.1 = part)).map fun g => g.2.2

/-- The packet served in a slot: the owner's, or, when the owner lends, that of the first partition after the slot in table
order with one waiting. -/
def State.served (s : State) (table slot : Nat) : Option Nat :=
  let b := s.net.slot table slot
  let owner := (b.extractLsb' 0 7).toNat
  if !b.getLsbD 7 then none
  else
    match s.net.waiting table owner with
    | some id => some id
    | none =>
      if !(s.part owner).pmap.getLsbD 61 then none
      else
        (List.range 128).findSome? fun i =>
          let e := s.net.slot table ((slot + 1 + i) % 128)
          if e.getLsbD 7 then s.net.waiting table (e.extractLsb' 0 7).toNat else none

/-- A packet sent on a link in a UCIe flit of its own (R342), or received by a dike die at its arbiter. -/
def State.serve (s : State) (table id : Nat) : State :=
  match s.net.pkt id with
  | none => s
  | some p =>
    let n := { s.net with gates := s.net.gates.filter fun g => decide (g ≠ (table, g.2.1, id)) }
    if 36 ≤ table then (s.setNet n).receive p
    else
      let l := n.link table
      s.setNet ((n.setLink table { l with
        tx := l.tx + 1, window := l.window ++ [(l.tx, [id])], flight := l.flight ++ [l.tx] }).putPkt { p with leg := .link })

/-- Whether an end of a link's direction is a die in reset: nothing is sent on it (R422). -/
def State.linkQuiet (s : State) (table : Nat) : Bool :=
  [tableFrom table, tableTo table].any fun d => decide (d < 4) && !s.dieRuns d

/-- TIME_SLOT: a port or arbiter serves one packet of the slot's owner, or of a borrower; otherwise the slot stays idle
(R344, R345). -/
def execTimeSlot (table slot : Nat) (s : State) : Out :=
  let l := s.net.link table
  if 48 ≤ table ∨ s.now % 1024 / 8 ≠ slot then notEnabled "TIME_SLOT"
  else
    match s.served table slot with
    | none => .next s
    | some id =>
      if table < 36 ∧ (l.down ∨ l.held ∨ l.fails ≠ 0 ∨ 64 ≤ l.window.length ∨ s.linkQuiet table) then .next s else .next (s.serve table id)

end Sys2Proof.Machine
end

