-- ==== Sys2Proof/Machine/Reset.lean ====
section
/-! DEFINITION. Host links, function-level and partition resets, die resets, and uncorrectable errors (R385, R393, R414 to
R416, R420 to R422). -/

namespace Sys2Proof.Machine

/-! ### Host links and functions (R385, R393) -/

/-- HOST_LINK_DOWN: a host's link goes down, or takes a hot reset and comes back; MSEM held by that port is released
(R385; log 41). -/
def execHostLinkDown (port : Nat) (hot : Bool) (s : State) : Out :=
  if h : port < 2 then
    enabledIf "HOST_LINK_DOWN" (s.sluice.up.toList.getD port false)
      { s with sluice := { s.sluice with
          up := s.sluice.up.set port hot h
          busy := s.sluice.busy && decide (s.sluice.holder.toNat ≠ port) } }
  else notEnabled "HOST_LINK_DOWN"

/-- Whether a key belongs to the function of a partition on a port. -/
def keyOfFunc (port part width k : Nat) : Bool := decide (k / width = port * 128 + part)

/-- The MSI-X table of a function cleared (log 25). -/
def State.clearTable (s : State) (port part : Nat) : State :=
  { s with sluice := { s.sluice with msix := s.sluice.msix.filter fun e => !keyOfFunc port part 2048 e.1 } }

/-- A reset of a function alone: window FIFOs, DROPS, MSI-X table and pending bits (R393). -/
def State.resetFunc (s : State) (port part : Nat) : State :=
  let t := s.clearTable port part
  { t with sluice := { t.sluice with
      wins := t.sluice.wins.filter fun e => !keyOfFunc port part 4 e.1
      pba := t.sluice.pba.filter fun k => !keyOfFunc port part 2048 k } }

/-- FLR of a partition's function (R393): on the holder's port the partition reset begins; the PF's takes every function of
its port with it. -/
def execFlr (port part : Nat) (s : State) : Out :=
  enabledIf "FLR" (decide (port < 2) && s.sluice.up.toList.getD port false && s.funcThere part &&
      decide (s.stage = .b1 ∨ s.stage = .b3))
    (let holds := decide (s.leasePort part = some port)
     if part = 0 then
       (let t := (List.range 128).foldl (fun u q => u.resetFunc port q) s
        if holds then t.beginReset 0 else t)
     else if holds then (s.clearTable port part).beginReset part
     else s.resetFunc port part)

/-- PARTITION_RESET_SCRUB: the drain has ended; steps 5 and 6 of the partition reset (R420), after the answers of hosts that the
write-backs need (R253). While the partition's die resets, the reset completes when the die's does (R430). -/
def execPartitionResetScrub (part : Nat) (s : State) : Out :=
  s.atHome "PARTITION_RESET_SCRUB"
    (decide ((s.part part).reset = .draining) && (findAt s.sluice.dieReset (part / 32)).isNone)
    (s.tileStops (s.partTiles part) ++ s.tagStops part) (s.finishReset part)

/-! ### Die reset (R421, R422) -/

/-- The links of a polder die (R384). -/
def dieLinks (d : Nat) : List Nat :=
  (List.range 18).filter fun l => decide (tableDie (2 * l) = some d ∨ tableDie (2 * l + 1) = some d)

/-- Lines that a cache of the die holds dirty are poisoned, and lose their contents; the cache holds nothing, and its cluster leaves
every record (R422 step 4). -/
def State.dieLoseCache (s : State) (k : Nat) : State :=
  (s.cacheLines k).foldl (fun t e =>
    let t1 := if e.2 = .m ∨ e.2 = .o then
        { t.poisonLine e.1 with mem := copyBytes t.home t.mem (e.1 * 128) 128 } else t
    let t2 := t1.setL1 k e.1 none
    t2.setDir e.1 ((t2.dirRec e.1).leave (dirName k))) s

/-- The caches of a die emptied, its clusters out of every tile entry. -/
def State.dieLoseCaches (s : State) (d : Nat) : State :=
  let clusters := (List.range 256).map fun i => d * 256 + i
  let t := (clusters ++ (List.range 32).map fun i => svcCache (d * 32 + i)).foldl State.dieLoseCache s
  clusters.foldl State.leaveTiles t

/-- The die on which a packet stands: none while a link carries it, or while only its source's copy is left. -/
def Net.dieAt (n : Net) (p : Pkt) : Option Nat :=
  match p.leg with
  | .mesh | .gate | .out => some (epDie p.ent)
  | .trunk d => some d
  | .port => (n.gates.find? fun g => decide (g.2.2 = p.id)).map fun g => if g.1 < 36 then tableFrom g.1 else g.1 - 32
  | .link | .done => none

/-- The messages and acknowledgements whose packets are gone: a message whose source is reset is lost, an acknowledgement is
sent again. -/
def State.dropStranded (s : State) : State :=
  let gone := fun (id : Option Nat) => match id with | some k => (s.net.pkt k).isNone | none => false
  { s with
    wire := s.wire.filter fun w => !(gone w.trip.pkt && !w.trip.came)
    acks := (s.acks.filter fun a => !gone a.pkt).map fun a => if gone a.via then { a with via := none } else a }

/-- What the reset of a die does to packets (R422): those for the die are discarded, and what they serve is abandoned; those of the
die that it still holds are gone; of another source's on the die, or on one of its links, the source's copy is left. -/
def State.dieLosePackets (s : State) (d : Nat) : State :=
  let near := (dieLinks d).flatMap fun l => s.net.behind (2 * l) ++ s.net.behind (2 * l + 1)
  let here := fun (p : Pkt) => decide (s.net.dieAt p = some d) || (decide (p.leg = .link) && near.contains p.id)
  let toward := s.net.pkts.filter fun p => decide (epDie p.dst = d ∧ epDie p.src ≠ d)
  let s1 := toward.foldl State.abandon s
  let mine := fun (p : Pkt) => decide (epDie p.src = d) && (here p || decide (p.leg = .done))
  let n := s1.net.dropPkts fun p => mine p || (here p && !p.retained)
  (s1.setNet { n with
    pkts := n.pkts.map fun p => if here p then { p with leg := .done } else p
    flits := n.flits.filter fun f => !(s.net.pkts.any fun p => decide (p.id = f.pkt) && here p)
    asms := n.asms.filter fun a => !(s.net.pkts.any fun p => decide (p.id = a.pkt) && here p)
    gates := n.gates.filter fun g => !(s.net.pkts.any fun p => decide (p.id = g.2.2) && here p) }).dropStranded

/-- A die reset begins (R421, R422): its partitions end as a partition reset ends them, its agents are at core reset. A partition reset
under way goes on until the die's ends (R430). -/
def State.beginDieReset (s : State) (d : Nat) : State :=
  let s1 := s.dieLoseCaches d
  let parts := (List.range 32).map fun i => d * 32 + i
  let s2 := parts.foldl (fun t p =>
    let u := (t.beginReset p).finishReset p
    if (t.part p).reset = .draining then u.setPart p { u.part p with reset := .draining } else u) s1
  let s3 := s2.dieLosePackets d
  { s3 with
    core := if dieOf s3.focus = d then Core.zero else s3.core
    others := s3.others.filter fun e => decide (dieOf e.1 ≠ d)
    wire := s3.wire.filter fun w => w.held || w.toPeer || decide (dieOf w.dst ≠ d)
    dieBase := Vector.ofFn fun i : Fin 4 => if i.val = d then s3.now else s3.dieBase[i]
    sluice := { s3.sluice with dieReset := setAt s3.sluice.dieReset d [] } }

/-- The reset of a die completes once every partner whose link is up has sent its DRAINACK: gates are clear, the links of those partners
train and the others are held down, completion counters start anew, hosts hear of it (R421, R422), the partition resets that wait for
it end (R430), and the die comes up with the priming of its zones. -/
def State.endDieReset (s : State) (d : Nat) : State :=
  match findAt s.sluice.dieReset d with
  | none => s
  | some acks =>
    if !((dieLinks d).all fun l => acks.contains l || !s.net.linkUp l) then s
    else
      let n := (dieLinks d).foldl (fun m l =>
        let x := { Link.zero with held := !acks.contains l }
        (m.setLink (2 * l) x).setLink (2 * l + 1) x) s.net
      let h := s.sluice
      let waits := ((List.range 32).map fun i => d * 32 + i).filter fun p => decide ((s.part p).reset = .draining)
      waits.foldl State.finishReset (({ s with
        net := n
        dieBase := Vector.ofFn fun i : Fin 4 => if i.val = d then s.now else s.dieBase[i]
        sluice := { h with
          dieReset := dropAt h.dieReset d
          seqs := h.seqs.filter fun e => !(decide (e.1 < 1099511627776) && decide (e.1 / 524288 = d)) } }.primeDie d).alertHosts 1)

/-- DIE_RESET: after a double fault of the management service core (R401, R421). -/
def execDieReset (die : Nat) (s : State) : Out :=
  enabledIf "DIE_RESET" (decide (die = 0) && (s.coreAt (svcOf 0)).stopped && (findAt s.sluice.dieReset die).isNone)
    ((s.beginDieReset die).endDieReset die)

/-- DRAINACK of a link's partner: counted toward the reset, or, after its timeout, the link trains again (R422). -/
def execDrainack (die link : Nat) (s : State) : Out :=
  if !(dieLinks die).contains link then notEnabled "DRAINACK"
  else
    match findAt s.sluice.dieReset die with
    | some acks =>
      enabledIf "DRAINACK" (s.net.linkUp link && !acks.contains link)
        ({ s with sluice := { s.sluice with dieReset := setAt s.sluice.dieReset die (acks ++ [link]) } }.endDieReset die)
    | none =>
      enabledIf "DRAINACK" ((s.net.link (2 * link)).held)
        (s.setNet ((s.net.setLink (2 * link) Link.zero).setLink (2 * link + 1) Link.zero))

/-- DRAIN_TIMEOUT: a partner that has sent no DRAINACK within 10 ms keeps its link held down (R422). -/
def execDrainTimeout (die link : Nat) (s : State) : Out :=
  match findAt s.sluice.dieReset die with
  | none => notEnabled "DRAIN_TIMEOUT"
  | some acks =>
    enabledIf "DRAIN_TIMEOUT" ((dieLinks die).contains link && s.net.linkUp link && !acks.contains link &&
        decide (s.dieBase.toList.getD die 0 + 12500000 ≤ s.now))
      ((s.setNet ((s.net.setLink (2 * link) { s.net.link (2 * link) with held := true }).setLink (2 * link + 1)
        { s.net.link (2 * link + 1) with held := true })).endDieReset die)

/-! ### Uncorrectable errors (R414 to R416) -/

/-- A park slot lost with its region (R416). -/
def State.parkError (s : State) (sid : Nat) (n : BitVec 2) : State :=
  let c := s.coreAt sid
  (s.setCore sid (c.setPark n { c.park n with st := .free })).eccNotice sid 0x01 0

/-- Bytes of a persistent region in a shadow bank poisoned (R413). -/
def State.shadowPoison (s : State) (part key n : Nat) (x : Ctx) : State :=
  s.setPart part { s.part part with shadow := some { x with bad := x.bad ++ (List.range n).map (key + ·) } }

/-- A core in a shadow bank updated. -/
def State.updShadow (s : State) (part sid : Nat) (x : Ctx) (f : Core → Core) : State :=
  s.setPart part { s.part part with shadow := some { x with
    cores := x.cores.map fun e => if e.1 = sid then (e.1, f e.2) else e } }

/-- The region of a damaged checkpoint that a shadow bank holds is lost (R413, R416). -/
def State.shadowError (s : State) (part sid : Nat) (slot : Option (BitVec 2)) (x : Ctx) : State :=
  (s.updShadow part sid x fun c => c.endRegion slot).eccNotice sid 0x06 0

/-- Bytes of an accumulator image poisoned. -/
def Core.spoilAccum (addr n : Nat) (c : Core) : Core :=
  { c with mx := { c.mx with bad := c.mx.bad ++ (List.range n).map (addr + ·) } }

/-- A queued message poisoned. -/
def Core.spoilMsg (ch : BitVec 6) (n : Nat) (c : Core) : Core :=
  c.setChan ch { c.chan ch with queue := (c.chan ch).queue.modify n fun m => { m with bad := true } }

/-- Whether the instruction at the program counter of the core in focus is MXRD. -/
def State.readsAccum (s : State) : Bool :=
  match s.fetch with
  | (_, .ok ws) => (match decode ws with | .ok (.mxrd _ _ _, _) => true | _ => false)
  | (_, .error _) => false

/-- The host answers that giving up the clean copies of an L2 entry needs first (R253). -/
def State.l2Stops (s : State) (e : Nat) : List (Nat × Bool) :=
  let mine := s.l2.tags.filter fun t => decide (t.ent = some e)
  if mine.all fun t => !t.dirty then mine.map fun t => (t.line, true) else []

/-- UNCORRECTABLE_ERROR: each structure's handling (R414): a consuming region reruns or faults (R415), an MXRD that reads a damaged
accumulator raises ECC (R138; at once, log 64), a checkpoint or park slot ends its activation (R416), an engine command ends with
status 0x10, at every member of its gang (R138 names the command; log 64), data is poisoned or refetched (R248), a published store
is reported (R202), a flit is dropped (R338), die-wide state resets the die (R421). -/
def execUncorrectableError (site : ErrSite) (s : State) : Out :=
  match site with
  | .core sid detail line =>
    if detail = 5 then
      enabledIf "UNCORRECTABLE_ERROR" ((s.coreAt sid).act.isSome && (s.focusOn sid).readsAccum)
        (s.onCore sid fun t => t.takeFault t.siteNow ⟨0x10, 0x05, none, 0, 0, 0⟩)
    else
      enabledIf "UNCORRECTABLE_ERROR" ((s.coreAt sid).act.isSome && (decide (1 ≤ detail.toNat ∧ detail.toNat ≤ 4) ||
          (decide (detail = 6) && (s.part (s.partOf sid)).shadow.isSome)))
        (s.onCore sid fun t => t.consumeError detail line)
  | .checkpoint sid =>
    enabledIf "UNCORRECTABLE_ERROR" ((s.coreAt sid).act.isSome || (s.coreAt sid).inter.isSome)
      (s.onCore sid fun t => t.endDamaged)
  | .park sid n =>
    enabledIf "UNCORRECTABLE_ERROR" (decide (((s.coreAt sid).park n).st ≠ .free)) (s.parkError sid n)
  | .shadow part sid slot =>
    (match (s.part part).shadow with
     | some x => enabledIf "UNCORRECTABLE_ERROR" (((findAt x.cores sid).map fun c => c.hasRegion slot).getD false)
         (s.shadowError part sid slot x)
     | none => notEnabled "UNCORRECTABLE_ERROR")
  | .shadowAccum part sid addr n =>
    (match (s.part part).shadow with
     | some x => enabledIf "UNCORRECTABLE_ERROR" ((findAt x.cores sid).isSome && decide (addr + n ≤ 65536))
         (s.updShadow part sid x (Core.spoilAccum addr n))
     | none => notEnabled "UNCORRECTABLE_ERROR")
  | .shadowQueue part sid ch n =>
    (match (s.part part).shadow with
     | some x => enabledIf "UNCORRECTABLE_ERROR"
         (((findAt x.cores sid).map fun c => decide (n < (c.chan ch).queue.length)).getD false)
         (s.updShadow part sid x (Core.spoilMsg ch n))
     | none => notEnabled "UNCORRECTABLE_ERROR")
  | .shadowBytes part key n =>
    (match (s.part part).shadow with
     | some x => enabledIf "UNCORRECTABLE_ERROR" (x.clusters.any fun c =>
         decide (key / 16777216 = c.1 ∧ key % 16777216 + n ≤ c.2.persEnd)) (s.shadowPoison part key n x)
     | none => notEnabled "UNCORRECTABLE_ERROR")
  | .accum sid =>
    enabledIf "UNCORRECTABLE_ERROR" ((s.coreAt sid).mx.run.isSome) (s.mxEndGang sid 0x10)
  | .stream sid =>
    (match (s.coreAt sid).se.cur with
     | some g => .next (s.sgoEnd sid g 0x10)
     | none => notEnabled "UNCORRECTABLE_ERROR")
  | .gred sid =>
    (match s.vuHead sid with
     | some (.gred _ _) => .next (s.gredError sid)
     | _ => notEnabled "UNCORRECTABLE_ERROR")
  | .bulk dk part ticket =>
    (match s.bulkAt dk part ticket with
     | some b => enabledIf "UNCORRECTABLE_ERROR" (b.taken && b.status.isNone && s.bulkLive b) (s.bulkEnd b 0x10)
     | none => notEnabled "UNCORRECTABLE_ERROR")
  | .memory line => .next (s.poisonLine line)
  | .l2 slice entry =>
    s.atHome "UNCORRECTABLE_ERROR" (s.l2.ents.any fun e => decide (e.slice = slice ∧ e.id = entry)) (s.l2Stops entry)
      (s.l2Error entry)
  | .published sid line => .next ((s.poisonLine line).storeError sid 0x10 line)
  | .flit pkt idx =>
    enabledIf "UNCORRECTABLE_ERROR" (s.net.flits.any fun f => decide (f.pkt = pkt ∧ f.idx = idx))
      (s.dropFlit pkt idx)
  | .die die =>
    enabledIf "UNCORRECTABLE_ERROR" (decide (die < 4) && s.dieRuns die) ((s.beginDieReset die).endDieReset die)

end Sys2Proof.Machine
end

