-- ==== Sys2Proof/Machine/Bringup.lean ====
section
/-! DEFINITION. Power, images, bring-up and attestation (R423 to R429). -/

namespace Sys2Proof.Machine

/-! ### Power (R423) -/

/-- What a loss of power leaves of a memory: host, expander and fabric addresses, which lie outside the package (log 42). -/
def outside (m : Memory) : Memory := m.filter fun c => decide (0x1000000000000 ≤ c.1)

/-- The package without power: everything is in reset; the flash, the agenda, and what tells fresh draws from earlier ones (R244)
stay. -/
def State.powerOff (s : State) : State :=
  { State.reset with
    l2 := { State.reset.l2 with draws := s.l2.draws }
    agenda := s.agenda
    freeCtr := s.freeCtr
    mem := outside s.mem
    home := outside s.mem
    sluice := { Sluice.zero with flash := s.sluice.flash } }

/-- POWER_DOWN (R423). -/
def execPowerDown (s : State) : Out := .next s.powerOff

/-- Bytes written one after the other. -/
def flashOf (l : List (Nat × BitVec 8)) : Memory := l.foldl (fun m e => m.write e.1 e.2) []

/-- PWR_OK: the rails have ramped in order; the flash holds what the system put there (R423, R424). -/
def execPwrOk (flash : List (Nat × BitVec 8)) (s : State) : Out :=
  enabledIf "PWR_OK" (decide (s.stage = .off) && s.sluice.pwrOk.isNone)
    { s with sluice := { s.sluice with pwrOk := some s.now, flash := flashOf flash } }

/-! ### Images (R424, R425) -/

/-- `n` bytes of a memory. -/
def Memory.bytes (m : Memory) (a n : Nat) : List Byte := (List.range n).map fun i => m.read (a + i)

/-- First byte of a slot. -/
def slotBase (b : Bool) : Nat := if b then 0x2000000 else 0

/-- LEN of the image in a slot. -/
def imageLen (flash : Memory) (base : Nat) : Nat := flash.readLE (base + 8) 8

/-- The body of an image. -/
def imageBody (flash : Memory) (base : Nat) : List Byte := flash.bytes (base + 0x1500) (imageLen flash base)

/-- A little-endian number of bytes. -/
def leNat (l : List Byte) : Nat := l.foldr (fun b a => b.toNat + 256 * a) 0

/-- IMAGE_VERIFY: whether a slot is accepted (R425). -/
def imageOk (flash : Memory) (base : Nat) : Bool :=
  decide (flash.readLE base 4 = 0x31474353) && decide (0x1500 + imageLen flash base ≤ 0x2000000) &&
  (let pk := flash.bytes (base + 0x10) 1952
   decide (BitVec.ofNat 256 (leNat (shake256 pk 32)) = Config.rootDigest) &&
   Config.mldsaVerify pk (shake256 (flash.bytes base 16 ++ imageBody flash base) 64) (flash.bytes (base + 0x7B0) 3309))

/-- SYS_RESET_N released, at least 1 ms after PWR_OK: stage B0 begins. Slot A is tried, then slot B; the accepted image gives HOLD, and
whether the identity can be derived is free (R423, R425, R426, R428, R429). -/
def execSysResetN (s : State) : Out :=
  match s.sluice.pwrOk with
  | none => notEnabled "SYS_RESET_N"
  | some t =>
    if s.stage ≠ .off ∨ s.now < t + 1250000 then notEnabled "SYS_RESET_N"
    else
      let f := s.sluice.flash
      let a := imageOk f 0
      let b := imageOk f 0x2000000
      let puf := Config.freeBit s.freeCtr
      .next { s with
        freeCtr := s.freeCtr + 1
        stage := .b0
        sluice := { s.sluice with
          fail := if !a && !b then 2 else if !puf then 3 else if !a then 1 else 0
          slot := !a && b
          hold := (a || b) && Config.imageHold (imageBody f (slotBase (!a && b)))
          identity := puf && (a || b) } }

/-! ### Stages (R426, R427) -/

/-- PMAP[0] of stage B1: the whole of die 0, scheduled by the management service core (R427). -/
def b1Pmap : Word := 0x8010000000000000#64 + 0x3E0#64

/-- STAGE_B1: reduced service, with HOLD as the image gives it; die 0 runs as partition 0; the hosts' links come up (R426 to R428). -/
def execStageB1 (hold up0 up1 : Bool) (s : State) : Out :=
  enabledIf "STAGE_B1" (decide (s.stage = .b0 ∧ s.sluice.fail ≠ 2 ∧ hold = s.sluice.hold))
    (let s1 := s.setPart 0 { Part.zero with pmap := b1Pmap }
     { s1 with
       stage := .b1
       tilePart := (List.range 32).map fun t => (t, 0)
       dieBase := s1.dieBase.set 0 s1.now
       sluice := { s1.sluice with up := #v[up0, up1] } })

/-- BSTAT (R428). -/
def State.bstat (s : State) : BitVec 32 :=
  let stage := match s.stage with | .off | .b0 => 0 | .b1 => 1 | .b2 => 2 | .b3 => 3
  BitVec.ofNat 32 (256 * s.sluice.hold.toNat + 16 * s.sluice.fail.toNat + 8 * s.sluice.slot.toNat + stage)

/-- BSTAT_HOLD: a host writes 0 to HOLD, which lets B2 begin (R428); a write of any value is a REGISTER_WRITE. -/
def execBstatHold (s : State) : Out := enabledIf "BSTAT_HOLD" s.pfAnswers (s.writeBstat 0)

/-- The entry of a partition in the image's PMAP loaded: one that R379 and R381 do not allow is left out, and partition 0 keeps what B1
gave it (log 43). -/
def State.loadPmap (s : State) (p : Nat) (v : Word) : State :=
  let m := v &&& pmapMask
  if (m.getLsbD 63 || decide (p = 0)) && (pmapBad p m || s.pmapOverlap p m) then s else s.setPart p { s.part p with pmap := m }

/-- One doubleword of the configuration image's tables, by its offset in the management space (R424, R426). -/
def State.loadEntry (s : State) (e : Nat × Word) : State :=
  let off := e.1
  let p := off / 8 % 128
  if 0x1000 ≤ off ∧ off < 0x1400 then s.loadPmap p e.2
  else if 0x3000 ≤ off ∧ off < 0x3100 then s.setZone (off / 8 % 32) { s.zone (off / 8 % 32) with cat := e.2 &&& catMask }
  else if 0x4000 ≤ off ∧ off < 0x4400 then s.setPart p { s.part p with quota := e.2 }
  else if 0x10000 ≤ off ∧ off < 0x11800 then s.setNet (s.net.putSlots (off - 0x10000) e.2)
  else s

/-- The tiles' partitions as the PMAP entries give them (R379, R380). -/
def State.mapTiles (s : State) : State :=
  { s with tilePart := s.parts.foldl (fun l e => (pmapTiles e.1 e.2.pmap).foldl (fun m t => setAt m t e.1) l) [] }

/-- Every PMAP, CAT and QUOTA entry and every slot at its reset value, for the image's tables to replace; partition 0 is B1's. -/
def State.blankTables (s : State) : State :=
  let s1 : State := { s with parts := s.parts.map fun (e : Nat × Part) =>
    (e.1, { e.2 with pmap := if e.1 = 0 then e.2.pmap else 0, quota := 0 }) }
  let s2 := (List.range 32).foldl (fun t z => t.setZone z { t.zone z with cat := Zone.zero.cat }) s1
  s2.setNet { s2.net with slots := [] }

/-- The tables of an image loaded, partition 0's entry first: what the image does not list is at its reset value (R424, R426;
log 43). -/
def State.loadTables (s : State) (tables : List (Nat × Word)) : State :=
  let first := tables.filter fun e => decide (e.1 = 0x1000)
  let rest := tables.filter fun e => decide (e.1 ≠ 0x1000)
  ((first ++ rest).foldl State.loadEntry s.blankTables).mapTiles

/-- The tables of the accepted image (R424; log 23). -/
def State.imageTables (s : State) : List (Nat × Word) := Config.imageTables (imageBody s.sluice.flash (slotBase s.sluice.slot))

/-- A key drawn for the domain of every valid partition (R244). -/
def State.drawKeys (s : State) : State := s.parts.foldl (fun t e => t.drawFor (pmapDom e.2.pmap)) s

/-- STAGE_B2: the image's tables, which the event names, are loaded, L2, directory and tile entries are initialised, tiles that leave partition 0 are
scrubbed, its flits there gone (R327; log 43), and coolant priming begins. A stack that fails training holds the device in B1 (R426). -/
def execStageB2 (tables : List (Nat × Word)) (trained : Bool) (s : State) : Out :=
  enabledIf "STAGE_B2" (decide (s.stage = .b1 ∧ s.sluice.fail ≠ 4 ∧ tables = s.imageTables) && !s.sluice.hold)
    (if !trained then { s with sluice := { s.sluice with fail := 4 } }
     else
       let s1 := s.loadTables tables
       let gone := (List.range 32).filter fun t => decide (s1.partOfTile t ≠ some 0)
       let s2 := ((gone.foldl State.scrubWhole s1).primeZones (List.range 32)).drawKeys
       { s2 with
         net := s2.net.withoutTiles 0 gone
         stage := .b2
         dir := []
         tiles := []
         l2 := { s2.l2 with tags := [], ents := [], cands := [] }
         sluice := { s2.sluice with priming := some s2.now, judged := [] } })

/-- A die whose zones have all been judged after its reset runs (R422). -/
def State.endPriming (s : State) (d : Nat) : State :=
  if decide (s.stage = .b3) && (List.range 8).all fun i => s.sluice.judged.contains (8 * d + i) then
    { s with
      dieBase := Vector.ofFn fun i : Fin 4 => if i.val = d then s.now else s.dieBase[i]
      sluice := { s.sluice with primes := dropAt s.sluice.primes d } }
  else s

/-- COOLANT_PRIMING: after 2 s fully open and 50 ms of judged samples a zone passes, or is fenced (R426); the last zone of a die that has
been reset lets the die run (R422). -/
def execCoolantPriming (z : Nat) (s : State) : Out :=
  match s.primedSince z with
  | none => notEnabled "COOLANT_PRIMING"
  | some t =>
    enabledIf "COOLANT_PRIMING" (decide (z < 32 ∧ t + 2050 * msCycles ≤ s.now) && !s.sluice.judged.contains z)
      (let s1 := { s with sluice := { s.sluice with judged := s.sluice.judged ++ [z] } }
       (if (s.zone z).good then s1
        else ({ s1 with sluice := { s1.sluice with fail := 5 } }).fence z 0).endPriming (z / 8))

/-- STAGE_B3: full service. The ports' protocols, the expanders and the fabric packages are found (R426, R252, R363). -/
def execStageB3 (ports : BitVec 4) (expanders : List (Nat × Nat)) (peers : BitVec 32) (s : State) : Out :=
  enabledIf "STAGE_B3" (decide (s.stage = .b2) && (List.range 32).all s.sluice.judged.contains)
    { s with
      stage := .b3
      ports := #v[ports.extractLsb' 0 2, ports.extractLsb' 2 2]
      expanders := expanders
      peers := peers
      dieBase := Vector.ofFn fun i : Fin 4 => if i.val = 0 then s.dieBase[0] else s.now
      sluice := { s.sluice with priming := none } }

/-! ### Attestation (R429) -/

/-- The ASCII bytes "LW8 identity". -/
def identityLabel : List Byte := [0x4C, 0x57, 0x38, 0x20, 0x69, 0x64, 0x65, 0x6E, 0x74, 0x69, 0x74, 0x79]

/-- The identity seed. -/
def identitySeed : List Byte := shake256 (Config.pufKey ++ identityLabel) 32

/-- What the measurements cover: SVN and SLOT, then PMAP, CAT, QUOTA and the slot tables as they stand. The mask ROM and the
image body are fixed while the device runs; the body stands by its SHAKE256 digest. -/
def State.measured (s : State) : List Word :=
  let base := slotBase s.sluice.slot
  let body := shake256 (imageBody s.sluice.flash base) 64
  [BitVec.ofNat 64 (s.sluice.flash.readLE (base + 4) 4), BitVec.ofNat 64 s.sluice.slot.toNat] ++
    (List.range 8).map (fun i => BitVec.ofNat 64 (leNat (body.drop (8 * i) |>.take 8))) ++
    (List.range 128).map (fun p => (s.part p).pmap) ++ (List.range 32).map s.catWord ++
    (List.range 128).map (fun p => (s.part p).quota) ++ (List.range 768).map fun i => s.net.slotDw (8 * i)

/-- The DOE mailbox answers an SPDM request on a port, when there is an identity (R429). -/
def State.spdmAnswer (s : State) (name : String) (port code : Nat) (req : List Byte) (measured : List Word) : Out :=
  enabledIf name (decide (port < 2) && s.sluice.up.toList.getD port false && decide (s.stage ≠ .off ∧ s.stage ≠ .b0))
    (if !s.sluice.identity then s
     else
       let byte := Config.spdmByte code req identitySeed measured
       { s with sluice := { s.sluice with
         spdm := s.sluice.spdm ++ [(port, code, (List.range (byte 0).toNat).map fun i => byte (i + 1))] } })

/-- GET_VERSION (R429). -/
def execGetVersion (port : Nat) (req : List Byte) (s : State) : Out := s.spdmAnswer "GET_VERSION" port 0x84 req []
/-- GET_CAPABILITIES (R429). -/
def execGetCapabilities (port : Nat) (req : List Byte) (s : State) : Out := s.spdmAnswer "GET_CAPABILITIES" port 0xE1 req []
/-- NEGOTIATE_ALGORITHMS: ML-DSA-65 and SHA3-384 (R429). -/
def execNegotiateAlgorithms (port : Nat) (req : List Byte) (s : State) : Out :=
  s.spdmAnswer "NEGOTIATE_ALGORITHMS" port 0xE3 req []
/-- The bytes of the image's identity certificate, which is the certificate chain. -/
def State.certified (s : State) : List Word :=
  (Config.imageCert (imageBody s.sluice.flash (slotBase s.sluice.slot))).map fun b => b.setWidth 64

/-- GET_DIGESTS (R429). -/
def execGetDigests (port : Nat) (req : List Byte) (s : State) : Out := s.spdmAnswer "GET_DIGESTS" port 0x81 req s.certified
/-- GET_CERTIFICATE (R429). -/
def execGetCertificate (port : Nat) (req : List Byte) (s : State) : Out := s.spdmAnswer "GET_CERTIFICATE" port 0x82 req s.certified
/-- CHALLENGE (R429). -/
def execChallenge (port : Nat) (req : List Byte) (s : State) : Out :=
  s.spdmAnswer "CHALLENGE" port 0x83 req (s.certified ++ s.measured)
/-- GET_MEASUREMENTS (R429). -/
def execGetMeasurements (port : Nat) (req : List Byte) (s : State) : Out :=
  s.spdmAnswer "GET_MEASUREMENTS" port 0xE0 req s.measured

end Sys2Proof.Machine
end

