-- ==== Sys2Proof/Machine/Invalidate.lean ====
section
/-! DEFINITION. Invalidation and probing of translations: TLBI, TLBSYNC, PROBE (R373 to R376). -/

namespace Sys2Proof.Machine

/-! ### TLBI (R374) -/

/-- What a TLBI names: every page, or the pages that meet one of some spans of virtual addresses (first, past the end). -/
abbrev Named := Option (List (Nat × Nat))

/-- Whether an extent meets what is named. -/
def named (n : Named) (a len : Nat) : Bool :=
  match n with
  | none => true
  | some l => l.any fun x => decide (x.1 < a + len ∧ a < x.2)

/-- Every translation cached for a partition: in its agents' structures and in the shared ones. -/
def State.partCached (s : State) (p : Nat) : List Tlb :=
  (((s.partAgents p).flatMap fun a => let c := s.coreAt a; c.itlb ++ c.dtlb ++ c.mtlb ++ c.setlb) ++ s.stlb.map (·.2) ++ s.btlb.map (·.2)).filter
    fun e => decide (e.part = p)

/-- The pages that addresses from one on up to a limit lie in now, at most `fuel` of them. -/
def State.pagesNow (s : State) (p hi : Nat) : Nat → Nat → List (Nat × Nat)
  | 0, _ => []
  | fuel + 1, a =>
    if hi ≤ a then []
    else
      match s.walk p a with
      | .ok x => (x.va, x.va + x.size) :: s.pagesNow p hi fuel (x.va + x.size)
      | .error _ => s.pagesNow p hi fuel (a / 4096 * 4096 + 4096)

/-- The spans of the pages that meet [lo, hi): the span itself in 4 KiB pages, cached pages, and the pages that it lies in now. -/
def State.namedPages (s : State) (p lo hi : Nat) : Named :=
  let cached := ((s.partCached p).filter fun e => decide (lo < e.va + e.size ∧ e.va < hi)).map fun e => (e.va, e.va + e.size)
  let now := s.pagesNow p hi ((hi - lo) / 4096 + 2) lo
  some ((lo / 4096 * 4096, (hi + 4095) / 4096 * 4096) :: (cached ++ now))

/-- Whether a region buffer holds an entry translated through a named page: through any of the addresses its stores used. -/
def coveredBuf (n : Named) (buf : List BufEntry) : Bool :=
  buf.any fun e => match e with
    | .glob g => (match g.place with
      | .phys _ => g.vas.any fun va => named n va.toNat 1
      | .remote _ _ => false)
    | _ => false

/-- One agent's part of a TLBI: its own translations and the named pages' lines of its instruction cache go, and a running region
that used a named page is discarded. -/
def State.shootAgent (n : Named) (sid : Nat) (s : State) : State :=
  s.onCore sid fun u =>
    let keep := fun (l : List Tlb) => l.filter fun e => !named n e.va e.size
    let c := u.core
    let u1 := { u with core := { c with
      itlb := keep c.itlb, dtlb := keep c.dtlb, mtlb := keep c.mtlb, setlb := keep c.setlb
      icache := c.icache.filter fun l => !named n (l.line * 128) 128 } }
    if c.act.isSome && coveredBuf n c.buf then u1.discard else u1

/-- A TLBI of the pages of a partition. -/
def State.shoot (s : State) (p : Nat) (n : Named) : State :=
  let s1 := (s.partAgents p).foldl (fun t a => t.shootAgent n a) s
  { s1 with
    stlb := s1.stlb.filter fun e => decide (e.2.part ≠ p) || !named n e.2.va e.2.size
    btlb := s1.btlb.filter fun e => decide (e.2.part ≠ p) || !named n e.2.va e.2.size
    wcache := s1.wcache.filter fun e => decide (e.2.part ≠ p) || !named n e.2.va (levelSpan e.2.level) }

/-- The kind of a TLBI: 0 va, 1 all, 2 rng. -/
def tlbiKind (w1 : W1) : Nat := (w1.aux.extractLsb' 0 2).toNat

/-- What a TLBI names, from its operands. -/
def State.tlbiNames (s : State) (kind : Nat) (va : Word) : Except Stop Named :=
  let a := s.core.r.a
  let p := s.partOf s.focus
  if kind = 1 then .ok none
  else if kind = 2 ∧ a.extractLsb' 20 44 ≠ 0#44 then trapAt 0x07 0x50 a
  else if 2 ^ 48 ≤ va.toNat then trapAt 0x0A 0x01 va
  else if kind = 2 then
    let lo := va.toNat / 4096 * 4096
    .ok (s.namedPages p lo (lo + ((a.extractLsb' 0 20).toNat + 1) * 4096))
  else .ok (s.namedPages p va.toNat (va.toNat + 1))

/-- TLBI (R374): every structure removes its entries at once (log 37); its number waits for a TLBSYNC. -/
def execTlbi (px : List Prefix) (s : BitVec 6) (w1 : W1) (st : State) : Out :=
  runInstr (.tlbi px s w1) st (fun _ st =>
    match (if tlbiKind w1 = 1 then .ok 0 else st.readOp (ctxAddr px s) s) with
    | .error e => .error e
    | .ok va =>
      match st.tlbiNames (tlbiKind w1) va with
      | .error e => .error e
      | .ok n =>
        let t := st.shoot (st.partOf st.focus) n
        .ok ((t.upd fun c => { c with tlbi := c.tlbi ++ [c.tlbi.length] }).post st
          (if tlbiKind w1 = 1 then [] else specSteps s)))

/-- TLBSYNC (R375): it waits until every TLBI the core issued is complete (log 37), which the writes that bulk copies have not
performed yet keep open. -/
def execTlbsync (px : List Prefix) (s : BitVec 6) (w1 : W1) (st : State) : Out :=
  runInstr (.tlbsync px s w1) st (fun _ st =>
    if !st.core.tlbi.isEmpty && st.lateWrites (st.partOf st.focus) then .error .wait
    else .ok (st.upd fun c => { c with tlbi := [] }))

/-! ### PROBE (R376) -/

/-- The size code of a page. -/
def sizeCode (x : Leaf) : Nat :=
  if x.size = 4096 then 0 else if x.size = 65536 then 1 else if x.size = 2097152 then 2 else 3

/-- r of a PROBE that finds a translation. -/
def probeOk (x : Leaf) (va : Nat) : Word :=
  let base := if pteCont x.leaf then ptePa x.leaf / 65536 * 65536 else ptePa x.leaf
  (((x.leaf.extractLsb' 52 12 ++ BitVec.ofNat 40 ((base + (va - x.va)) / 4096)) ++ x.leaf.extractLsb' 6 6) ++
    BitVec.ofNat 4 (sizeCode x)) ++ x.leaf.extractLsb' 0 2

/-- r of a PROBE that would fault. -/
def probeBad (cause detail : BitVec 8) (level : Nat) : Word :=
  (((1#1 ++ 0#23) ++ cause) ++ detail) ++ (0#22 ++ BitVec.ofNat 2 level)

/-- The access a PROBE checks. -/
def probeNeed (w1 : W1) : Need :=
  match (w1.aux.extractLsb' 0 2).toNat with
  | 1 => .read
  | 2 => .write
  | _ => .exec

/-- The leaf a PROBE finds by a walk, which fills the TLBs (R376); in stage B1 the fixed window's (R427). -/
def State.probeLeaf (s : State) (w1 : W1) (va : Nat) : State × Except XFault Leaf :=
  if s.stage = .b1 then (s, b1Window va)
  else s.walkFill s.focus (s.partOf s.focus) va (if (w1.aux.extractLsb' 0 2).toNat = 3 then .insn else .data)

/-- PROBE's result for the leaf it found, and whether it succeeds. -/
def probeJudge (w1 : W1) (va : Nat) : Except XFault Leaf → Word × Bool
  | .error f => (probeBad f.cause f.detail f.level, false)
  | .ok x =>
    match (if w1.aux.extractLsb' 0 2 = 0#2 then none else permFault (!w1.aux.getLsbD 2) (probeNeed w1) x.leaf) with
    | some (c, d) => (probeBad c d x.level, false)
    | none => (probeOk x va, true)

/-- PROBE (R376). Its walk waits for a host that holds a table line exclusive (R369). -/
def execProbe (px : List Prefix) (s : BitVec 6) (w1 : W1) (st : State) : Out :=
  runInstr (.probe px s w1) st (fun _ st =>
    match st.readOp (ctxAddr px s) s with
    | .error e => .error e
    | .ok va =>
      if 2 ^ 48 ≤ va.toNat then trapAt 0x0A 0x01 va
      else
        match st.probeLeaf w1 va.toNat with
        | (_, .error ⟨_, _, _, some line⟩) => .error (.recall line false)
        | (t, x) =>
          let q := probeJudge w1 va.toNat x
          match t.writeResult px s 8 q.1 with
          | .error e => .error e
          | .ok u => .ok ((u.setZ q.2).post st (stepsSD px s)))

end Sys2Proof.Machine
end

