-- ==== Sys2Proof/Machine/Pair.lean ====
section
/-! DEFINITION. Paired execution (R418, R419): the fingerprint, where the two cores of a pair are compared, and what a mismatch does.
SIDE 1 makes the same run of the same values two cycles behind, so that State holds SIDE 0's; what SIDE 1 gives at a compare comes
with the event (log 45). -/

namespace Sys2Proof.Machine

/-! ### The fingerprint (R419) -/

/-- One bit of a CRC-64 with the ECMA-182 polynomial, most significant first. -/
def crcBit (c : Word) (b : Bool) : Word := if c.getLsbD 63 != b then (c <<< 1) ^^^ 0x42F0E1EBA9EA3693 else c <<< 1

/-- A doubleword taken into a CRC, its lowest byte first. -/
def crcWord (c w : Word) : Word :=
  (List.range 64).foldl (fun c i => crcBit c (w.getLsbD (8 * (i / 8) + 7 - i % 8))) c

/-- Doublewords taken into a CRC. -/
def crcWords (c : Word) (ws : List Word) : Word := ws.foldl crcWord c

/-- An atomic request as doublewords. -/
def Amo.words (a : Amo) : List Word :=
  [BitVec.ofNat 64 (match a.op with
    | .add => 0 | .and => 1 | .or => 2 | .xor => 3 | .min => 4 | .max => 5 | .minn => 6 | .maxn => 7
    | .fmin => 8 | .fmax => 9 | .swp => 10 | .cas => 11 | .fadd => 12),
   BitVec.ofNat 64 a.bytes, a.arg.extractLsb' 0 64, a.arg.extractLsb' 64 64, a.expect.extractLsb' 0 64,
   a.expect.extractLsb' 64 64, a.mode.setWidth 64, BitVec.ofNat 64 a.bf.toNat]

/-- An entry of a region buffer as doublewords: the order and form of its fields are the model's (log 45). -/
def BufEntry.words : BufEntry → List Word
  | .glob g =>
    let place : List Word := match g.place with
      | .phys pa => [1, BitVec.ofNat 64 pa]
      | .remote c o => [2, BitVec.ofNat 64 (c * 16777216 + o)]
    let body : List Word := match g.kind with
      | .bytes mask data home => [1, mask.setWidth 64, data.extractLsb' 0 64, data.extractLsb' 64 64, BitVec.ofNat 64 home.toNat]
      | .nibble off mask data => [2, off.setWidth 64, mask.setWidth 64, data.setWidth 64]
      | .amo off op => [3, off.setWidth 64] ++ op.words
    place ++ body ++ [g.od.setWidth 64, g.sc.setWidth 64]
  | .pers blk k =>
    [3, blk.setWidth 64] ++ (match k with
      | .bytes mask data => [mask.setWidth 64, data.extractLsb' 0 64, data.extractLsb' 64 64]
      | .amo off op => off.setWidth 64 :: op.words)
  | .msg e => [4, e.word, e.ch.setWidth 64, e.cls.setWidth 64] ++ e.dests.map (BitVec.ofNat 64) ++ e.payload
  | .fence _ _ => []

/-- The state that a commit captures, as doublewords (R282). -/
def Ckpt.words (k : Ckpt) : List Word :=
  [k.a, k.flg] ++ k.p.toList ++ k.m.toList ++ [k.pres.setWidth 64, k.pc, k.rep.word, k.rep.addr]

/-- The fingerprint of a core's region: over its region-buffer entries in the order they were made, then over what a commit would
capture (R419). -/
def Core.fingerprint (c : Core) : Word := crcWords (crcWords 0 (c.buf.flatMap BufEntry.words)) c.checkpoint.words

/-! ### Where the pair compares (R418, R419) -/

/-- The instruction at the program counter of the core in focus. -/
def State.nextInstr (s : State) : Option Instr :=
  match s.fetch with
  | (_, .ok ws) => (match decode ws with | .ok (i, _) => some i | .error _ => none)
  | (_, .error _) => none

/-- Whether an operand or destination of an instruction lies in memory, so that it may write a scratchpad. -/
def touchesMemory (i : Instr) : Bool :=
  (match i.parts with | some p => (match dstOf p.px with | some d => specPtr d.1 | none => false) | none => false) ||
  (match attrsOf i with | some a => (match a.spec with | some sp => specPtr sp | none => false) | none => false) ||
  (match i with | .vst _ _ _ _ => true | _ => false)

/-- Whether a class of a region buffer is full, so that the next entry of that class makes the region commit (R97, R203, R281). -/
def Core.bufFull (c : Core) : Bool :=
  decide (256 ≤ globUsed c.buf) || decide (512 ≤ c.persUsed) || decide (32 ≤ c.msgUsed)

/-- Whether the pair of the core in focus compares fingerprints now: before a publication, and where its region's instruction count is a
multiple of 4,096 (R419). -/
def State.comparesPrint (s : State) : Bool :=
  s.landDue.boundaryDue || decide (s.core.icount ≠ 0 ∧ s.core.icount % 4096 = 0) || s.core.bufFull ||
  (match s.nextInstr with | some i => commits i | none => false)

/-- Whether it compares an effect: before a write of working scratchpad and before an irrevocable operation (R418). -/
def State.comparesEffect (s : State) : Bool :=
  match s.nextInstr with
  | some i => commits i || touchesMemory i
  | none => false

/-- What a mismatch does (R419): the region is discarded and runs again, and the second one in it raises PAIR. -/
def State.mismatch (s : State) (effect : Bool) : State :=
  let u := s.upd fun k => { k with ctl := { k.ctl with mism := if k.ctl.mism = 0xFFFF then 0xFFFF else k.ctl.mism + 1 } }
  if u.core.mismOnce then u.takeFault u.siteNow ⟨0x12, if effect then 0x02 else 0x01, none, 0, 0, 0⟩
  else { u.discard with core := { u.discard.core with mismOnce := true } }

/-- FINGERPRINT_COMPARE (R418, R419): SIDE 1's fingerprint, or what its effect differs by from SIDE 0's, compared where the pair compares;
where they agree the run goes on. -/
def execFingerprintCompare (sid : Nat) (other : Word) (effect : Bool) (s : State) : Out :=
  let c := s.coreAt sid
  let u := s.focusOn sid
  enabledIf "FINGERPRINT_COMPARE" (s.paired (s.partOf sid) && !isSvc sid && !sideOne sid && c.act.isSome &&
      (if effect then u.comparesEffect else u.comparesPrint))
    (if other = (if effect then 0 else c.fingerprint) then s else s.onCore sid fun t => t.mismatch effect)

end Sys2Proof.Machine
end

