-- ==== Sys2Proof/Machine/Special.lean ====
section
/-! DEFINITION. Special functions (R160, R161) and FP64 seeds (R162). A transcendental result is enclosed between two
fixed-point bounds; when both truncate to one FP32 value that value is the exact result rounded toward zero, else the
value is free (log 21). -/

namespace Sys2Proof.Machine

/-- Fraction bits of the fixed-point bounds. -/
def fxP : Nat := 320
/-- The unit, 1. -/
def fxOne : Nat := 2 ^ fxP

/-- Σ z^(2k+1)/(2k+1) from a term z^(2k+1), `alt` alternating the signs: atanh and atan of a small argument, each term
rounded down. The sum of the even-numbered terms and of the odd-numbered ones. -/
def oddSeries (zz : Nat) (term k : Nat) : Nat → Nat × Nat
  | 0 => (0, 0)
  | n + 1 =>
    let r := oddSeries zz (term * zz / fxOne) (k + 1) n
    (term / (2 * k + 1) + r.2, r.1)

/-- atan(1/q): between this and this + 400 units. -/
def fxAtanInv (q : Nat) : Nat :=
  let z := fxOne / q
  let r := oddSeries (fxOne / (q * q)) z 0 160
  r.1 - r.2 - 200

/-- atanh(z): between this and this + 400 units, for z up to 1/3. -/
def fxAtanh (z : Nat) : Nat :=
  let r := oddSeries (z * z / fxOne) z 0 120
  r.1 + r.2

/-- ln 2 = 2 atanh(1/3), within 1,000 units. -/
def fxLn2 : Nat := 2 * fxAtanh (fxOne / 3)

/-- π = 16 atan(1/5) − 4 atan(1/239), from below within 20,000 units. -/
def fxPi : Nat := 16 * fxAtanInv 5 - 4 * (fxAtanInv 239 + 400)

/-- Σ t^k/k! from a term, each rounded down: e^t for t below 1 within 400 units. -/
def expSeries (t term k : Nat) : Nat → Nat
  | 0 => 0
  | n + 1 => term + expSeries t (term * t / fxOne / (k + 1)) (k + 1) n

/-- e^t from below. -/
def fxExp (t : Nat) : Nat := expSeries t fxOne 0 100

/-- The sums of the terms of even and odd number of Σ t^(2k+1)/(2k+1)!. -/
def sinSeries (tt term k : Nat) : Nat → Nat × Nat
  | 0 => (0, 0)
  | n + 1 =>
    let r := sinSeries tt (term * tt / fxOne / ((2 * k + 2) * (2 * k + 3))) (k + 1) n
    (term + r.2, r.1)

/-- The slack of the bounds in units: well above every error summed here. -/
def fxErr : Nat := 2 ^ 24

/-- A result from its bounds (log 21): truncated when both agree, free otherwise. -/
def settle (fn : Nat) (x : Nat) (neg : Bool) (lo hi : Nat) : Nat × Flags5 :=
  let a := roundTo f32 .rz false neg lo (-(fxP : Int)) true
  let b := roundTo f32 .rz false neg hi (-(fxP : Int)) true
  if a = b then a else ((Config.specialResult fn (BitVec.ofNat 64 x)).toNat % 2 ^ 32, a.2)

/-- A finite magnitude m · 2^e as integer part and fixed-point fraction bits: floor of m · 2^(e + fxP). -/
def fxOf (m : Nat) (e : Int) : Nat :=
  let k := e + fxP
  if 0 ≤ k then m * 2 ^ k.toNat else m / 2 ^ (-k).toNat

/-! ### EXP2, LOG2 -/

/-- 2^x for a finite x. -/
def exp2Fin (x : Nat) (n : Bool) (m : Nat) (e : Int) : Nat × Flags5 :=
  let v : Int := if n then -(fxOf m e : Int) else (fxOf m e : Int)
  if (128 * fxOne : Int) ≤ v then (f32.infCode, fOF ||| fNX)
  else if v < -(200 * fxOne : Int) then roundTo f32 .rz false false 1 (-400) true
  else
    let k := v / (fxOne : Int)
    let f := (v % (fxOne : Int)).toNat
    if f = 0 then roundTo f32 .rz false false 1 k false
    else
      let y := fxExp (f * fxLn2 / fxOne)
      let a := roundTo f32 .rz false false (y - fxErr) (k - fxP) true
      let b := roundTo f32 .rz false false (y + fxErr) (k - fxP) true
      if a = b then a else ((Config.specialResult 0 (BitVec.ofNat 64 x)).toNat % 2 ^ 32, a.2)

/-- EXP2 (R161). Every FP32 operand above 200 in magnitude is far outside the range; every other one is exact in
fixed point. -/
def spExp2 (x : Nat) : Nat × Flags5 :=
  match f32.decode x with
  | .nan s => nanResult f32 s
  | .inf n => (if n then 0 else f32.infCode, 0)
  | .fin n m e => exp2Fin x n m (min e 40)

/-- log2 of a positive m · 2^e. -/
def log2Fin (x : Nat) (m : Nat) (e : Int) : Nat × Flags5 :=
  let l := bitLen m - 1
  let k := e + (l : Nat)
  if m = 2 ^ l then roundTo f32 .rz false (decide (k < 0)) k.natAbs 0 false
  else
    let y := m * 2 ^ (fxP - l)
    let z := (y - fxOne) * fxOne / (y + fxOne)
    let f := 2 * fxAtanh z * fxOne / fxLn2
    if 0 ≤ k then settle 1 x false (k.toNat * fxOne + f - fxErr) (k.toNat * fxOne + f + fxErr)
    else settle 1 x true (k.natAbs * fxOne - f - fxErr) (k.natAbs * fxOne - f + fxErr)

/-- LOG2 (R161). -/
def spLog2 (x : Nat) : Nat × Flags5 :=
  match f32.decode x with
  | .nan s => nanResult f32 s
  | .inf n => if n then nanResult f32 true else (f32.infCode, 0)
  | .fin n m e =>
    if m = 0 then (f32.signed true f32.infCode, fDZ)
    else if n then nanResult f32 true
    else log2Fin x m e

/-! ### RCP, RSQ -/

/-- A result whose magnitude exceeds the largest finite value is an infinity with OF and NX (R161). -/
def overflowInf (f : Fmt) (neg : Bool) (r : Nat × Flags5) : Nat × Flags5 :=
  if r.2 &&& fOF ≠ 0 then (f.signed neg f.infCode, fOF ||| fNX) else r

/-- RCP (R161). -/
def spRcp (x : Nat) : Nat × Flags5 :=
  match f32.decode x with
  | .nan s => nanResult f32 s
  | .inf n => (f32.signed n 0, 0)
  | .fin n m e =>
    if m = 0 then (f32.signed n f32.infCode, fDZ)
    else overflowInf f32 n (roundTo f32 .rz false n (2 ^ 80 / m) (-80 - e) (decide (2 ^ 80 % m ≠ 0)))

/-- floor(2^k / √a), and whether it is inexact. -/
def rsqrtFloor (a k : Nat) : Nat × Bool :=
  let r := isqrt (2 ^ (2 * k) / a)
  (r, decide (r * r * a ≠ 2 ^ (2 * k)))

/-- A positive m · 2^e as a · 2^(2j). -/
def evenForm (m : Nat) (e : Int) : Nat × Int := if e % 2 = 0 then (m, e / 2) else (2 * m, (e - 1) / 2)

/-- RSQ (R161). -/
def spRsq (x : Nat) : Nat × Flags5 :=
  match f32.decode x with
  | .nan s => nanResult f32 s
  | .inf n => if n then nanResult f32 true else (0, 0)
  | .fin n m e =>
    if m = 0 then (f32.signed n f32.infCode, fDZ)
    else if n then nanResult f32 true
    else
      let a := evenForm m e
      let r := rsqrtFloor a.1 80
      roundTo f32 .rz false false r.1 (-80 - a.2) r.2

/-! ### TANH -/

/-- k squarings in fixed point. -/
def fxSquares (y : Nat) : Nat → Nat
  | 0 => y
  | k + 1 => fxSquares (y * y / fxOne) k

/-- TANH (R161): below 2^−64 the result lies just below the operand, from 16 on just below 1. -/
def spTanh (x : Nat) : Nat × Flags5 :=
  match f32.decode x with
  | .nan s => nanResult f32 s
  | .inf n => (f32.signed n 0x3F800000, 0)
  | .fin n m e =>
    if m = 0 then (f32.signed n 0, 0)
    else if e + (bitLen m : Nat) ≤ -64 then roundTo f32 .rz false n (m * 2 ^ 64 - 1) (e - 64) true
    else if 5 ≤ e + (bitLen m : Nat) then roundTo f32 .rz false n (2 ^ 64 - 1) (-64) true
    else
      let y := fxSquares (fxExp (fxOf m (e + 1) / 64)) 6
      let lo := y - 2 ^ 80
      let hi := y + 2 ^ 80
      settle 4 x n ((lo - fxOne) * fxOne / (lo + fxOne)) ((hi - fxOne) * fxOne / (hi + fxOne) + 1)

/-! ### SINP, COSP -/

/-- sin(πy) for y = v / 2^fxP in (0, ½], with a sign. -/
def sinPiOf (fn x : Nat) (neg : Bool) (v : Nat) : Nat × Flags5 :=
  if 2 * v = fxOne then (f32.signed neg 0x3F800000, 0)
  else
    let t := v * fxPi / fxOne
    let r := sinSeries (t * t / fxOne) t 0 60
    settle fn x neg (r.1 - r.2 - fxErr) (r.1 - r.2 + fxErr)

/-- |x| modulo 2 in fixed point. -/
def mod2 (m : Nat) (e : Int) : Nat := if 24 < e then 0 else fxOf m e % (2 * fxOne)

/-- SINP: sin πx (R161). -/
def spSinp (x : Nat) : Nat × Flags5 :=
  match f32.decode x with
  | .nan s => nanResult f32 s
  | .inf _ => nanResult f32 true
  | .fin n m e =>
    let r := mod2 m e
    if r % fxOne = 0 then (f32.signed n 0, 0)
    else
      let h := r % fxOne
      sinPiOf 5 x (n != decide (fxOne < r)) (min h (fxOne - h))

/-- COSP: cos πx (R161). -/
def spCosp (x : Nat) : Nat × Flags5 :=
  match f32.decode x with
  | .nan s => nanResult f32 s
  | .inf _ => nanResult f32 true
  | .fin _ m e =>
    let r0 := mod2 m e
    let r := if fxOne < r0 then 2 * fxOne - r0 else r0
    let h := fxOne / 2
    if r = h then (0, 0)
    else if r < h then sinPiOf 6 x false (h - r)
    else sinPiOf 6 x true (r - h)

/-! ### Seeds (R162) -/

/-- N24: 24 significant bits, to nearest even. -/
def round24 (m : Nat) (e : Int) (sticky : Bool) : Nat × Int :=
  let q := e + (bitLen m : Nat) - 24
  ((roundAt .rne false m e q sticky).1, q)

/-- T24: 24 significant bits, truncated. -/
def trunc24 (m : Nat) (e : Int) : Nat × Int :=
  let l := bitLen m
  if 24 < l then (m / 2 ^ (l - 24), e + (l - 24 : Nat)) else (m, e)

/-- RCPS (R162); special operands as RCP, only IV and DZ. -/
def spRcps (x : Nat) : Nat × Flags5 :=
  match f64.decode x with
  | .nan s => nanResult f64 s
  | .inf n => (f64.signed n 0, 0)
  | .fin n m e =>
    if m = 0 then (f64.signed n f64.infCode, fDZ)
    else
      let t := trunc24 m e
      let y := round24 (2 ^ 80 / t.1) (-80 - t.2) (decide (2 ^ 80 % t.1 ≠ 0))
      ((roundTo f64 .rne false n y.1 y.2 false).1, 0)

/-- RSQS (R162); special operands as RSQ. -/
def spRsqs (x : Nat) : Nat × Flags5 :=
  match f64.decode x with
  | .nan s => nanResult f64 s
  | .inf n => if n then nanResult f64 true else (0, 0)
  | .fin n m e =>
    if m = 0 then (f64.signed n f64.infCode, fDZ)
    else if n then nanResult f64 true
    else
      let t := trunc24 m e
      let a := evenForm t.1 t.2
      let r := rsqrtFloor a.1 80
      let y := round24 r.1 (-80 - a.2) r.2
      ((roundTo f64 .rne false false y.1 y.2 false).1, 0)

/-! ### The instructions (R160) -/

/-- A scalar special function of `n` operand bytes. -/
def specialBody (px : List Prefix) (s : BitVec 6) (w1 : W1) (n : Nat) (f : Nat → Nat × Flags5) : Body := fun _ st =>
  match st.readOp (ctxFp px s n) s with
  | .error e => .error e
  | .ok src =>
    let o := f (src.toNat % 2 ^ (8 * n))
    st.issueLong (st.fpTarget px s n o.1) w1 o.2 0 0 (stepsSD px s)

/-- A vector special function: VAd[i] := f(mem[i]) over 16 lanes. -/
def vspecialBody (px : List Prefix) (s : BitVec 6) (w1 : W1) (f : Nat → Nat × Flags5) : Body := fun _ st =>
  match st.loadLocal (st.eaOf (specPtrNo s) (dispOf px)) 64 .vec with
  | .error e => .error e
  | .ok x => st.issueVec px (w1.aux.extractLsb' 2 2) 32 w1.la (fun i => f (laneAt 32 x i)) (specSteps s)

/-- EXP2 (R160). -/
def execExp2 (px : List Prefix) (s : BitVec 6) (w1 : W1) (st : State) : Out :=
  runInstr (.exp2 px s w1) st (specialBody px s w1 4 spExp2)

/-- LOG2 (R160). -/
def execLog2 (px : List Prefix) (s : BitVec 6) (w1 : W1) (st : State) : Out :=
  runInstr (.log2 px s w1) st (specialBody px s w1 4 spLog2)

/-- RCP (R160). -/
def execRcp (px : List Prefix) (s : BitVec 6) (w1 : W1) (st : State) : Out :=
  runInstr (.rcp px s w1) st (specialBody px s w1 4 spRcp)

/-- RSQ (R160). -/
def execRsq (px : List Prefix) (s : BitVec 6) (w1 : W1) (st : State) : Out :=
  runInstr (.rsq px s w1) st (specialBody px s w1 4 spRsq)

/-- TANH (R160). -/
def execTanh (px : List Prefix) (s : BitVec 6) (w1 : W1) (st : State) : Out :=
  runInstr (.tanh px s w1) st (specialBody px s w1 4 spTanh)

/-- SINP (R160). -/
def execSinp (px : List Prefix) (s : BitVec 6) (w1 : W1) (st : State) : Out :=
  runInstr (.sinp px s w1) st (specialBody px s w1 4 spSinp)

/-- COSP (R160). -/
def execCosp (px : List Prefix) (s : BitVec 6) (w1 : W1) (st : State) : Out :=
  runInstr (.cosp px s w1) st (specialBody px s w1 4 spCosp)

/-- RCPS (R160). -/
def execRcps (px : List Prefix) (s : BitVec 6) (w1 : W1) (st : State) : Out :=
  runInstr (.rcps px s w1) st (specialBody px s w1 8 spRcps)

/-- RSQS (R160). -/
def execRsqs (px : List Prefix) (s : BitVec 6) (w1 : W1) (st : State) : Out :=
  runInstr (.rsqs px s w1) st (specialBody px s w1 8 spRsqs)

/-- VEXP2 (R160). -/
def execVexp2 (px : List Prefix) (s : BitVec 6) (w1 : W1) (st : State) : Out :=
  runInstr (.vexp2 px s w1) st (vspecialBody px s w1 spExp2)

/-- VLOG2 (R160). -/
def execVlog2 (px : List Prefix) (s : BitVec 6) (w1 : W1) (st : State) : Out :=
  runInstr (.vlog2 px s w1) st (vspecialBody px s w1 spLog2)

/-- VRCP (R160). -/
def execVrcp (px : List Prefix) (s : BitVec 6) (w1 : W1) (st : State) : Out :=
  runInstr (.vrcp px s w1) st (vspecialBody px s w1 spRcp)

/-- VRSQ (R160). -/
def execVrsq (px : List Prefix) (s : BitVec 6) (w1 : W1) (st : State) : Out :=
  runInstr (.vrsq px s w1) st (vspecialBody px s w1 spRsq)

/-- VTANH (R160). -/
def execVtanh (px : List Prefix) (s : BitVec 6) (w1 : W1) (st : State) : Out :=
  runInstr (.vtanh px s w1) st (vspecialBody px s w1 spTanh)

end Sys2Proof.Machine
end

