-- ==== Sys2Proof/Machine/Dispatch.lean ====
section
/-! DEFINITION. One arm per instruction and event of spec/opcode_table.json. -/

namespace Sys2Proof.Machine

/-- What an instruction or event does (one direct call of its meaning each). -/
def exec (i : Instr) (s : State) : Host.Outcome State Fault Refusal :=
  match i with
  | .trap px n => Sys2Proof.Machine.execTrap px n s
  | .nop px => Sys2Proof.Machine.execNop px s
  | .done px => Sys2Proof.Machine.execDone px s
  | .commit px => Sys2Proof.Machine.execCommit px s
  | .yield px => Sys2Proof.Machine.execYield px s
  | .ret px => Sys2Proof.Machine.execRet px s
  | .eret px => Sys2Proof.Machine.execEret px s
  | .lda px sp => Sys2Proof.Machine.execLda px sp s
  | .sta px sp => Sys2Proof.Machine.execSta px sp s
  | .add px sp => Sys2Proof.Machine.execAdd px sp s
  | .adc px sp => Sys2Proof.Machine.execAdc px sp s
  | .sub px sp => Sys2Proof.Machine.execSub px sp s
  | .sbc px sp => Sys2Proof.Machine.execSbc px sp s
  | .rsb px sp => Sys2Proof.Machine.execRsb px sp s
  | .cmp px sp => Sys2Proof.Machine.execCmp px sp s
  | .and px sp => Sys2Proof.Machine.execAnd px sp s
  | .or px sp => Sys2Proof.Machine.execOr px sp s
  | .xor px sp => Sys2Proof.Machine.execXor px sp s
  | .andn px sp => Sys2Proof.Machine.execAndn px sp s
  | .tst px sp => Sys2Proof.Machine.execTst px sp s
  | .shl px sp => Sys2Proof.Machine.execShl px sp s
  | .shr px sp => Sys2Proof.Machine.execShr px sp s
  | .sar px sp => Sys2Proof.Machine.execSar px sp s
  | .rol px sp => Sys2Proof.Machine.execRol px sp s
  | .ror px sp => Sys2Proof.Machine.execRor px sp s
  | .mul px sp => Sys2Proof.Machine.execMul px sp s
  | .mulh px sp => Sys2Proof.Machine.execMulh px sp s
  | .mulhn px sp => Sys2Proof.Machine.execMulhn px sp s
  | .min px sp => Sys2Proof.Machine.execMin px sp s
  | .max px sp => Sys2Proof.Machine.execMax px sp s
  | .minn px sp => Sys2Proof.Machine.execMinn px sp s
  | .maxn px sp => Sys2Proof.Machine.execMaxn px sp s
  | .neg px sp => Sys2Proof.Machine.execNeg px sp s
  | .not px sp => Sys2Proof.Machine.execNot px sp s
  | .clz px sp => Sys2Proof.Machine.execClz px sp s
  | .ctz px sp => Sys2Proof.Machine.execCtz px sp s
  | .popc px sp => Sys2Proof.Machine.execPopc px sp s
  | .brev px sp => Sys2Proof.Machine.execBrev px sp s
  | .bswp px sp => Sys2Proof.Machine.execBswp px sp s
  | .sext px sp => Sys2Proof.Machine.execSext px sp s
  | .zext px sp => Sys2Proof.Machine.execZext px sp s
  | .bfx px sp => Sys2Proof.Machine.execBfx px sp s
  | .bfi px sp => Sys2Proof.Machine.execBfi px sp s
  | .selz px sp => Sys2Proof.Machine.execSelz px sp s
  | .selnz px sp => Sys2Proof.Machine.execSelnz px sp s
  | .mac px sp => Sys2Proof.Machine.execMac px sp s
  | .xchg px sp => Sys2Proof.Machine.execXchg px sp s
  | .adds px sp => Sys2Proof.Machine.execAdds px sp s
  | .subs px sp => Sys2Proof.Machine.execSubs px sp s
  | .abs px sp => Sys2Proof.Machine.execAbs px sp s
  | .fadd px sp t => Sys2Proof.Machine.execFadd px sp t s
  | .fsub px sp t => Sys2Proof.Machine.execFsub px sp t s
  | .fmul px sp t => Sys2Proof.Machine.execFmul px sp t s
  | .ffma px sp t => Sys2Proof.Machine.execFfma px sp t s
  | .fscl px sp t => Sys2Proof.Machine.execFscl px sp t s
  | .frsub px sp t => Sys2Proof.Machine.execFrsub px sp t s
  | .fmin px sp t => Sys2Proof.Machine.execFmin px sp t s
  | .fmax px sp t => Sys2Proof.Machine.execFmax px sp t s
  | .fcmp px sp t => Sys2Proof.Machine.execFcmp px sp t s
  | .fabs px sp t => Sys2Proof.Machine.execFabs px sp t s
  | .fneg px sp t => Sys2Proof.Machine.execFneg px sp t s
  | .fclass px sp t => Sys2Proof.Machine.execFclass px sp t s
  | .frint px sp t => Sys2Proof.Machine.execFrint px sp t s
  | .fsgnj px sp t => Sys2Proof.Machine.execFsgnj px sp t s
  | .fminn px sp t => Sys2Proof.Machine.execFminn px sp t s
  | .fmaxn px sp t => Sys2Proof.Machine.execFmaxn px sp t s
  | .cvt px sp d c => Sys2Proof.Machine.execCvt px sp d c s
  | .ldi px imm => Sys2Proof.Machine.execLdi px imm s
  | .addi px imm => Sys2Proof.Machine.execAddi px imm s
  | .cmpi px imm => Sys2Proof.Machine.execCmpi px imm s
  | .andi px imm => Sys2Proof.Machine.execAndi px imm s
  | .ori px imm => Sys2Proof.Machine.execOri px imm s
  | .xori px imm => Sys2Proof.Machine.execXori px imm s
  | .shli px imm => Sys2Proof.Machine.execShli px imm s
  | .shri px imm => Sys2Proof.Machine.execShri px imm s
  | .sari px imm => Sys2Proof.Machine.execSari px imm s
  | .muli px imm => Sys2Proof.Machine.execMuli px imm s
  | .mfc px imm => Sys2Proof.Machine.execMfc px imm s
  | .mtc px imm => Sys2Proof.Machine.execMtc px imm s
  | .spres px imm => Sys2Proof.Machine.execSpres px imm s
  | .sclr px imm => Sys2Proof.Machine.execSclr px imm s
  | .pset px pr imm => Sys2Proof.Machine.execPset px pr imm s
  | .pget px pr imm => Sys2Proof.Machine.execPget px pr imm s
  | .padd px pr imm => Sys2Proof.Machine.execPadd px pr imm s
  | .pstep px pr imm => Sys2Proof.Machine.execPstep px pr imm s
  | .pmod px pr imm => Sys2Proof.Machine.execPmod px pr imm s
  | .plea px pr imm => Sys2Proof.Machine.execPlea px pr imm s
  | .pswp px pr imm => Sys2Proof.Machine.execPswp px pr imm s
  | .pcmp px pr imm => Sys2Proof.Machine.execPcmp px pr imm s
  | .vfadd px va pp m t => Sys2Proof.Machine.execVfadd px va pp m t s
  | .vfsub px va pp m t => Sys2Proof.Machine.execVfsub px va pp m t s
  | .vfmul px va pp m t => Sys2Proof.Machine.execVfmul px va pp m t s
  | .vfma px va pp m t => Sys2Proof.Machine.execVfma px va pp m t s
  | .vfscl px va pp m t => Sys2Proof.Machine.execVfscl px va pp m t s
  | .vfrsub px va pp m t => Sys2Proof.Machine.execVfrsub px va pp m t s
  | .vfmin px va pp m t => Sys2Proof.Machine.execVfmin px va pp m t s
  | .vfmax px va pp m t => Sys2Proof.Machine.execVfmax px va pp m t s
  | .vfceq px va pp m t => Sys2Proof.Machine.execVfceq px va pp m t s
  | .vfclt px va pp m t => Sys2Proof.Machine.execVfclt px va pp m t s
  | .vfcle px va pp m t => Sys2Proof.Machine.execVfcle px va pp m t s
  | .vfabs px va pp m t => Sys2Proof.Machine.execVfabs px va pp m t s
  | .vfneg px va pp m t => Sys2Proof.Machine.execVfneg px va pp m t s
  | .vfminn px va pp m t => Sys2Proof.Machine.execVfminn px va pp m t s
  | .vfmaxn px va pp m t => Sys2Proof.Machine.execVfmaxn px va pp m t s
  | .vfreds px va pp m t => Sys2Proof.Machine.execVfreds px va pp m t s
  | .vld px va pp m => Sys2Proof.Machine.execVld px va pp m s
  | .vst px va pp m => Sys2Proof.Machine.execVst px va pp m s
  | .vbcstI64 px va pp m => Sys2Proof.Machine.execVbcstI64 px va pp m s
  | .vbcstI32 px va pp m => Sys2Proof.Machine.execVbcstI32 px va pp m s
  | .vbcstI16 px va pp m => Sys2Proof.Machine.execVbcstI16 px va pp m s
  | .vbcstI8 px va pp m => Sys2Proof.Machine.execVbcstI8 px va pp m s
  | .vmov px va pp m => Sys2Proof.Machine.execVmov px va pp m s
  | .vshuf px va pp m => Sys2Proof.Machine.execVshuf px va pp m s
  | .vsel px va pp m => Sys2Proof.Machine.execVsel px va pp m s
  | .viadd px va pp m t => Sys2Proof.Machine.execViadd px va pp m t s
  | .visub px va pp m t => Sys2Proof.Machine.execVisub px va pp m t s
  | .vimul px va pp m t => Sys2Proof.Machine.execVimul px va pp m t s
  | .vimin px va pp m t => Sys2Proof.Machine.execVimin px va pp m t s
  | .vimax px va pp m t => Sys2Proof.Machine.execVimax px va pp m t s
  | .viminn px va pp m t => Sys2Proof.Machine.execViminn px va pp m t s
  | .vimaxn px va pp m t => Sys2Proof.Machine.execVimaxn px va pp m t s
  | .vand px va pp m t => Sys2Proof.Machine.execVand px va pp m t s
  | .vor px va pp m t => Sys2Proof.Machine.execVor px va pp m t s
  | .vxor px va pp m t => Sys2Proof.Machine.execVxor px va pp m t s
  | .vshl px va pp m t => Sys2Proof.Machine.execVshl px va pp m t s
  | .vshr px va pp m t => Sys2Proof.Machine.execVshr px va pp m t s
  | .br px cc off => Sys2Proof.Machine.execBr px cc off s
  | .jmp px off => Sys2Proof.Machine.execJmp px off s
  | .brl px off => Sys2Proof.Machine.execBrl px off s
  | .chen px arg => Sys2Proof.Machine.execChen px arg s
  | .chdis px arg => Sys2Proof.Machine.execChdis px arg s
  | .chpend px arg => Sys2Proof.Machine.execChpend px arg s
  | .chclr px arg => Sys2Proof.Machine.execChclr px arg s
  | .chpri px arg => Sys2Proof.Machine.execChpri px arg s
  | .jmps px arg => Sys2Proof.Machine.execJmps px arg s
  | .brls px arg => Sys2Proof.Machine.execBrls px arg s
  | .kand px arg => Sys2Proof.Machine.execKand px arg s
  | .kor px arg => Sys2Proof.Machine.execKor px arg s
  | .kxor px arg => Sys2Proof.Machine.execKxor px arg s
  | .knot px arg => Sys2Proof.Machine.execKnot px arg s
  | .kmov px arg => Sys2Proof.Machine.execKmov px arg s
  | .kany px arg => Sys2Proof.Machine.execKany px arg s
  | .kall px arg => Sys2Proof.Machine.execKall px arg s
  | .kpop px arg => Sys2Proof.Machine.execKpop px arg s
  | .rep px arg => Sys2Proof.Machine.execRep px arg s
  | .cmask px arg => Sys2Proof.Machine.execCmask px arg s
  | .cunmask px arg => Sys2Proof.Machine.execCunmask px arg s
  | .kseti px arg => Sys2Proof.Machine.execKseti px arg s
  | .ldg px sp w1 => Sys2Proof.Machine.execLdg px sp w1 s
  | .stg px sp w1 => Sys2Proof.Machine.execStg px sp w1 s
  | .vldg px sp w1 => Sys2Proof.Machine.execVldg px sp w1 s
  | .vstg px sp w1 => Sys2Proof.Machine.execVstg px sp w1 s
  | .ldx px sp w1 => Sys2Proof.Machine.execLdx px sp w1 s
  | .stx px sp w1 => Sys2Proof.Machine.execStx px sp w1 s
  | .stn px sp w1 => Sys2Proof.Machine.execStn px sp w1 s
  | .pref px sp w1 => Sys2Proof.Machine.execPref px sp w1 s
  | .amoadd px sp w1 => Sys2Proof.Machine.execAmoadd px sp w1 s
  | .amoand px sp w1 => Sys2Proof.Machine.execAmoand px sp w1 s
  | .amoor px sp w1 => Sys2Proof.Machine.execAmoor px sp w1 s
  | .amoxor px sp w1 => Sys2Proof.Machine.execAmoxor px sp w1 s
  | .amomin px sp w1 => Sys2Proof.Machine.execAmomin px sp w1 s
  | .amomax px sp w1 => Sys2Proof.Machine.execAmomax px sp w1 s
  | .amominn px sp w1 => Sys2Proof.Machine.execAmominn px sp w1 s
  | .amomaxn px sp w1 => Sys2Proof.Machine.execAmomaxn px sp w1 s
  | .amoswp px sp w1 => Sys2Proof.Machine.execAmoswp px sp w1 s
  | .amocas px sp w1 => Sys2Proof.Machine.execAmocas px sp w1 s
  | .amofadd px sp w1 => Sys2Proof.Machine.execAmofadd px sp w1 s
  | .fence px sp w1 => Sys2Proof.Machine.execFence px sp w1 s
  | .xfence px sp w1 => Sys2Proof.Machine.execXfence px sp w1 s
  | .tdecl px sp w1 => Sys2Proof.Machine.execTdecl px sp w1 s
  | .tund px sp w1 => Sys2Proof.Machine.execTund px sp w1 s
  | .tfwd px sp w1 => Sys2Proof.Machine.execTfwd px sp w1 s
  | .twb px sp w1 => Sys2Proof.Machine.execTwb px sp w1 s
  | .tinv px sp w1 => Sys2Proof.Machine.execTinv px sp w1 s
  | .clwb px sp w1 => Sys2Proof.Machine.execClwb px sp w1 s
  | .clinv px sp w1 => Sys2Proof.Machine.execClinv px sp w1 s
  | .clfl px sp w1 => Sys2Proof.Machine.execClfl px sp w1 s
  | .sgo px sp w1 => Sys2Proof.Machine.execSgo px sp w1 s
  | .sbuf px sp w1 => Sys2Proof.Machine.execSbuf px sp w1 s
  | .speek px sp w1 => Sys2Proof.Machine.execSpeek px sp w1 s
  | .sfree px sp w1 => Sys2Proof.Machine.execSfree px sp w1 s
  | .scnt px sp w1 => Sys2Proof.Machine.execScnt px sp w1 s
  | .cpgo px sp w1 => Sys2Proof.Machine.execCpgo px sp w1 s
  | .cpst px sp w1 => Sys2Proof.Machine.execCpst px sp w1 s
  | .mxgo px sp w1 => Sys2Proof.Machine.execMxgo px sp w1 s
  | .mxrd px sp w1 => Sys2Proof.Machine.execMxrd px sp w1 s
  | .mxwr px sp w1 => Sys2Proof.Machine.execMxwr px sp w1 s
  | .mxst px sp w1 => Sys2Proof.Machine.execMxst px sp w1 s
  | .mxcfg px sp w1 => Sys2Proof.Machine.execMxcfg px sp w1 s
  | .mxmsk px sp w1 => Sys2Proof.Machine.execMxmsk px sp w1 s
  | .mxabt px sp w1 => Sys2Proof.Machine.execMxabt px sp w1 s
  | .send px sp w1 => Sys2Proof.Machine.execSend px sp w1 s
  | .bcast px sp w1 => Sys2Proof.Machine.execBcast px sp w1 s
  | .wrs px sp w1 => Sys2Proof.Machine.execWrs px sp w1 s
  | .psend px sp w1 => Sys2Proof.Machine.execPsend px sp w1 s
  | .launch px sp w1 => Sys2Proof.Machine.execLaunch px sp w1 s
  | .trig px sp w1 => Sys2Proof.Machine.execTrig px sp w1 s
  | .bar px sp w1 => Sys2Proof.Machine.execBar px sp w1 s
  | .svc px sp w1 => Sys2Proof.Machine.execSvc px sp w1 s
  | .hint px sp w1 => Sys2Proof.Machine.execHint px sp w1 s
  | .gred px sp w1 => Sys2Proof.Machine.execGred px sp w1 s
  | .vmaxx px sp w1 => Sys2Proof.Machine.execVmaxx px sp w1 s
  | .tlbi px sp w1 => Sys2Proof.Machine.execTlbi px sp w1 s
  | .tlbsync px sp w1 => Sys2Proof.Machine.execTlbsync px sp w1 s
  | .probe px sp w1 => Sys2Proof.Machine.execProbe px sp w1 s
  | .pstop px sp w1 => Sys2Proof.Machine.execPstop px sp w1 s
  | .pgo px sp w1 => Sys2Proof.Machine.execPgo px sp w1 s
  | .cswap px sp w1 => Sys2Proof.Machine.execCswap px sp w1 s
  | .scrub px sp w1 => Sys2Proof.Machine.execScrub px sp w1 s
  | .exp2 px sp w1 => Sys2Proof.Machine.execExp2 px sp w1 s
  | .log2 px sp w1 => Sys2Proof.Machine.execLog2 px sp w1 s
  | .rcp px sp w1 => Sys2Proof.Machine.execRcp px sp w1 s
  | .rsq px sp w1 => Sys2Proof.Machine.execRsq px sp w1 s
  | .tanh px sp w1 => Sys2Proof.Machine.execTanh px sp w1 s
  | .sinp px sp w1 => Sys2Proof.Machine.execSinp px sp w1 s
  | .cosp px sp w1 => Sys2Proof.Machine.execCosp px sp w1 s
  | .rcps px sp w1 => Sys2Proof.Machine.execRcps px sp w1 s
  | .rsqs px sp w1 => Sys2Proof.Machine.execRsqs px sp w1 s
  | .vexp2 px sp w1 => Sys2Proof.Machine.execVexp2 px sp w1 s
  | .vlog2 px sp w1 => Sys2Proof.Machine.execVlog2 px sp w1 s
  | .vrcp px sp w1 => Sys2Proof.Machine.execVrcp px sp w1 s
  | .vrsq px sp w1 => Sys2Proof.Machine.execVrsq px sp w1 s
  | .vtanh px sp w1 => Sys2Proof.Machine.execVtanh px sp w1 s
  | .vcvt px sp w1 => Sys2Proof.Machine.execVcvt px sp w1 s
  | .vqnt px sp w1 => Sys2Proof.Machine.execVqnt px sp w1 s
  | .vdqnt px sp w1 => Sys2Proof.Machine.execVdqnt px sp w1 s
  | .xadd px sp w1 => Sys2Proof.Machine.execXadd px sp w1 s
  | .vxadd px sp w1 => Sys2Proof.Machine.execVxadd px sp w1 s
  | .xrnd px sp w1 => Sys2Proof.Machine.execXrnd px sp w1 s
  | .xmrg px sp w1 => Sys2Proof.Machine.execXmrg px sp w1 s
  | .xclr px sp w1 => Sys2Proof.Machine.execXclr px sp w1 s
  | .fdiv px sp w1 => Sys2Proof.Machine.execFdiv px sp w1 s
  | .fsqrt px sp w1 => Sys2Proof.Machine.execFsqrt px sp w1 s
  | .div px sp w1 => Sys2Proof.Machine.execDiv px sp w1 s
  | .divn px sp w1 => Sys2Proof.Machine.execDivn px sp w1 s
  | .rem px sp w1 => Sys2Proof.Machine.execRem px sp w1 s
  | .remn px sp w1 => Sys2Proof.Machine.execRemn px sp w1 s
  | .vfdiv px sp w1 => Sys2Proof.Machine.execVfdiv px sp w1 s
  | .vfsqrt px sp w1 => Sys2Proof.Machine.execVfsqrt px sp w1 s
  | .selection => Sys2Proof.Machine.execSelection s
  | .longResult sid => Sys2Proof.Machine.execLongResult sid s
  | .instructionLimit sid => Sys2Proof.Machine.execInstructionLimit sid s
  | .faultMessageRetry n => Sys2Proof.Machine.execFaultMessageRetry n s
  | .migrationRetry sid slot => Sys2Proof.Machine.execMigrationRetry sid slot s
  | .regionReply n => Sys2Proof.Machine.execRegionReply n s
  | .frameReturn n => Sys2Proof.Machine.execFrameReturn n s
  | .agentReply n => Sys2Proof.Machine.execAgentReply n s
  | .uncorrectableError site => Sys2Proof.Machine.execUncorrectableError site s
  | .patrolScrub => Sys2Proof.Machine.execPatrolScrub s
  | .fingerprintCompare sid other effect => Sys2Proof.Machine.execFingerprintCompare sid other effect s
  | .messageArrival n down => Sys2Proof.Machine.execMessageArrival n down s
  | .messageRetry n down => Sys2Proof.Machine.execMessageRetry n down s
  | .messageAck sid => Sys2Proof.Machine.execMessageAck sid s
  | .wrsDeposit n => Sys2Proof.Machine.execWrsDeposit n s
  | .peerArrival dst src seq payload => Sys2Proof.Machine.execPeerArrival dst src seq payload s
  | .psendAck n => Sys2Proof.Machine.execPsendAck n s
  | .launchStart num => Sys2Proof.Machine.execLaunchStart num s
  | .initialMessagePlacement num => Sys2Proof.Machine.execInitialMessagePlacement num s
  | .quiescenceSweep num => Sys2Proof.Machine.execQuiescenceSweep num s
  | .hostChannelWrite port part w off len dws => Sys2Proof.Machine.execHostChannelWrite port part w off len dws s
  | .hostChannelDelivery port part w => Sys2Proof.Machine.execHostChannelDelivery port part w s
  | .mxgoStart sid => Sys2Proof.Machine.execMxgoStart sid s
  | .gangFormation sid => Sys2Proof.Machine.execGangFormation sid s
  | .gangTimeout sid => Sys2Proof.Machine.execGangTimeout sid s
  | .kStep sid => Sys2Proof.Machine.execKStep sid s
  | .mxstPerform sid => Sys2Proof.Machine.execMxstPerform sid s
  | .mxwrPerform sid => Sys2Proof.Machine.execMxwrPerform sid s
  | .mxcfgPerform sid => Sys2Proof.Machine.execMxcfgPerform sid s
  | .mxmskPerform sid => Sys2Proof.Machine.execMxmskPerform sid s
  | .mxCompletion sid => Sys2Proof.Machine.execMxCompletion sid s
  | .gredStart sid => Sys2Proof.Machine.execGredStart sid s
  | .gredCompletion sid => Sys2Proof.Machine.execGredCompletion sid s
  | .gredTimeout sid => Sys2Proof.Machine.execGredTimeout sid s
  | .vmaxxCompletion sid => Sys2Proof.Machine.execVmaxxCompletion sid s
  | .barrierCompletion sid => Sys2Proof.Machine.execBarrierCompletion sid s
  | .barrierTimeout sid => Sys2Proof.Machine.execBarrierTimeout sid s
  | .sbufPerform sid => Sys2Proof.Machine.execSbufPerform sid s
  | .sgoStart sid => Sys2Proof.Machine.execSgoStart sid s
  | .streamSlot sid => Sys2Proof.Machine.execStreamSlot sid s
  | .bulkCopyTake dk => Sys2Proof.Machine.execBulkCopyTake dk s
  | .bulkCopyPiece dk part ticket piece => Sys2Proof.Machine.execBulkCopyPiece dk part ticket piece s
  | .readShared cl line => Sys2Proof.Machine.execReadShared cl line s
  | .readForOwnership cl line => Sys2Proof.Machine.execReadForOwnership cl line s
  | .upgrade cl line => Sys2Proof.Machine.execUpgrade cl line s
  | .writeBack cl line => Sys2Proof.Machine.execWriteBack cl line s
  | .cleanEvictionNotice cl line => Sys2Proof.Machine.execCleanEvictionNotice cl line s
  | .probeAnswer cl line inv => Sys2Proof.Machine.execProbeAnswer cl line inv s
  | .tileGranuleRequest cl line own => Sys2Proof.Machine.execTileGranuleRequest cl line own s
  | .lineGranuleWrite line => Sys2Proof.Machine.execLineGranuleWrite line s
  | .homeAtomic line => Sys2Proof.Machine.execHomeAtomic line s
  | .remoteWindowAccess cl => Sys2Proof.Machine.execRemoteWindowAccess cl s
  | .l2Fill line part elig => Sys2Proof.Machine.execL2Fill line part elig s
  | .cxlMemRead port line excl => Sys2Proof.Machine.execCxlMemRead port line excl s
  | .cxlMemWrite port pa data => Sys2Proof.Machine.execCxlMemWrite port pa data s
  | .birsp port line => Sys2Proof.Machine.execBirsp port line s
  | .biconflict port line excl => Sys2Proof.Machine.execBiconflict port line excl s
  | .snpinv port line => Sys2Proof.Machine.execSnpinv port line s
  | .snpdata port line => Sys2Proof.Machine.execSnpdata port line s
  | .snpcur port line => Sys2Proof.Machine.execSnpcur port line s
  | .hostTimeout sid line => Sys2Proof.Machine.execHostTimeout sid line s
  | .hostPostedWrite port pa data => Sys2Proof.Machine.execHostPostedWrite port pa data s
  | .powerGate cl => Sys2Proof.Machine.execPowerGate cl s
  | .packetAdmission src dst what cls len charge => Sys2Proof.Machine.execPacketAdmission src dst what cls len charge s
  | .flitArrival die net x y ports => Sys2Proof.Machine.execFlitArrival die net x y ports s
  | .resendRequest pkt => Sys2Proof.Machine.execResendRequest pkt s
  | .starvationMark pkt => Sys2Proof.Machine.execStarvationMark pkt s
  | .damperWindow => Sys2Proof.Machine.execDamperWindow s
  | .partialPacketTimeout ep pkt => Sys2Proof.Machine.execPartialPacketTimeout ep pkt s
  | .ackTimeout pkt => Sys2Proof.Machine.execAckTimeout pkt s
  | .sequenceGap link seq => Sys2Proof.Machine.execSequenceGap link seq s
  | .retrain link ok => Sys2Proof.Machine.execRetrain link ok s
  | .rclsWrite part c v => Sys2Proof.Machine.execRclsWrite part c v s
  | .ptrootWrite who v => Sys2Proof.Machine.execPtrootWrite who v s
  | .migcfgWrite tile v => Sys2Proof.Machine.execMigcfgWrite tile v s
  | .mgdAccess write v => Sys2Proof.Machine.execMgdAccess write v s
  | .load who => Sys2Proof.Machine.execLoad who s
  | .registerWrite agent off v => Sys2Proof.Machine.execRegisterWrite agent off v s
  | .sensorSample z s0 s1 => Sys2Proof.Machine.execSensorSample z s0 s1 s
  | .valveAdjust z v => Sys2Proof.Machine.execValveAdjust z v s
  | .flowLimitedLeave z => Sys2Proof.Machine.execFlowLimitedLeave z s
  | .close z => Sys2Proof.Machine.execClose z s
  | .purge z => Sys2Proof.Machine.execPurge z s
  | .verify z => Sys2Proof.Machine.execVerify z s
  | .verifyExpiry z => Sys2Proof.Machine.execVerifyExpiry z s
  | .restoreComplete z => Sys2Proof.Machine.execRestoreComplete z s
  | .catWrite agent z v => Sys2Proof.Machine.execCatWrite agent z v s
  | .fncWrite agent z => Sys2Proof.Machine.execFncWrite agent z s
  | .msemRead agent => Sys2Proof.Machine.execMsemRead agent s
  | .msemRelease agent => Sys2Proof.Machine.execMsemRelease agent s
  | .pmapWrite agent part v => Sys2Proof.Machine.execPmapWrite agent part v s
  | .leaseWrite agent part v => Sys2Proof.Machine.execLeaseWrite agent part v s
  | .renew port part => Sys2Proof.Machine.execRenew port part s
  | .leaseTick => Sys2Proof.Machine.execLeaseTick s
  | .leaseExpiry part => Sys2Proof.Machine.execLeaseExpiry part s
  | .hostLinkDown port hot => Sys2Proof.Machine.execHostLinkDown port hot s
  | .flr port part => Sys2Proof.Machine.execFlr port part s
  | .partitionResetScrub part => Sys2Proof.Machine.execPartitionResetScrub part s
  | .dieReset die => Sys2Proof.Machine.execDieReset die s
  | .drainack die link => Sys2Proof.Machine.execDrainack die link s
  | .drainTimeout die link => Sys2Proof.Machine.execDrainTimeout die link s
  | .pwrOk flash => Sys2Proof.Machine.execPwrOk flash s
  | .sysResetN => Sys2Proof.Machine.execSysResetN s
  | .stageB1 hold up0 up1 => Sys2Proof.Machine.execStageB1 hold up0 up1 s
  | .bstatHold => Sys2Proof.Machine.execBstatHold s
  | .stageB2 tables trained => Sys2Proof.Machine.execStageB2 tables trained s
  | .coolantPriming z => Sys2Proof.Machine.execCoolantPriming z s
  | .stageB3 ports expanders peers => Sys2Proof.Machine.execStageB3 ports expanders peers s
  | .getVersion port req => Sys2Proof.Machine.execGetVersion port req s
  | .getCapabilities port req => Sys2Proof.Machine.execGetCapabilities port req s
  | .negotiateAlgorithms port req => Sys2Proof.Machine.execNegotiateAlgorithms port req s
  | .getDigests port req => Sys2Proof.Machine.execGetDigests port req s
  | .getCertificate port req => Sys2Proof.Machine.execGetCertificate port req s
  | .challenge port req => Sys2Proof.Machine.execChallenge port req s
  | .getMeasurements port req => Sys2Proof.Machine.execGetMeasurements port req s
  | .partitionHalt part => Sys2Proof.Machine.execPartitionHalt part s
  | .partitionResume part => Sys2Proof.Machine.execPartitionResume part s
  | .scrubComplete part => Sys2Proof.Machine.execScrubComplete part s
  | .spill part => Sys2Proof.Machine.execSpill part s
  | .fill part => Sys2Proof.Machine.execFill part s
  | .vmaxxTimeout sid => Sys2Proof.Machine.execVmaxxTimeout sid s
  | .expanderBisnp line => Sys2Proof.Machine.execExpanderBisnp line s
  | .peerAccess pa write data => Sys2Proof.Machine.execPeerAccess pa write data s
  | .powerDown => Sys2Proof.Machine.execPowerDown s
  | .timeSlot table slot => Sys2Proof.Machine.execTimeSlot table slot s
  | .ucieFlitArrival link seq => Sys2Proof.Machine.execUcieFlitArrival link seq s

end Sys2Proof.Machine
end

