-- ==== Sys2Proof/Machine/Time.lean ====
section
/-! DEFINITION. Time between turns (log 2, log 48): what it may not pass over, and the order of a cluster's cores within a cycle (R98,
R19). -/

namespace Sys2Proof.Machine

/-- Whether a flit stands on the way to a router, which takes it in the cycle in which it is due. -/
def State.flitLive (s : State) (f : Flit) : Bool :=
  match s.net.pkt f.pkt with
  | some p => (s.routerPart (epDie p.ent) f.x f.y).isSome
  | none => false

/-- The cycle over which a packet whose flits are to enter holds time: its router's next one (R325, R331), and that in which its
endpoint raises the starvation mark (R333); none for a packet that waits for nothing. -/
def State.entryDue (s : State) (p : Pkt) : Option Nat :=
  let key := p.net * 1024 + epCluster p.ent
  if decide (p.leg = .mesh ∧ p.entered < p.len) && !(s.part p.part).stopped &&
      (s.routerPart (epDie p.ent) (epX p.ent) (epY p.ent)).isSome then
    some (if s.starves p then s.now else if s.ranNow.contains key then s.now + 1 else s.now)
  else none

/-- The cycle that a turn may reach: no flit is held over the cycle in which it is due, no packet over a cycle in which its next flit
may enter, and no damper window over its end (R325, R331 to R333). -/
def State.reach (s : State) (t : Nat) : Nat :=
  let a := s.net.flits.foldl (fun m f => if s.now ≤ f.due ∧ f.due < m ∧ s.flitLive f then f.due else m) t
  let b := s.net.pkts.foldl (fun m p => match s.entryDue p with | some d => min m d | none => m) a
  if s.damperIdle then b else min b (max s.now (s.net.window + 256))

/-- A core's place in its cluster: south-west, south-east, north-west, north-east (R98). -/
def placeOf (sid : Nat) : Nat := sid % 2 + 2 * (sid / 32 % 2)

/-- Whether an agent's turn in this cycle would come out of order: a deposit has landed in its slots (R19), it has moved already, or a
later place of its cluster has (R98). -/
def State.late (s : State) (sid : Nat) : Bool :=
  s.deposited.contains sid ||
  (!isSvc sid && s.moved.any fun c => decide (clusterOf c = clusterOf sid ∧ placeOf sid ≤ placeOf c))

/-- Time passes, and the free values of the turn are fresh ones (log 7). -/
def State.tick (s : State) (dt : Nat) : State :=
  let t := s.reach (s.now + dt)
  { s with
    now := t
    moved := if t = s.now then s.moved else []
    deposited := if t = s.now then s.deposited else []
    freeCtr := s.freeCtr + 65536 }

/-- Time for an agent's turn: the accesses of a cluster in one cycle come in the order of its cores' places, so that a core out of that
order moves in the next cycle (R98; log 2); none while what is due in this cycle holds time. -/
def State.tickCore (s : State) (dt sid : Nat) : Option State :=
  let a := s.tick dt
  let t := if dt = 0 ∧ s.late sid then s.tick 1 else a
  if t.now = s.now ∧ s.late sid then none
  else some { t with moved := if isSvc sid then t.moved else t.moved ++ [sid] }

/-- The agent of an access to the management space: a port, or 2 for the management service core (R383, R385). -/
def mgmtWho : Instr → Option Nat
  | .msemRead a | .msemRelease a | .pmapWrite a _ _ | .leaseWrite a _ _ | .catWrite a _ _ | .fncWrite a _ => some a
  | .registerWrite a off _ => if off < 1048576 then some a else none
  | .ptrootWrite who _ | .load who => some (who / 128)
  | .mgdAccess _ _ => some 2
  | _ => none

/-- The turn that the agenda's first turn stands for: of two accesses to the management space in one cycle, that of the agent which did
not win the previous tie comes first (R385; log 86). -/
def State.settleTie (s : State) (t : Turn) (rest : List Turn) : State × Turn :=
  let lost := fun (n : Nat) (l : List Turn) => ({ s with agenda := l, sluice := { s.sluice with msemLost := some n } } : State)
  match t.mover, rest with
  | .event e, ⟨0, .event f⟩ :: more =>
    (match mgmtWho e, mgmtWho f with
     | some a, some b =>
       if a = b then ({ s with agenda := rest }, t)
       else if s.sluice.msemLost = some b then (lost a (⟨0, .event e⟩ :: more), ⟨t.dt, .event f⟩)
       else (lost b rest, t)
     | _, _ => ({ s with agenda := rest }, t))
  | _, _ => ({ s with agenda := rest }, t)

end Sys2Proof.Machine
end

