-- ==== Sys2Proof/Machine/Step.lean ====
section
/-! DEFINITION. One turn of the package: the agenda names what moves (log 2); a core with a running activation fetches,
decodes and executes one instruction (R29, R42), an idle core selects (R275). -/

namespace Sys2Proof.Machine

/-- The site of words that are no instruction: the last word fetched, at the program counter. -/
def State.wordSite (s : State) (ws : List Half) : Site := ⟨ws.getLastD 0, 0, s.core.pc⟩

/-- What a fetch that stopped leads to: a fault, which holds the base word if that has been read (R398), or a wait for hosts
(R253). -/
def State.fetchStopped (s : State) (base : Half) : Stop → Out
  | .trap t => .next (s.takeFault ⟨base, 0, s.core.pc⟩ t)
  | .recall line inv => s.awaitHost (line, inv)
  | _ => .next s

/-- Fetch, decode and execute at the program counter of the core in focus. -/
def State.fetchRun (s : State) : Out :=
  match s.fetch with
  | (s1, .error e) => s1.fetchStopped s.baseAt e
  | (s1, .ok ws) =>
    match decode ws with
    | .error e => .next (s1.takeFault (s1.wordSite ws) (decodeTrap e s1.core.pc.toNat))
    | .ok (i, _) => exec i s1

/-- A core's turn. -/
def State.coreTurn (s : State) : Out :=
  if !s.dieRuns (dieOf s.focus) then .fault .inReset
  else
    match s.core.act with
    | none => exec .selection s
    | some _ => s.atBoundary State.fetchRun

/-- One turn. -/
def step (s : State) : Host.Outcome State Fault Refusal :=
  match s.agenda with
  | [] => match s.tickCore 1 s.focus with
    | some t => t.coreTurn
    | none => .refused (.notEnabled "CORE_TURN")
  | t0 :: rest =>
    let (s0, t) := s.settleTie t0 rest
    match t.mover with
    | .core sid => match s0.tickCore t.dt sid with
      | some u => (u.focusOn sid).coreTurn
      | none => .refused (.notEnabled "CORE_TURN")
    | .event e => exec e (s0.tick t.dt)
    | .expiry p => execLeaseExpiry p (s0.tick t.dt)

/-! ### Placing an instruction where the next turn fetches it (log 5) -/

/-- A page-table pointer entry to a physical page. -/
def tablePtr (pa : Nat) : Nat := pa + 1

/-- A leaf with every permission to a physical page: V, LEAF, R, W, X, U, OWN. -/
def tableLeaf (pa : Nat) : Nat := pa + 0x0040_0000_0000_03C3

/-- Page tables for virtual page 1 at physical 0x11000 to 0x14000, mapping it to physical 0x10000. -/
def placeTables (m : Memory) : Memory :=
  (((m.writeLE 0x11000 8 (tablePtr 0x12000)).writeLE 0x12000 8 (tablePtr 0x13000)).writeLE 0x13000 8
    (tablePtr 0x14000)).writeLE 0x14008 8 (tableLeaf 0x10000)

/-- Words at a physical address, little-endian. -/
def placeWords (m : Memory) (a : Nat) : List Half → Memory
  | [] => m
  | w :: t => placeWords (m.writeLE a 2 w.toNat) (a + 2) t

/-- The partition's entry with the placed tables as its root. -/
def placePart (p : Part) : Part := { p with ptroot := 0x11001 }

/-- The core in focus with an activation at virtual address 0x1000 of a program of one page. -/
def placeCore (c : Core) : Core :=
  { c with
    act := some (c.act.getD 1)
    pc := 0x1000
    itlb := []
    icache := []
    ctl := { c.ctl with scode := 0x0001000000001000 }
    seat := some { c.seat.getD ⟨1, 0, 0, 0, 0, 0, 0, 0, 0, 0⟩ with code := 0x1000, clen := 1 } }

/-- A line of the placed code or page tables. -/
def placedLine (l : Nat) : Bool := decide (512 ≤ l ∧ l < 680)

/-- The state with an instruction where the next turn fetches it (log 5): the package runs, the core in focus moves next,
runs an activation, and its code page holds the words, with zeros up to the longest instruction. -/
def State.withFetchWord (s : State) (nbits w : Nat) : State :=
  let ws := tableWords nbits w ++ List.replicate 4 0
  let place := fun m => placeWords (placeTables m) 0x10000 ws
  let s1 := s.setPart (s.partOf s.focus) (placePart (s.part (s.partOf s.focus)))
  { s1 with
    stage := .b3
    agenda := []
    core := placeCore s.core
    mem := place s.mem
    home := place s.home
    stlb := []
    wcache := []
    poison := s.poison.filter (fun l => !placedLine l.1)
    dir := s.dir.filter (fun l => !placedLine l.1)
    snoops := s.snoops.filter (fun x => !placedLine x.line)
    sluice := { s.sluice with
      dieReset := dropAt s.sluice.dieReset (dieOf s.focus), primes := dropAt s.sluice.primes (dieOf s.focus) } }

end Sys2Proof.Machine
end

