-- ==== Sys2Proof/Safety.lean ====
section
/-! DEFINITION. What counts as a safe run: a run that neither stops nor is refused; and the terms in which statements say
where an instruction completes and what state it leaves. -/

namespace Sys2Proof

/-- The next state of a turn. -/
def Steps (s t : Machine.State) : Prop := Machine.step s = .next t

/-- A state reached by turns. -/
inductive Reaches : Machine.State → Machine.State → Prop where
  | refl (s : Machine.State) : Reaches s s
  | step {s t u : Machine.State} : Reaches s t → Steps t u → Reaches s u

/-- A property every turn keeps. -/
def Preserved (p : Machine.State → Prop) : Prop := ∀ s t, p s → Steps s t → p t

end Sys2Proof

namespace Sys2Proof.Claims

open Sys2Proof.Machine

/-- The state at which an instruction starts: due results landed (R45), the instruction limit and, for a commit point, the
instruction's own commit done (R48). -/
def base (i : Instr) (s : State) : State := if commits i then s.boundary.commit else s.boundary

/-- The state its body works on: one window instruction counted where it is no commit point (R45). -/
def work (i : Instr) (s : State) : State := if commits i then s.boundary.commit else s.boundary.tickLong

/-- The state after an instruction whose body leaves `t`: retired, and closed by a commit behind a commit point (log 10). -/
def done (i : Instr) (s t : State) : State :=
  if commits i then (t.retire (base i s) i.bytes).close else t.retire (base i s) i.bytes

/-- Nothing that comes before the instruction waits for hosts to answer a Back-Invalidate (R253): neither the commit of the boundary,
where one is due, nor that of a commit point, nor a line operation of the core that the instruction must follow (R215, R220). -/
def Unhindered (i : Instr) (s : State) : Prop :=
  (s.landDue.boundaryDue = true → s.landDue.commitBlock = none) ∧ (commits i = true → s.boundary.commitBlock = none) ∧
  (afterLines i = true → s.boundary.hostBlock s.boundary.ownStops = none)

/-- No FENCE and no acquiring atomic of the region holds later loads and stores until its buffered accesses have been performed (R170,
R171). -/
def Unheld (s : State) : Prop := heldBy false s.core.buf = false ∧ heldBy true s.core.buf = false

/-- The instruction has words, none of the decode faults of R43 holds of it in this state, and no host keeps it waiting. -/
def Clean (i : Instr) (s : State) : Prop :=
  Unhindered i s ∧ ∃ p a, i.parts = some p ∧ attrsOf i = some a ∧ s.boundary.contextFault p a = none

/-- The fault a body raises with `t` (R396): the region is discarded from the state at which the instruction starts. -/
def faulted (i : Instr) (s : State) (t : Trap) : State :=
  match i.parts with
  | some p => (base i s).takeFault ((base i s).site p) t
  | none => s

/-- The fault a body raises without an address or operand to report. -/
def opnd (cause detail : BitVec 8) (m1 : Word) : Trap := ⟨cause, detail, none, m1, 0, 0⟩

end Sys2Proof.Claims
end

