-- ==== Sys2Proof/Certificates/Slice0/Obligations.lean ====
section
/-! DEFINITION. The statements for the provers. A completion statement names the state the body of an instruction works on
(`work`), gives the state `t` the body leaves by the spec's words, and concludes that `exec` answers `done i s t`: the
instruction retired, and committed where it is a commit point. -/

open Sys2Proof Sys2Proof.Machine Sys2Proof.Claims

/-! ### Encoding, fetching and the step -/

/-- R29 to R35: decoding the words of a well-formed instruction gives it back, whatever words follow. -/
def Obligations.DecodeEncode : Prop :=
  ∀ (i : Instr) (rest : List Half), i.wf = true → i.isEvent = false → decode (encode i ++ rest) = .ok (i, rest)

/-- What decoding accepts is a well-formed instruction whose words are the ones read: no two words mean one instruction. -/
def Obligations.EncodeDecode : Prop :=
  ∀ (ws rest : List Half) (i : Instr), decode ws = .ok (i, rest) →
    i.wf = true ∧ i.isEvent = false ∧ ws = encode i ++ rest

/-- Words written out from the encodings of the spec (R29, R31, R37, R63, R102 to R105, R113, R117, R148, R200, R210,
R214, R297, R300, R315, R318), one or more a family, decode to the instruction they stand for. -/
def Obligations.DecodeWords : Prop :=
  decode [0x0100] = .ok (.nop [], []) ∧
  decode [0x0030] = .ok (.trap [] 0x30, []) ∧
  decode [0xF4A0, 0x1242] = .ok (.add [.dst 10 0] 9, []) ∧
  decode [0x4C38] = .ok (.spres [] 0x38, []) ∧
  decode [0x4D69] = .ok (.sclr [] 0x69, []) ∧
  decode [0x4A0D] = .ok (.mfc [] 0x0D, []) ∧
  decode [0x9802] = .ok (.brl [] 2, []) ∧
  decode [0xB804] = .ok (.rep [] 0x04, []) ∧
  decode [0xB901] = .ok (.cmask [] 0x01, []) ∧
  decode [0xD340, 0x0000] = .ok (.trig [] 0 ⟨0, 0, 0, 0⟩, []) ∧
  decode [0xD130, 0x0000] = .ok (.mxcfg [] 0x30 ⟨0, 0, 0, 0⟩, []) ∧
  decode [0xD3C0, 0x0005] = .ok (.svc [] 0 ⟨0, 0, 0, 5⟩, []) ∧
  decode [0x0000] = .error .zero ∧
  decode [0xFC12] = .error (.prefixKind 0xFC12)

/-- The halfwords of code from an address, as fetching reads them one after another: each read may move the translation
caches on. -/
def Sys2Proof.Claims.codeAt : State → Nat → List Half → State → Prop
  | s, _, [], t => s = t
  | s, a, w :: ws, t => ∃ u, (∀ r, s.fetchHalf a r = (u, .ok w)) ∧ Claims.codeAt u (a + 2) ws t

/-- R29, R35, R42, R374, R415: where the code at an even program counter is the words of a well-formed instruction, fetching reads
exactly those words and stops. A code halfword is the two bytes of its physical address, the lower one first, or those that a line
of the instruction cache still holds of the address; outside the code region it raises RUNOFF, at a window address ADDR, and
poisoned, or to be read from a poisoned L2 copy (R248), POISON detail 0x02. An odd program counter raises ALIGN detail 0x03.
Model's choices: log 3, log 56, log 57.
Model's choices: log 3. -/
def Obligations.FetchReadsInstruction : Prop :=
  (∀ (s t : State) (i : Instr), i.wf = true → i.isEvent = false → s.core.pc.getLsbD 0 = false →
    codeAt s s.core.pc.toNat (encode i) t → s.fetch = (t, .ok (encode i))) ∧
  (∀ s : State, s.core.pc.getLsbD 0 = true → s.fetch = (s, .error (.trap ⟨0x06, 0x03, some 0, s.core.pc, 0, 0⟩))) ∧
  ∀ (s u : State) (a : Nat) (r : Half) (x : Phys),
    let found := s.inCode a = true ∧ inWindows a = false ∧ s.translate s.focus a .exec = (u, .ok x) ∧
      u.hostBlock [(x.pa / 128, false)] = none
    let word : Half := u.mem.read (x.pa + 1) ++ u.mem.read x.pa
    (s.inCode a = false → s.fetchHalf a r = (s, .error (.trap ⟨0x05, 0x00, some r, BitVec.ofNat 64 a, 0, 0⟩))) ∧
    (s.inCode a = true → inWindows a = true →
      s.fetchHalf a r = (s, .error (.trap ⟨0x0A, 0x00, some 0, BitVec.ofNat 64 a, 0, 0⟩))) ∧
    (found → u.poisoned x.pa 2 = true ∨ u.sourAt none (x.pa / 128) = true → s.fetchHalf a r = (u, .error (.trap ⟨0x11, 0x02, some 0, BitVec.ofNat 64 a, 0, 0⟩))) ∧
    (found → u.poisoned x.pa 2 = false → u.sourAt none (x.pa / 128) = false →
      ∃ v w, s.fetchHalf a r = (v, .ok w) ∧
        { v with freeCtr := u.freeCtr, core := { v.core with icache := u.core.icache } } = u ∧
        (w = word ∨ ∃ l, u.cachedCode a = some l ∧ w = l.data.extractLsb' (8 * (a % 128)) 16) ∧
        ((∀ l, u.cachedCode a = some l → l.data.extractLsb' (8 * (a % 128)) 16 = word) → w = word))

/-- A core's turn runs the instruction its fetched words decode to, selects where no activation runs (R275), stops where the
die is in reset, and takes the fault of the fetch or of words that are no instruction (R42, R43 orders 1 to 5). A step is the
turn of the core in focus, or what the next turn of the agenda names (log 2), after the access to the management space of the agent
that did not win the last tie, where another's comes first in the same cycle (R385); the cores of a cluster that move in one cycle do
so in the order of their places, south-west, south-east, north-west, north-east (R98), and before the deposits that land in their
slots in that cycle (R19). A core out of that order moves in the next cycle, and in none that what is due now holds back (R325).
Model's choices: log 2, log 86.
Model's choices: log 2. -/
def Obligations.StepRunsDecoded : Prop :=
  ∀ (s s1 : State) (i e : Instr) (ws rest : List Half) (d sid pt : Nat) (q : List Turn) (f : Trap) (x : DecodeError) (l : Nat)
    (inv : Bool) (a b : Nat) (e' : Instr),
    let later : State := { s with agenda := q }
    let tied : Nat → List Turn → State := fun n l => { s with agenda := l, sluice := { s.sluice with msemLost := some n } }
    let place : Nat → Nat := fun c => c % 2 + 2 * (c / 32 % 2)
    let runs := s.dieRuns (dieOf s.focus) = true ∧ s.core.act ≠ none ∧
      (s.landDue.boundaryDue = true → s.landDue.commitBlock = none)
    (runs → s.boundary.fetch = (s1, .ok ws) → decode ws = .ok (i, rest) → s.coreTurn = exec i s1) ∧
    (s.dieRuns (dieOf s.focus) = true → s.core.act = none → s.coreTurn = exec .selection s) ∧
    (s.dieRuns (dieOf s.focus) = false → s.coreTurn = .fault .inReset) ∧
    (runs → s.boundary.fetch = (s1, .error (.trap f)) → s.coreTurn = .next (s1.takeFault ⟨s.boundary.baseAt, 0, s1.core.pc⟩ f)) ∧
    (runs → s.boundary.fetch = (s1, .error (.recall l inv)) →
      s.coreTurn = .next (s1.startSnoop l inv (.core s1.focus))) ∧
    (runs → s.boundary.fetch = (s1, .ok ws) → decode ws = .error x →
      s.coreTurn = .next (s1.takeFault ⟨ws.getLastD 0, 0, s1.core.pc⟩
        (match x with
         | .truncated => ⟨0x05, 0x00, some 2, s1.core.pc, 0, 0⟩
         | .zero => ⟨0x04, 0x00, some 0, 0, 0, 0⟩
         | .fifthPrefix w => ⟨0x02, 0x01, some w, 0, 0, 0⟩
         | .prefixKind w => ⟨0x01, 0x04, some w, 0, 0, 0⟩
         | .unassigned w => ⟨0x01, 0x01, some w, 0, 0, 0⟩))) ∧
    (∀ t, s.agenda = [] → s.tickCore 1 s.focus = some t → step s = t.coreTurn) ∧
    (∀ t, s.agenda = ⟨d, .core sid⟩ :: q → later.tickCore d sid = some t → step s = (t.focusOn sid).coreTurn) ∧
    (s.agenda = ⟨d, .event e⟩ :: q → (∀ g r, q = ⟨0, .event g⟩ :: r → mgmtWho e = none ∨ mgmtWho g = none ∨ mgmtWho e = mgmtWho g) →
      step s = exec e (later.tick d)) ∧
    (∀ r, s.agenda = ⟨d, .event e⟩ :: q → q = ⟨0, .event e'⟩ :: r → mgmtWho e = some a → mgmtWho e' = some b → a ≠ b →
      step s = if s.sluice.msemLost = some b then exec e' ((tied a (⟨0, .event e⟩ :: r)).tick d) else exec e ((tied b q).tick d)) ∧
    (s.agenda = ⟨d, .expiry pt⟩ :: q → step s = execLeaseExpiry pt (later.tick d)) ∧
    (s.net.flits = [] → s.net.pkts = [] → (∀ x ∈ s.clusters, x.2.damp = 0 ∧ x.2.routed = 0) → s.tick d =
      { s with
        now := s.now + d
        moved := if d = 0 then s.moved else []
        deposited := if d = 0 then s.deposited else []
        freeCtr := s.freeCtr + 65536 }) ∧
    (s.late sid = true ↔ sid ∈ s.deposited ∨
      isSvc sid = false ∧ ∃ c ∈ s.moved, clusterOf c = clusterOf sid ∧ place sid ≤ place c) ∧
    (let t := s.tick (if d = 0 ∧ s.late sid = true then 1 else d)
     s.tickCore d sid = if t.now = s.now ∧ s.late sid = true then none
       else some { t with moved := t.moved ++ if isSvc sid then [] else [sid] }) ∧
    (∀ r, s.agenda = ⟨d, .core sid⟩ :: r → ({ s with agenda := r } : State).tickCore d sid = none →
      step s = .refused (.notEnabled "CORE_TURN"))

/-! ### Operands, pointers and local memory -/

/-- R32, R33, R50, R54, R413: what each operand specifier reads. A slot, renamed in a repetition body; the little-endian bytes of
working scratchpad or of a service core's local store at an aligned pointer address, extended as W asks, POISON where one of them
is poisoned; the immediate; a mask register; A. A pending FENCE or acquire makes such a load wait for the region's commit (R171). -/
def Sys2Proof.Claims.operandRead : Prop :=
  ∀ (s : State) (c : OpCtx) (sp : BitVec 6) (n : BitVec 5) (p : BitVec 3) (k : BitVec 2) (x : Bool),
    let ea := ((s.core.r.ptr p).extractLsb' 0 24 + BitVec.ofInt 24 c.disp).toNat
    (s.core.rep.act = false → s.readOp c (0#1 ++ n) = .ok (s.core.r.m[n.toNat]'n.isLt)) ∧
    (s.core.rep.act = true → s.readOp c (0#1 ++ n) =
      .ok (s.core.r.slot (BitVec.ofNat 5 ((n.toNat + s.core.rep.iter.toNat * s.core.rep.str.toNat) % 32)))) ∧
    (s.svc = false → ea % c.n = 0 → s.localKind s.focus ea = .work → heldBy false s.core.buf = false →
      s.readOp c ((0b10#2 ++ p) ++ BitVec.ofBool x) =
        if s.storeBad (clusterOf s.focus * 16777216 + ea) c.n then .error (.trap (opnd 0x11 0x01 (BitVec.ofNat 64 ea)))
        else .ok (extendBytes c.n c.sx (s.spad.readLE (clusterOf s.focus * 16777216 + ea) c.n))) ∧
    (s.svc = true → ea % c.n = 0 → s.localKind s.focus ea = .work → heldBy false s.core.buf = false →
      s.readOp c ((0b10#2 ++ p) ++ BitVec.ofBool x) =
        .ok (extendBytes c.n c.sx (s.lstore.readLE (tileOf s.focus * 16777216 + ea) c.n))) ∧
    (s.localKind s.focus ea = .work → ea % c.n = 0 → heldBy false s.core.buf = true →
      s.readOp c ((0b10#2 ++ p) ++ BitVec.ofBool x) = .error .commitFirst) ∧
    (s.readOp c (0b110#3 ++ p) = .ok c.imm) ∧
    (s.readOp c (0b1110#4 ++ k) = .ok (s.core.r.k[k.toNat]'k.isLt)) ∧
    (s.readOp c 0b111100#6 = .ok s.core.r.a)

/-- R33, R22, R265: a pointer operand whose address is not a multiple of its width raises ALIGN detail 0; an aligned one
outside the agent's local space raises ADDR detail 0, one in the channel queues ADDR detail 2. M1 is the address. -/
def Sys2Proof.Claims.operandAddressFaults : Prop :=
  ∀ (s : State) (c : OpCtx) (p : BitVec 3) (x : Bool) (v : Word),
    let ea := ((s.core.r.ptr p).extractLsb' 0 24 + BitVec.ofInt 24 c.disp).toNat
    let sp := (0b10#2 ++ p) ++ BitVec.ofBool x
    (ea % c.n ≠ 0 → s.readOp c sp = .error (.trap (opnd 0x06 0x00 (BitVec.ofNat 64 ea))) ∧
      s.writeOp c sp v = .error (.trap (opnd 0x06 0x00 (BitVec.ofNat 64 ea)))) ∧
    (ea % c.n = 0 → s.localKind s.focus ea = .none →
      s.readOp c sp = .error (.trap (opnd 0x0A 0x00 (BitVec.ofNat 64 ea))) ∧
      s.writeOp c sp v = .error (.trap (opnd 0x0A 0x00 (BitVec.ofNat 64 ea)))) ∧
    (ea % c.n = 0 → s.localKind s.focus ea = .queue →
      s.readOp c sp = .error (.trap (opnd 0x0A 0x02 (BitVec.ofNat 64 ea))) ∧
      s.writeOp c sp v = .error (.trap (opnd 0x0A 0x02 (BitVec.ofNat 64 ea))))

/-- What an operand specifier reads, and the address faults of a pointer operand: `operandRead` and `operandAddressFaults`. -/
def Obligations.OperandReads : Prop := operandRead ∧ operandAddressFaults


/-- R18, R32, R50, R54: what writing through a specifier changes. A slot below 24 takes the value and its presence bit; a receive
slot also records its old value and presence before its first local write of the region; a mask register, A. In a repetition body
the slot is the one that the slot stride gives the iteration. Nothing else of the state changes. -/
def Sys2Proof.Claims.operandWriteRegister : Prop :=
  ∀ (s : State) (c : OpCtx) (v : Word) (m : BitVec 5) (k : BitVec 2),
    let n : BitVec 5 := if s.core.rep.act then
      BitVec.ofNat 5 ((m.toNat + s.core.rep.iter.toNat * s.core.rep.str.toNat) % 32) else m
    let put := { s.core.r with m := s.core.r.m.set n.toNat v n.isLt, pres := s.core.r.pres ||| (1#32 <<< n.toNat) }
    (n.toNat < 24 → s.writeOp c (0#1 ++ m) v = .ok { s with core := { s.core with r := put } }) ∧
    (24 ≤ n.toNat → (∀ e ∈ s.core.rsave, e.n ≠ n) → s.core.persUsed < 512 →
      s.writeOp c (0#1 ++ m) v = .ok { s with core := { s.core with
        r := put
        rsave := s.core.rsave ++ [⟨n, s.core.r.m[n.toNat]'n.isLt, s.core.r.pres.getLsbD n.toNat⟩] } }) ∧
    (24 ≤ n.toNat → (∃ e ∈ s.core.rsave, e.n = n) →
      s.writeOp c (0#1 ++ m) v = .ok { s with core := { s.core with r := put } }) ∧
    (s.writeOp c (0b1110#4 ++ k) v = .ok (s.setMask k v)) ∧
    (s.writeOp c 0b111100#6 v = .ok (s.setA v))

/-- R28, R54, R97: a write of 1, 2, 4, 8 or 16 bytes through a pointer. To working scratchpad, or a service core's local store, it stores the low bytes of the value
at the address, and changes no other byte and nothing else of the state. To a persistent region it is buffered: where the
region buffer holds no entry of its 16-byte block and has room, it takes one new entry that marks both nibbles of each byte
written, and no memory changes. Poison of the bytes written is lifted. A pending FENCE makes a write of working memory wait for the
region's commit (R171). -/
def Sys2Proof.Claims.operandWriteMemory : Prop :=
  ∀ (s : State) (c : OpCtx) (p : BitVec 3) (x : Bool) (v : Word), c.n ∈ [1, 2, 4, 8, 16] →
    let ea := ((s.core.r.ptr p).extractLsb' 0 24 + BitVec.ofInt 24 c.disp).toNat
    let a := clusterOf s.focus * 16777216 + ea
    let l := tileOf s.focus * 16777216 + ea
    ea % c.n = 0 →
    (s.svc = true → s.localKind s.focus ea = .work → s.lstore.wf = true → heldBy true s.core.buf = false →
      ∃ t, s.writeOp c ((0b10#2 ++ p) ++ BitVec.ofBool x) v = .ok t ∧ { t with lstore := s.lstore } = s ∧ t.lstore.wf = true ∧
        ∀ b, t.lstore.read b = if l ≤ b ∧ b < l + c.n then BitVec.ofNat 8 (v.toNat / 256 ^ (b - l)) else s.lstore.read b) ∧
    (s.localKind s.focus ea = .work → heldBy true s.core.buf = true →
      s.writeOp c ((0b10#2 ++ p) ++ BitVec.ofBool x) v = .error .commitFirst) ∧
    (s.svc = false → s.localKind s.focus ea = .work → s.spad.wf = true → heldBy true s.core.buf = false →
      ∃ t, s.writeOp c ((0b10#2 ++ p) ++ BitVec.ofBool x) v = .ok t ∧
        { t with spad := s.spad, badStore := s.badStore } = s ∧ t.spad.wf = true ∧
        (∀ b, t.storeBad b 1 = (s.storeBad b 1 && !decide (a ≤ b ∧ b < a + c.n))) ∧
        ∀ b, t.spad.read b = if a ≤ b ∧ b < a + c.n then BitVec.ofNat 8 (v.toNat / 256 ^ (b - a)) else s.spad.read b) ∧
    (s.svc = false → s.localKind s.focus ea = .pers → s.core.persUsed < 512 →
      (∀ b k, BufEntry.pers b k ∈ s.core.buf → b ≠ BitVec.ofNat 24 (ea / 16 * 16)) →
      ∃ d : BitVec 128, d.toNat / 256 ^ (ea % 16) % 256 ^ c.n = v.toNat % 256 ^ c.n ∧
        s.writeOp c ((0b10#2 ++ p) ++ BitVec.ofBool x) v = .ok { s with core := { s.core with
          buf := s.core.buf ++ [.pers (BitVec.ofNat 24 (ea / 16 * 16)) (.bytes
            (BitVec.ofNat 32 ((4 ^ c.n - 1) * 4 ^ (ea % 16))) d)] } })

/-- What writing through an operand specifier changes, in registers and in memory: `operandWriteRegister` and `operandWriteMemory`. -/
def Obligations.OperandWrites : Prop := operandWriteRegister ∧ operandWriteMemory


/-- R23: reads of the register window. An aligned doubleword at each offset reads its register, and 64 bytes a vector register for a
vector operand; a reserved offset raises ADDR, a doubleword that is not aligned ALIGN. -/
def Sys2Proof.Claims.windowReads : Prop :=
  ∀ (s : State) (i : Nat),
    let rd := fun off => s.loadLocal (0xFFF000 + off) 8 .scalar
    rd 0 = .ok s.core.r.a.toNat ∧ rd 8 = .ok s.core.r.flg.toNat ∧ rd 16 = .ok s.core.r.pres.toNat ∧
    (∀ h : i < 8, rd (0x40 + 8 * i) = .ok (s.core.r.p[i]'h).toNat) ∧
    (∀ h : i < 4, rd (0x80 + 8 * i) = .ok (s.core.r.k[i]'h).toNat) ∧
    (∀ h : i < 32, rd (0x100 + 8 * i) = .ok (s.core.r.m[i]'h).toNat) ∧
    (∀ h : i < 32, rd (0x200 + 8 * i) =
      .ok ((s.core.r.va[i / 8]'(by omega)).extractLsb' (64 * (i % 8)) 64).toNat) ∧
    (3 ≤ i → i < 8 ∨ 20 ≤ i ∧ i < 32 ∨ 96 ≤ i ∧ i < 128 →
      rd (8 * i) = .error (.trap (opnd 0x0A 0x00 (BitVec.ofNat 64 (0xFFF000 + 8 * i))))) ∧
    (∀ h : i < 4, s.loadLocal (0xFFF200 + 64 * i) 64 .vec = .ok (s.core.r.va[i]'h).toNat) ∧
    (i < 1024 → i % 8 ≠ 0 → rd i = .error (.trap (opnd 0x06 0x00 (BitVec.ofNat 64 (0xFFF000 + i)))))

/-- R7, R18, R20, R23: writes of the register window. An aligned doubleword written at each offset changes its register and nothing
else: A; FLG but for its reserved bits and a reserved RM; the presence bits, each that changes as a local write of its slot; a pointer;
a mask register; a slot, with its presence bit and, for a receive slot, its record; a doubleword of a vector register. A reserved
offset raises ADDR, a doubleword that is not aligned ALIGN. -/
def Sys2Proof.Claims.windowWrites : Prop :=
  ∀ (s : State) (i : Nat) (v : Word),
    let wr := fun off => s.storeLocal (0xFFF000 + off) 8 v.toNat .scalar
    let regs := fun (r : Regs) => (.ok { s with core := { s.core with r := r } } : Except Stop State)
    let bit := fun (r : BitVec 32) (n : Nat) => r.getLsbD n
    wr 0 = regs { s.core.r with a := v } ∧
    wr 8 = regs { s.core.r with flg := (((0#48 ++ v.extractLsb' 15 1) ++
      (if 5 ≤ (v.extractLsb' 12 3).toNat then s.core.r.flg.extractLsb' 12 3 else v.extractLsb' 12 3)) ++ 0#3) ++ v.extractLsb' 0 9 } ∧
    (s.core.persUsed + 8 ≤ 512 → ∃ t, wr 16 = .ok t ∧
      { t with core := { t.core with r := { t.core.r with pres := s.core.r.pres }, rsave := s.core.rsave } } = s ∧
      (∀ n < 32, bit t.core.r.pres n = v.getLsbD n) ∧ (∀ e ∈ s.core.rsave, e ∈ t.core.rsave) ∧
      ∀ n : BitVec 5, 24 ≤ n.toNat → (∀ e ∈ s.core.rsave, e.n ≠ n) → bit s.core.r.pres n.toNat ≠ v.getLsbD n.toNat →
        (⟨n, s.core.r.slot n, bit s.core.r.pres n.toNat⟩ : SlotSave) ∈ t.core.rsave) ∧
    (∀ h : i < 8, wr (0x40 + 8 * i) = regs { s.core.r with p := s.core.r.p.set i v h }) ∧
    (∀ h : i < 4, wr (0x80 + 8 * i) = regs { s.core.r with k := s.core.r.k.set i v h }) ∧
    (∀ h : i < 32,
      let put : Regs := { s.core.r with m := s.core.r.m.set i v h, pres := s.core.r.pres ||| (1#32 <<< i) }
      (i < 24 ∨ (∃ e ∈ s.core.rsave, e.n.toNat = i) → wr (0x100 + 8 * i) = regs put) ∧
      (24 ≤ i → (∀ e ∈ s.core.rsave, e.n.toNat ≠ i) → s.core.persUsed < 512 →
        wr (0x100 + 8 * i) = .ok { s with core := { s.core with
          r := put, rsave := s.core.rsave ++ [⟨BitVec.ofNat 5 i, s.core.r.m[i]'h, bit s.core.r.pres i⟩] } })) ∧
    (∀ h : i < 32, ∃ x : Vec, wr (0x200 + 8 * i) = regs { s.core.r with va := s.core.r.va.set (i / 8) x (by omega) } ∧
      ∀ j < 8, x.extractLsb' (64 * j) 64 = if j = i % 8 then v else (s.core.r.va[i / 8]'(by omega)).extractLsb' (64 * j) 64) ∧
    (3 ≤ i → i < 8 ∨ 20 ≤ i ∧ i < 32 ∨ 96 ≤ i ∧ i < 128 →
      wr (8 * i) = .error (.trap (opnd 0x0A 0x00 (BitVec.ofNat 64 (0xFFF000 + 8 * i))))) ∧
    (i < 1024 → i % 8 ≠ 0 → wr i = .error (.trap (opnd 0x06 0x00 (BitVec.ofNat 64 (0xFFF000 + i)))))

/-- The register window read and written: `windowReads` and `windowWrites`.
Model's choices: log 16. -/
def Obligations.RegisterWindow : Prop := windowReads ∧ windowWrites

/-- R22, R120, R121, R221: the engine status block. Aligned doubleword loads give MXSTAT, MXCNF, MXSF, the step counts, the masks and
the stream buffers' status; a reserved offset reads 0, a narrower aligned load gives its bytes of the doubleword; a load of 16 bytes
raises ALIGN, a store ADDR. (A service core's block reads as that of engines that have done nothing.)
Model's choices: log 58, log 59. -/
def Obligations.StatusBlock : Prop :=
  ∀ (s : State) (off n i : Nat) (v : Word),
    let rd := fun off n => s.loadLocal (0xFFF400 + off) n .scalar
    let m := s.core.mx
    (∃ w : Word, rd 0 8 = .ok w.toNat ∧
      w.extractLsb' 0 2 = BitVec.ofNat 2 m.queue.length ∧ w.extractLsb' 24 40 = 0 ∧
      (m.run = none → w.extractLsb' 2 22 = 0) ∧
      ∀ r, m.run = some r →
        w.extractLsb' 8 16 = (dw r.cmd.dws 0).extractLsb' 48 16 ∧ w.getLsbD 7 = r.cmd.st ∧
        w.extractLsb' 5 2 = (dw r.cmd.dws 0).extractLsb' 34 2 ∧ w.getLsbD 4 = (r.forming || s.gangWait) ∧
        w.getLsbD 3 = r.susp ∧ w.getLsbD 2 = true) ∧
    rd 8 8 = .ok m.cfg.toNat ∧ rd 0x10 8 = .ok (m.sf.toNat * 16) ∧ rd 0x38 8 = .ok 0 ∧
    (∀ h : i < 4, rd (0x18 + 8 * i) 8 = .ok (m.steps[i]'h).toNat) ∧
    (∀ h : i < 4, rd (0x40 + 32 * i) 8 = .ok ((m.row[i]'h).extractLsb' 0 64).toNat ∧
      rd (0x48 + 32 * i) 8 = .ok ((m.row[i]'h).extractLsb' 64 64).toNat ∧
      rd (0x50 + 32 * i) 8 = .ok ((m.col[i]'h).extractLsb' 0 64).toNat ∧
      rd (0x58 + 32 * i) 8 = .ok ((m.col[i]'h).extractLsb' 64 64).toNat) ∧
    (∀ h : i < 8, ∃ w : Word,
      let f := s.core.se.bufs[i]'h
      rd (0xC0 + 8 * i) 8 = .ok w.toNat ∧ w.getLsbD 63 = f.cfg ∧ w.getLsbD 62 = f.dir ∧ w.getLsbD 61 = f.en ∧
      w.extractLsb' 55 6 = f.ch ∧ w.extractLsb' 48 7 = 0 ∧ (w.extractLsb' 40 8).toNat = f.head % 256 ∧
      (w.extractLsb' 32 8).toNat = f.tail % 256 ∧ (w.extractLsb' 16 16).toNat = f.free % 65536 ∧
      (w.extractLsb' 0 16).toNat = f.filled % 65536) ∧
    (off < 256 → n ∈ [1, 2, 4, 8] → off % n = 0 → ∃ x, rd (off / 8 * 8) 8 = .ok x ∧
      rd off n = .ok (x / 256 ^ (off % 8) % 256 ^ n)) ∧
    (off < 256 → off % 16 = 0 → rd off 16 = .error (.trap (opnd 0x06 0x00 (BitVec.ofNat 64 (0xFFF400 + off))))) ∧
    (off < 256 → n ∈ [1, 2, 4, 8, 16] → off % n = 0 → s.storeLocal (0xFFF400 + off) n v.toNat .scalar =
      .error (.trap (opnd 0x0A 0x00 (BitVec.ofNat 64 (0xFFF400 + off)))))

/-- R33: a post-step adds STEP, signed, to ADDR: modulo 2^24 without a buffer, and modulo the buffer's length within the
buffer that holds ADDR with one. MOD, STEP and HI stay. -/
def Sys2Proof.Claims.postStepRule : Prop :=
  ∀ (p : Word), (postStep p).extractLsb' 24 40 = p.extractLsb' 24 40 ∧
    (p.extractLsb' 48 16 = 0 →
      (postStep p).extractLsb' 0 24 = p.extractLsb' 0 24 + (p.extractLsb' 32 16).signExtend 24) ∧
    (p.extractLsb' 48 16 ≠ 0 →
      let len := (p.extractLsb' 48 16).toNat * 64
      let addr := (p.extractLsb' 0 24).toNat
      ∃ o, o < len ∧ ((postStep p).extractLsb' 0 24).toNat = (addr - addr % len + o) % 2 ^ 24 ∧
        ∃ q : Int, ((addr % len : Nat) : Int) + (p.extractLsb' 32 16).toInt = o + q * len) ∧
    postStep 0x00040040000003E0#64 = 0x0004004000000320#64

/-- R36: an immediate field of `f` bits under a chain of IMMX words is the field with the chain above it, sign-extended or
zero-extended to 64 bits; a small immediate without IMMX is 0 to 7. -/
def Sys2Proof.Claims.immediates : Prop :=
  ∀ (px : List Prefix) (f : Nat) (imm : Nat) (s : BitVec 6) (a b : BitVec 10), imm < 2 ^ f → 0 < f →
    immSigned px f imm = (BitVec.ofNat (10 * immxCount px + f) (immxVal px 0 * 2 ^ f + imm)).signExtend 64 ∧
    immUnsigned px f imm = BitVec.ofNat 64 (immxVal px 0 * 2 ^ f + imm) ∧
    (immxCount px = 0 → smallImm px s = (s.extractLsb' 0 3).setWidth 64) ∧
    (immxCount px ≠ 0 → smallImm px s =
      (BitVec.ofNat (10 * immxCount px + 3) (immxVal px 0 * 8 + (s.extractLsb' 0 3).toNat)).signExtend 64) ∧
    immxVal [.immx a, .immx b] 0 = (a ++ b).toNat ∧ immxVal [.immx a, .dst s 0, .immx b] 0 = (a ++ b).toNat

/-- The post-step of a pointer and the value of an immediate: `postStepRule` and `immediates`. -/
def Obligations.PostStepAndImmediates : Prop := postStepRule ∧ immediates

/-! ### The region: retiring, long results, commit, discard, exceptions -/

/-- R29, R45, R50, R52, R299: what moves on around an instruction's own effect. Retiring adds one to the instruction count and
moves the program counter past the instruction's words; in a repetition body it moves to the next position, back to the
body's start with one iteration less, or out of the repetition after the last one. A taken transfer closes every window.
Counting the windows changes only them. -/
def Sys2Proof.Claims.movingOn : Prop :=
  ∀ (s t : State) (len : Nat) (a : Word),
    let next := s.core.pc + BitVec.ofNat 64 len
    let r := t.core.rep
    (s.core.rep.act = false → t.retire s len =
      { t with core := { t.core with pc := next, icount := t.core.icount + 1, xfer := false, capt := none } }) ∧
    (s.core.rep.act = true → r.pos ≠ r.b1 → t.retire s len = { t with core := { t.core with
      pc := next, icount := t.core.icount + 1, xfer := false, capt := none, rep := { r with pos := r.pos + 1 } } }) ∧
    (s.core.rep.act = true → r.pos = r.b1 → r.left.toNat ≤ 1 → t.retire s len = { t with core := { t.core with
      pc := next, icount := t.core.icount + 1, xfer := false, capt := none, rep := ⟨false, 0, 0, 0, 0, 0, 0, none⟩ } }) ∧
    (∀ b, s.core.rep.act = true → r.pos = r.b1 → 1 < r.left.toNat → r.body = some b →
      t.retire s len = { t with core := { t.core with
        pc := b, icount := t.core.icount + 1, xfer := false, capt := none
        rep := { r with pos := 0, iter := r.iter + 1, left := r.left - 1 } } }) ∧
    (t.jumpTo a = { t with core := { t.core with
      pc := a, icount := t.core.icount + 1, xfer := true, long := t.core.long.map fun l => { l with left := 0 } } }) ∧
    (t.tickLong = { t with core := { t.core with long := t.core.long.map fun l => { l with left := l.left - 1 } } })

/-- R45, R46, R48: at a boundary with fewer than 65,536 instructions in the region and no window closed, nothing lands. A due
result to A lands with its flags: Z, N, C and V replace what was written, sticky flags are ORed in; nothing else changes. With
no outstanding result the boundary of a full region is its commit. -/
def Sys2Proof.Claims.boundary : Prop :=
  ∀ (s : State) (v : Vec) (st : BitVec 5) (m z : BitVec 4) (rest : List LongRes), (∀ x ∈ rest, x.left ≠ 0) →
    (s.core.icount < 65536 → s.core.long = rest → s.boundary = s) ∧
    (s.core.icount < 65536 → s.core.long = ⟨0, [⟨.a, 0xFF, v⟩], st, m, z, []⟩ :: rest →
      s.boundary = { s with core := { s.core with
        long := rest
        r := { s.core.r with
          a := v.extractLsb' 0 64
          flg := (s.core.r.flg.extractLsb' 4 60 ++ ((s.core.r.flg.extractLsb' 0 4 &&& ~~~m) ||| (z &&& m))) |||
            ((0#55 ++ st) ++ 0#4) } } }) ∧
    (65536 ≤ s.core.icount → s.core.long = rest → s.boundary = s.commit) ∧
    (s.boundary = if 65536 ≤ s.landDue.core.icount ∨ ∃ l ∈ s.landDue.core.long, l.left = 0 then s.landDue.commit else s.landDue)

/-- What moves on around an instruction's own effect, and what lands at the boundary before it: `movingOn` and `boundary`.
Model's choices: log 44. -/
def Obligations.InstructionBoundary : Prop := movingOn ∧ boundary


/-- R17, R18, R48, R52, R282: a commit leaves no outstanding result, no buffered entry, no receive-slot record and an
instruction count of 0, and the checkpoint is A, FLG, P0 to P7, M0 to M23 and their presence bits, and the program counter
with the repetition state. A region with no outstanding result keeps its registers; one with nothing buffered changes nothing
else. -/
def Obligations.CommitCheckpoint : Prop :=
  ∀ (s : State),
    let t := s.commit
    t.core.long = [] ∧ t.core.buf = [] ∧ t.core.rsave = [] ∧ t.core.icount = 0 ∧
    t.core.ck.a = t.core.r.a ∧ t.core.ck.flg = t.core.r.flg ∧ t.core.ck.p = t.core.r.p ∧
    (∀ (n : Nat) (h : n < 24), t.core.ck.m[n] = t.core.r.m[n] ∧ t.core.ck.pres.getLsbD n = t.core.r.pres.getLsbD n) ∧
    t.core.ck.pc = t.core.pc ∧ t.core.ck.rep = t.core.rep ∧
    (s.core.long = [] → t.core.r = s.core.r ∧ t.core.pc = s.core.pc ∧ t.core.rep = s.core.rep ∧ t.core.act = s.core.act) ∧
    (s.core.long = [] → s.core.buf = [] → t = { s with core := { s.core with
      ck := t.core.ck, rsave := [], icount := 0, rerun := false, mismOnce := false, doomed := [] } })

/-- R17, R18, R283: a discard restores A, FLG, P0 to P7, M0 to M23 and their presence bits, the program counter and the
repetition state from the checkpoint, and each receive slot that has a record from that record, while the others stand; it
clears VA0 to VA3 and K0 to K3, drops the buffered entries and the outstanding results, and changes nothing else of the package: control
registers and memory stand. -/
def Obligations.DiscardRestores : Prop :=
  ∀ (s : State), s.core.rsave.Pairwise (fun a b => a.n ≠ b.n) → (∀ e ∈ s.core.rsave, 24 ≤ e.n.toNat) →
    let t := s.discard
    let k := s.core.ck
    { t with core := s.core } = s ∧
    t.core.r.a = k.a ∧ t.core.r.flg = k.flg ∧ t.core.r.p = k.p ∧ t.core.pc = k.pc ∧ t.core.rep = k.rep ∧
    (∀ (n : Nat) (h : n < 24), t.core.r.m[n] = k.m[n] ∧ t.core.r.pres.getLsbD n = k.pres.getLsbD n) ∧
    (∀ e ∈ s.core.rsave, t.core.r.slot e.n = e.value ∧ t.core.r.pres.getLsbD e.n.toNat = e.pres) ∧
    (∀ n : BitVec 5, 24 ≤ n.toNat → (∀ e ∈ s.core.rsave, e.n ≠ n) →
      t.core.r.slot n = s.core.r.slot n ∧ t.core.r.pres.getLsbD n.toNat = s.core.r.pres.getLsbD n.toNat) ∧
    t.core.r.va = Vector.replicate 4 0 ∧ t.core.r.k = Vector.replicate 4 0 ∧
    t.core.buf = [] ∧ t.core.long = [] ∧ t.core.rsave = [] ∧ t.core.ctl = s.core.ctl

/-- R396, R397, R398: a fault of a small core's activation, TRAP and SVC apart, in a core with a free park slot: FCODE takes
the fault word, the region is discarded, the slot holds the checkpoint, channel and fault word with its generation one
higher, the activation ends, and one message of KIND 0 with eight doublewords goes to channel 59 of the tile's service core.
Memory does not change. -/
def Obligations.FaultParksRegion : Prop :=
  ∀ (s : State) (x : Site) (t : Trap) (ch : BitVec 6) (n : BitVec 2), s.svc = false → s.core.act = some ch →
    t.cause ≠ 0x30 → t.cause ≠ 0x31 → s.core.freePark = some n →
    let fw := (t.cause ++ t.detail) ++ t.info.getD x.base
    let u := s.takeFault x t
    u.core.ctl.fcode = fw ∧ u.core.act = none ∧ u.core.r = s.discard.core.r ∧ u.core.pc = s.core.ck.pc ∧
    u.core.buf = [] ∧ u.core.long = [] ∧
    (u.core.park n).st = .parked ∧ (u.core.park n).ck = s.core.ck ∧ (u.core.park n).chan = ch ∧
    (u.core.park n).fword = fw ∧ (u.core.park n).gen = (s.core.park n).gen + 1 ∧
    (∀ m, m ≠ n → u.core.park m = s.core.park m) ∧
    u.mem = s.mem ∧ u.home = s.home ∧ u.spad = s.spad ∧ u.lstore = s.lstore ∧ u.others = s.others ∧
    ∃ seq : BitVec 16, u.wire = s.wire ++ [⟨.fault, s.focus, svcOf (tileOf s.focus), 59,
      mkHdr s.focus (s.partOf s.focus) 59 0 8 s.core.lid seq,
      [fw ++ (0#2 ++ ch ++ n ++ ((s.core.park n).gen + 1) ++ 0#4 ++ BitVec.ofNat 12 (s.focus % 4096)),
       t.m1, t.m2, t.m3, x.first, s.core.ck.pc, 0#32 ++ x.second ++ x.base, s.core.ck.a], 0, none, 0, 0, .direct⟩]

/-- R34, R41, R43: every instruction that has words takes the decode fault of its context before any effect, unless a commit at the
boundary before it waits for hosts (R253). In particular a
privileged instruction whose fields are admitted raises PRIV detail 0 on a small core.
Model's choices: log 52, 53. -/
def Obligations.DecodeFaultTaken : Prop :=
  ∀ (i : Instr) (s : State) (p : Parts) (a : Attrs), i.parts = some p → attrsOf i = some a →
    (s.landDue.boundaryDue = true → s.landDue.commitBlock = none) →
    (∀ t, s.boundary.contextFault p a = some t → exec i s = .next (s.boundary.takeFault (s.boundary.site p) t)) ∧
    (formFault p a = none → a.priv = true → s.boundary.svc = false → isMx p.base = false →
      exec i s = .next (s.boundary.takeFault (s.boundary.site p) ⟨0x03, 0x00, none, 0, 0, 0⟩))

/-- R7, R16, R20, R21, R26, R221, R387, R402, R423: what reset leaves of a core and of the package: every register 0, FLG with RM
= RNE, no presence bit, no activation, no configured stream buffer, empty memory and tables, nothing in flight, the package in
reset. (The reset values the spec does not give are the model's: log 6, log 8.) Memory has its canonical form.
Model's choices: log 1, 6, 8. -/
def Obligations.ResetState : Prop :=
  let s := State.reset
  s.core.r.a = 0 ∧ s.core.r.flg = 0 ∧ s.core.r.pres = 0 ∧
  (∀ n, s.core.r.slot n = 0) ∧ (∀ n, s.core.r.ptr n = 0) ∧ (∀ n, s.core.r.mask n = 0) ∧ (∀ n, s.core.r.vec n = 0) ∧
  (∀ k ∈ s.core.mx.row.toList, k = 0) ∧ (∀ k ∈ s.core.mx.col.toList, k = 0) ∧
  s.core.ctl.rmode = 0 ∧ s.core.act = none ∧ s.core.rep.act = false ∧ s.core.long = [] ∧ s.core.buf = [] ∧
  (∀ b ∈ s.core.se.bufs.toList, b.cfg = false) ∧ (∀ n, (s.core.park n).st = .free) ∧
  s.stage = .off ∧ s.wire = [] ∧ s.launches = [] ∧ s.sluice.hold = false ∧
  s.mem.wf = true ∧ s.home.wf = true ∧ s.spad.wf = true ∧ s.lstore.wf = true

/-- The canonical form of the package's memories: physical memory, the home's copy, cluster stores and local stores. -/
def Sys2Proof.Claims.MemInv (s : State) : Prop :=
  s.mem.wf = true ∧ s.home.wf = true ∧ s.spad.wf = true ∧ s.lstore.wf = true

/-- Every step keeps the canonical form of the package's memories: addresses rising, no byte of zero listed.
Model's choices: log 1. -/
def Obligations.MemoryInvariant : Prop :=
  ∀ s t : State, MemInv s → step s = .next t → MemInv t

/-! ### Integer instructions, immediates, slots, pointers, masks -/

/-- Z, N of a result beside given C and V. -/
def Sys2Proof.Claims.f4 (r : Word) (c v : Bool) : BitVec 4 :=
  BitVec.ofBool (r == 0) ++ BitVec.ofBool r.msb ++ BitVec.ofBool c ++ BitVec.ofBool v

/-- A result that names Z and N; Z alone; Z, N, C; Z, N, C, V; Z, N, V: the result, the flags written, their values. -/
def Sys2Proof.Claims.zn (r : Word) : Word × BitVec 4 × BitVec 4 := (r, 0b1100, f4 r false false)
def Sys2Proof.Claims.zOnly (r : Word) : Word × BitVec 4 × BitVec 4 := (r, 0b1000, f4 r false false &&& 0b1000)
def Sys2Proof.Claims.znc (r : Word) (c : Option Bool) : Word × BitVec 4 × BitVec 4 :=
  match c with | none => zn r | some b => (r, 0b1110, f4 r b false)
def Sys2Proof.Claims.zncv (r : Word) (c v : Bool) : Word × BitVec 4 × BitVec 4 := (r, 0b1111, f4 r c v)
def Sys2Proof.Claims.znv (r : Word) (v : Bool) : Word × BitVec 4 × BitVec 4 := (r, 0b1101, f4 r false v)

/-- The exact signed value does not fit in 64 bits (R95). -/
def Sys2Proof.Claims.misfit (i : Int) : Bool := decide (i < -2 ^ 63 ∨ 2 ^ 63 ≤ i)

/-- A result with the flags it writes, of FLG, A and src. -/
abbrev Sys2Proof.Claims.AluFn := Word → Word → Word → Word × BitVec 4 × BitVec 4

/-- The sums, differences and logical operations (R95, R99). -/
def Sys2Proof.Claims.aluSums (px : List Prefix) (s : BitVec 6) : List (Instr × AluFn) :=
  [(.lda px s, fun _ _ b => zn b),
   (.add px s, fun _ a b => zncv (a + b) (a.uaddOverflow b) (a.saddOverflow b)),
   (.adc px s, fun f a b => let c := f.getLsbD 1
      zncv (a + b + (if c then 1 else 0)) (decide (2 ^ 64 ≤ a.toNat + b.toNat + (if c then 1 else 0)))
        (misfit (a.toInt + b.toInt + (if c then 1 else 0)))),
   (.sub px s, fun _ a b => zncv (a - b) (a.usubOverflow b) (a.ssubOverflow b)),
   (.sbc px s, fun f a b => let c := f.getLsbD 1
      zncv (a - b - (if c then 1 else 0)) (decide (a.toNat < b.toNat + (if c then 1 else 0)))
        (misfit (a.toInt - b.toInt - (if c then 1 else 0)))),
   (.rsb px s, fun _ a b => zncv (b - a) (b.usubOverflow a) (b.ssubOverflow a)),
   (.and px s, fun _ a b => zn (a &&& b)),
   (.or px s, fun _ a b => zn (a ||| b)),
   (.xor px s, fun _ a b => zn (a ^^^ b)),
   (.andn px s, fun _ a b => zn (a &&& ~~~b))]

/-- The shifts, products, minima and maxima (R99, R100). -/
def Sys2Proof.Claims.aluShifts (px : List Prefix) (s : BitVec 6) : List (Instr × AluFn) :=
  [(.shl px s, fun _ a b => let n := b.toNat
      znc (if n < 64 then a <<< n else 0) (if n = 0 then none else some (if n ≤ 64 then a.getLsbD (64 - n) else false))),
   (.shr px s, fun _ a b => let n := b.toNat
      znc (if n < 64 then a >>> n else 0) (if n = 0 then none else some (if n ≤ 64 then a.getLsbD (n - 1) else false))),
   (.sar px s, fun _ a b => let n := b.toNat
      znc (a.sshiftRight n) (if n = 0 then none else some (if n ≤ 64 then a.getLsbD (n - 1) else a.msb))),
   (.rol px s, fun _ a b => let n := b.toNat % 64; let r := (a <<< n) ||| (a >>> (64 - n))
      znc r (if n = 0 then none else some (r.getLsbD 0))),
   (.ror px s, fun _ a b => let n := b.toNat % 64; let r := (a >>> n) ||| (a <<< (64 - n))
      znc r (if n = 0 then none else some (r.getLsbD 63))),
   (.mul px s, fun _ a b => zncv (a * b) (decide (2 ^ 64 - 1 < a.toNat * b.toNat)) (misfit (a.toInt * b.toInt))),
   (.mulh px s, fun _ a b => zn ((a.signExtend 128 * b.signExtend 128).extractLsb' 64 64)),
   (.mulhn px s, fun _ a b => zn ((a.setWidth 128 * b.setWidth 128).extractLsb' 64 64)),
   (.min px s, fun _ a b => zn (if a.toInt ≤ b.toInt then a else b)),
   (.max px s, fun _ a b => zn (if a.toInt ≤ b.toInt then b else a)),
   (.minn px s, fun _ a b => zn (if a ≤ b then a else b)),
   (.maxn px s, fun _ a b => zn (if a ≤ b then b else a))]

/-- The unary operations, selections and saturating sums (R99). -/
def Sys2Proof.Claims.aluUnary (px : List Prefix) (s : BitVec 6) : List (Instr × AluFn) :=
  [(.neg px s, fun _ _ b => zncv (-b) (b != 0) b.negOverflow),
   (.not px s, fun _ _ b => zn (~~~b)),
   (.clz px s, fun _ _ b => zOnly b.clz),
   (.ctz px s, fun _ _ b => zOnly b.ctz),
   (.popc px s, fun _ _ b => zOnly b.cpop),
   (.brev px s, fun _ _ b => zn b.reverse),
   (.bswp px s, fun _ _ b => zn (b.extractLsb' 0 8 ++ b.extractLsb' 8 8 ++ b.extractLsb' 16 8 ++ b.extractLsb' 24 8 ++
      b.extractLsb' 32 8 ++ b.extractLsb' 40 8 ++ b.extractLsb' 48 8 ++ b.extractLsb' 56 8)),
   (.sext px s, fun _ a b => let j := b.toNat % 64; zn ((a <<< (63 - j)).sshiftRight (63 - j))),
   (.zext px s, fun _ a b => let j := b.toNat % 64; zn ((a <<< (63 - j)) >>> (63 - j))),
   (.selz px s, fun f a b => (if f.getLsbD 3 then b else a, 0, 0)),
   (.selnz px s, fun f a b => (if f.getLsbD 3 then a else b, 0, 0)),
   (.adds px s, fun _ a b => znv (if a.saddOverflow b then (if a.msb then BitVec.intMin 64 else BitVec.intMax 64) else a + b)
      (a.saddOverflow b)),
   (.subs px s, fun _ a b => znv (if a.ssubOverflow b then (if a.msb then BitVec.intMin 64 else BitVec.intMax 64) else a - b)
      (a.ssubOverflow b)),
   (.abs px s, fun _ _ b => znv b.abs (b == BitVec.intMin 64))]

/-- The integer instructions that write a result to A or DST (R99). -/
def Sys2Proof.Claims.aluTable (px : List Prefix) (s : BitVec 6) : List (Instr × AluFn) :=
  aluSums px s ++ aluShifts px s ++ aluUnary px s

/-- Where a result goes (R93): A, or DST's operand at the width in force. -/
def Sys2Proof.Claims.result (s : State) (px : List Prefix) (sp : BitVec 6) (v : Word) : Except Stop State :=
  match dstOf px with
  | none => .ok (s.setA v)
  | some d => s.writeOp (ctxD px sp d.1 8) d.1 v

/-- R93, R95, R99, R100: an integer instruction writes its result to A or DST, the flags its row names, and then makes the
post-steps of S and DST; an operand that faults faults it with no effect (R34). -/
def Obligations.IntegerResults : Prop :=
  ∀ (px : List Prefix) (sp : BitVec 6) (s t : State) (src : Word) (x : Trap), ∀ e ∈ aluTable px sp, Clean e.1 s →
    let w := work e.1 s
    let o := e.2 w.core.r.flg w.core.r.a src
    (w.readOp (ctxS px sp 8) sp = .ok src → result w px sp o.1 = .ok t →
      exec e.1 s = .next (done e.1 s ((t.setZncv o.2.1 o.2.2).post w (stepsSD px sp)))) ∧
    (w.readOp (ctxS px sp 8) sp = .error (.trap x) → exec e.1 s = .next (faulted e.1 s x)) ∧
    (w.readOp (ctxS px sp 8) sp = .ok src → result w px sp o.1 = .error (.trap x) →
      exec e.1 s = .next (faulted e.1 s x))

/-- The first operand (R93): A, or DST's operand. -/
def Sys2Proof.Claims.first (s : State) (px : List Prefix) (sp : BitVec 6) : Except Stop Word :=
  match dstOf px with
  | none => .ok s.core.r.a
  | some d => s.readOp (ctxD px sp d.1 8) d.1

/-- R93, R95, R96, R99: CMP and TST write the flags of first operand − src and first operand AND src and no result; STA stores
the first operand through S; MAC adds src × s2 to A; XCHG writes X with S's old value, then S with X's. -/
def Sys2Proof.Claims.compareStoreExchange : Prop :=
  ∀ (px : List Prefix) (sp : BitVec 6) (s t u : State) (src x : Word),
    let ctx := ctxS px sp 8
    let l := stepsSD px sp
    (Clean (.cmp px sp) s → let w := work (.cmp px sp) s
      w.readOp ctx sp = .ok src → first w px sp = .ok x →
      exec (.cmp px sp) s = .next (done (.cmp px sp) s ((w.setZncv 15 (f4 (x - src) (x.usubOverflow src)
        (x.ssubOverflow src))).post w l))) ∧
    (Clean (.tst px sp) s → let w := work (.tst px sp) s
      w.readOp ctx sp = .ok src → first w px sp = .ok x →
      exec (.tst px sp) s = .next (done (.tst px sp) s ((w.setZncv 12 (f4 (x &&& src) false false)).post w l))) ∧
    (Clean (.sta px sp) s → let w := work (.sta px sp) s
      first w px sp = .ok x → w.writeOp ctx sp x = .ok t →
      exec (.sta px sp) s = .next (done (.sta px sp) s (t.post w l))) ∧
    (Clean (.mac px sp) s → let w := work (.mac px sp) s
      w.readOp ctx sp = .ok src → first w px sp = .ok x →
      let r := w.core.r.a + src * x
      exec (.mac px sp) s = .next (done (.mac px sp) s (((w.setA r).setZncv 12 (f4 r false false)).post w l))) ∧
    (Clean (.xchg px sp) s → let w := work (.xchg px sp) s
      w.readOp ctx sp = .ok src → first w px sp = .ok x → result w px sp src = .ok t → specPtr sp = false →
      t.writeOp ctx sp x = .ok u →
      exec (.xchg px sp) s = .next (done (.xchg px sp) s (u.post w l))) ∧
    (Clean (.xchg px sp) s → let w := work (.xchg px sp) s
      w.readOp ctx sp = .ok src → first w px sp = .ok x → result w px sp src = .ok t → specPtr sp = true →
      w.svc = false → t.svc = false →
      let ea := w.eaOf (specPtrNo sp) ctx.disp
      w.localKind w.focus ea = .work → t.localKind t.focus ea = .work → heldBy true t.core.buf = false →
      let a := clusterOf t.focus * 16777216 + ea
      let k := nibbleMask (2 ^ ctx.n - 1) 64
      let u := ({ t with spad := t.spad.writeNibbles a 64 k x.toNat } : State).healStore a 64 fun i => decide (k / 4 ^ i % 4 = 3)
      exec (.xchg px sp) s = .next (done (.xchg px sp) s (u.post w l)))

/-- R101: BFX and BFI with position v[5:0] and length v[11:6] + 1 from the chain; a value of 2^12 or more, or a field beyond
bit 63, raises OPND detail 0x01. -/
def Sys2Proof.Claims.bitFields : Prop :=
  ∀ (px : List Prefix) (sp : BitVec 6) (s t : State) (src : Word),
    let v := immxVal px 0
    let pos := v % 64
    let len := v / 64 % 64 + 1
    let bare : OpCtx := ⟨widthBytes (dstW px) 8, (dstW px).getLsbD 3, BitVec.ofNat 64 (sp.toNat % 8), 0⟩
    let ones : Word := BitVec.allOnes 64 >>> (64 - len)
    let put := fun (w : State) r => (match dstOf px with
      | none => Except.ok (w.setA r)
      | some d => w.writeOp ⟨widthBytes (dstW px) 8, (dstW px).getLsbD 3, BitVec.ofNat 64 (d.1.toNat % 8), 0⟩ d.1 r)
    (Clean (.bfx px sp) s → v < 4096 → pos + len ≤ 64 → let w := work (.bfx px sp) s
      w.readOp bare sp = .ok src →
      let r := (src >>> pos) &&& ones
      put w r = .ok t →
      exec (.bfx px sp) s = .next (done (.bfx px sp) s ((t.setZncv 12 (f4 r false false)).post w (stepsSD px sp)))) ∧
    (Clean (.bfi px sp) s → v < 4096 → pos + len ≤ 64 → let w := work (.bfi px sp) s
      w.readOp bare sp = .ok src →
      let r := (w.core.r.a &&& ~~~(ones <<< pos)) ||| ((src &&& ones) <<< pos)
      put w r = .ok t →
      exec (.bfi px sp) s = .next (done (.bfi px sp) s ((t.setZncv 12 (f4 r false false)).post w (stepsSD px sp)))) ∧
    (∀ i ∈ [Instr.bfx px sp, .bfi px sp], Clean i s → (4096 ≤ v ∨ 64 < pos + len) →
      exec i s = .next (faulted i s (opnd 0x07 0x01 (BitVec.ofNat 64 v))))

/-- Compares, stores, exchanges, multiplies in two halves and divisions; the bit-field forms: `compareStoreExchange` and `bitFields`. -/
def Obligations.CompareMoveBitFields : Prop := compareStoreExchange ∧ bitFields


/-- The immediate forms of MAJ 0x4 with their immediate and result (R102). -/
def Sys2Proof.Claims.immTable (px : List Prefix) (imm : BitVec 8) :
    List (Instr × Word × (Word → Word → Word × BitVec 4 × BitVec 4)) :=
  let sx := immSigned px 8 imm.toNat
  let zx := immUnsigned px 8 imm.toNat
  [(.ldi px imm, sx, fun _ i => zn i),
   (.addi px imm, sx, fun a i => zncv (a + i) (a.uaddOverflow i) (a.saddOverflow i)),
   (.andi px imm, zx, fun a i => zn (a &&& i)),
   (.ori px imm, zx, fun a i => zn (a ||| i)),
   (.xori px imm, zx, fun a i => zn (a ^^^ i)),
   (.shli px imm, zx, fun a i => let n := i.toNat
      znc (if n < 64 then a <<< n else 0) (if n = 0 then none else some (if n ≤ 64 then a.getLsbD (64 - n) else false))),
   (.shri px imm, zx, fun a i => let n := i.toNat
      znc (if n < 64 then a >>> n else 0) (if n = 0 then none else some (if n ≤ 64 then a.getLsbD (n - 1) else false))),
   (.sari px imm, zx, fun a i => let n := i.toNat
      znc (a.sshiftRight n) (if n = 0 then none else some (if n ≤ 64 then a.getLsbD (n - 1) else a.msb))),
   (.muli px imm, sx, fun a i =>
      zncv (a * i) (decide (2 ^ 64 - 1 < a.toNat * i.toNat)) (misfit (a.toInt * i.toInt)))]

/-- R102, R103: the immediate forms write their result to A or DST and the flags of their counterparts; CMPI writes the
flags of the first operand − imm; SPRES tests a presence bit into Z and, with c = 1, clears it and keeps the slot's value; a receive
slot that the region has not written yet is recorded with its value and presence (R18). -/
def Obligations.ImmediateForms : Prop :=
  ∀ (px : List Prefix) (imm : BitVec 8) (s t : State) (x : Word),
    (∀ e ∈ immTable px imm, Clean e.1 s →
      let w := work e.1 s
      let o := e.2.2 w.core.r.a e.2.1
      (match dstOf px with
        | none => Except.ok (w.setA o.1)
        | some d => w.writeOp ⟨widthBytes (dstW px) 8, (dstW px).getLsbD 3, BitVec.ofNat 64 (d.1.toNat % 8), 0⟩ d.1 o.1) = .ok t →
      exec e.1 s = .next (done e.1 s ((t.setZncv o.2.1 o.2.2).post w (stepsSD px 0)))) ∧
    (Clean (.cmpi px imm) s → let w := work (.cmpi px imm) s
      (match dstOf px with
        | none => Except.ok w.core.r.a
        | some d => w.readOp ⟨widthBytes (dstW px) 8, (dstW px).getLsbD 3, BitVec.ofNat 64 (d.1.toNat % 8), 0⟩ d.1) = .ok x →
      let i := immSigned px 8 imm.toNat
      exec (.cmpi px imm) s = .next (done (.cmpi px imm) s ((w.setZncv 15 (f4 (x - i) (x.usubOverflow i)
        (x.ssubOverflow i))).post w (stepsSD px 0)))) ∧
    (Clean (.spres px imm) s → imm.getLsbD 5 = false → let w := work (.spres px imm) s
      exec (.spres px imm) s = .next (done (.spres px imm) s
        (w.setZncv 8 (if w.core.r.pres.getLsbD (imm.toNat % 32) then 0 else 8)))) ∧
    (Clean (.spres px imm) s → imm.getLsbD 5 = true → imm.toNat % 32 < 24 → let w := work (.spres px imm) s
      let u := w.setZncv 8 (if w.core.r.pres.getLsbD (imm.toNat % 32) then 0 else 8)
      exec (.spres px imm) s = .next (done (.spres px imm) s { u with core := { u.core with
        r := { u.core.r with pres := u.core.r.pres &&& ~~~(1#32 <<< (imm.toNat % 32)) } } })) ∧
    (Clean (.spres px imm) s → imm.getLsbD 5 = true → 24 ≤ imm.toNat % 32 → let w := work (.spres px imm) s
      let n := imm.extractLsb' 0 5
      let u := w.setZncv 8 (if w.core.r.pres.getLsbD (imm.toNat % 32) then 0 else 8)
      let kept := w.core.rsave.any fun e => e.n == n
      (kept = true ∨ w.core.persUsed < 512) →
      exec (.spres px imm) s = .next (done (.spres px imm) s { u with core := { u.core with
        r := { u.core.r with pres := u.core.r.pres &&& ~~~(1#32 <<< (imm.toNat % 32)) }
        rsave := u.core.rsave ++
          if kept then [] else [⟨n, w.core.r.slot n, w.core.r.pres.getLsbD (imm.toNat % 32)⟩] } }))

/-- R105: the pointer instructions. -/
def Sys2Proof.Claims.pointerForms : Prop :=
  ∀ (px : List Prefix) (pr : BitVec 3) (imm : BitVec 6) (s : State),
    let zx := immUnsigned px 6 imm.toNat
    let sx := immSigned px 6 imm.toNat
    let now := fun (i : Instr) (f : State → Word → State) => Clean i s →
      exec i s = .next (done i s (f (work i s) ((work i s).core.r.ptr pr)))
    (zx.toNat < 2 ^ 24 → now (.pset px pr imm) fun w p => w.setPtr pr (p.extractLsb' 24 40 ++ zx.extractLsb' 0 24)) ∧
    now (.pget px pr imm) (fun w p => w.setA p) ∧
    now (.padd px pr imm) (fun w p => w.setPtr pr (ptrAdvance p sx.toInt)) ∧
    (-2 ^ 15 ≤ sx.toInt → sx.toInt < 2 ^ 15 → now (.pstep px pr imm) fun w p =>
      w.setPtr pr (p.extractLsb' 48 16 ++ sx.extractLsb' 0 16 ++ p.extractLsb' 0 32)) ∧
    (zx.toNat < 2 ^ 16 → now (.pmod px pr imm) fun w p => w.setPtr pr (zx.extractLsb' 0 16 ++ p.extractLsb' 0 48)) ∧
    now (.plea px pr imm) (fun w p =>
      w.setA ((p.extractLsb' 0 24 + sx.extractLsb' 0 24).setWidth 64)) ∧
    now (.pswp px pr imm) (fun w p => (w.setPtr pr w.core.r.a).setA p) ∧
    now (.pcmp px pr imm) (fun w p =>
      let d := p.extractLsb' 0 24
      let y := sx.extractLsb' 0 24
      w.setZncv 15 (BitVec.ofBool (d == y) ++ 0#1 ++ BitVec.ofBool (decide (d < y)) ++ 0#1)) ∧
    (2 ^ 24 ≤ zx.toNat → Clean (.pset px pr imm) s →
      exec (.pset px pr imm) s = .next (faulted (.pset px pr imm) s (opnd 0x07 0x02 zx))) ∧
    (sx.toInt < -2 ^ 15 ∨ 2 ^ 15 ≤ sx.toInt → Clean (.pstep px pr imm) s →
      exec (.pstep px pr imm) s = .next (faulted (.pstep px pr imm) s (opnd 0x07 0x02 sx))) ∧
    (2 ^ 16 ≤ zx.toNat → Clean (.pmod px pr imm) s →
      exec (.pmod px pr imm) s = .next (faulted (.pmod px pr imm) s (opnd 0x07 0x02 zx)))

/-- R117: the mask instructions, d = ARG[7:6], a = ARG[5:4], b = ARG[3:2]; KALL and KPOP over 64, 32, 16 or 8 lanes and all
64 bits; KSETI from the chain and ARG[5:0]. -/
def Sys2Proof.Claims.maskForms : Prop :=
  ∀ (px : List Prefix) (arg : BitVec 8) (s : State),
    let d := arg.extractLsb' 6 2
    let now := fun (i : Instr) (f : State → Word → Word → State) => Clean i s →
      exec i s = .next (done i s (f (work i s) ((work i s).core.r.mask (arg.extractLsb' 4 2))
        ((work i s).core.r.mask (arg.extractLsb' 2 2))))
    now (.kand px arg) (fun w a b => w.setMask d (a &&& b)) ∧
    now (.kor px arg) (fun w a b => w.setMask d (a ||| b)) ∧
    now (.kxor px arg) (fun w a b => w.setMask d (a ^^^ b)) ∧
    now (.knot px arg) (fun w a _ => w.setMask d (~~~a)) ∧
    now (.kmov px arg) (fun w a _ => w.setMask d a) ∧
    now (.kany px arg) (fun w a _ => w.setZncv 8 (if a = 0 then 8 else 0)) ∧
    now (.kall px arg) (fun w a _ =>
      let l := 64 / 2 ^ (arg.extractLsb' 0 2).toNat
      w.setZncv 8 (if ∀ i : Fin 64, i.val < l → a.getLsbD i = true then 0 else 8)) ∧
    now (.kpop px arg) (fun w a _ => (w.setA a.cpop).setZncv 8 (if a = 0 then 8 else 0)) ∧
    now (.kseti px arg) (fun w _ _ => w.setMask d (BitVec.ofNat 64 (immxVal px 0 * 64 + arg.toNat % 64)))

/-- The pointer instructions and the mask instructions: `pointerForms` and `maskForms`. -/
def Obligations.PointerAndMaskForms : Prop := pointerForms ∧ maskForms

/-! ### Floating point, vectors, long instructions, exact accumulators -/

/-- R84, R88, R89, R90, R106, R110: a finite encoding is its own rounding in every mode, without a flag; a NaN operand gives the
canonical NaN, with IV exactly when one is signalling, but in minimumNumber and maximumNumber one NaN gives the other operand; the
lesser of two ordered operands is their minimum, the other their maximum; infinities of opposite signs, 0 × ∞, 0/0 and ∞/∞ are invalid; a finite
non-zero value divided by zero is an infinity with DZ; −0 is below +0 for minimum and maximum; a root below −0 is invalid. -/
def Sys2Proof.Claims.floatRules : Prop :=
  ∀ f ∈ [f64, f32, f16, bf16], ∀ (m : RMode) (x y : Nat) (b c : Bool),
    let sn := (f.decode x).isSnan || (f.decode y).isSnan
    let nan := (f.decode x).isNan || (f.decode y).isNan
    (∀ n k e, x < 2 ^ f.bits → f.decode x = .fin n k e → roundTo f m b n k e false = (x, 0)) ∧
    (nan = true → fAdd f m x y = (f.nan, flagIf sn fIV) ∧ fSub f m x y = (f.nan, flagIf sn fIV) ∧
      fMul f m x y = (f.nan, flagIf sn fIV) ∧ fDivide f m x y = (f.nan, flagIf sn fIV) ∧
      fMinMax f b false x y = (f.nan, flagIf sn fIV)) ∧
    (f.decode x = .inf b → f.decode y = .inf (!b) → fAdd f m x y = (f.nan, fIV)) ∧
    (f.decode x = .inf b → f.decode y = .inf b → fSub f m x y = (f.nan, fIV)) ∧
    (f.decode x = .inf b → f.decode y = .inf c → fDivide f m x y = (f.nan, fIV)) ∧
    ((f.decode x).isNan = true → (f.decode y).isNan = true → fMinMax f b true x y = (f.nan, flagIf sn fIV)) ∧
    ((f.decode x).isNan = true → (f.decode y).isNan = false → fMinMax f b true x y = (y % 2 ^ f.bits, flagIf sn fIV) ∧
      fMinMax f b true y x = (y % 2 ^ f.bits, flagIf sn fIV)) ∧
    (fCompare f x y = .lt → fMinMax f false b x y = (x % 2 ^ f.bits, 0) ∧ fMinMax f false b y x = (x % 2 ^ f.bits, 0) ∧
      fMinMax f true b x y = (y % 2 ^ f.bits, 0) ∧ fMinMax f true b y x = (y % 2 ^ f.bits, 0)) ∧
    (∀ e, f.decode x = .inf b → f.decode y = .fin c 0 e → fMul f m x y = (f.nan, fIV) ∧ fMul f m y x = (f.nan, fIV)) ∧
    (∀ e k e', f.decode x = .fin b k e → k ≠ 0 → f.decode y = .fin c 0 e' →
      fDivide f m x y = (f.signed (b != c) f.infCode, fDZ)) ∧
    (∀ e e', f.decode x = .fin b 0 e → f.decode y = .fin c 0 e' → fDivide f m x y = (f.nan, fIV)) ∧
    (∀ k e, f.decode x = .fin true k e → k ≠ 0 → fSqrt f m x = (f.nan, fIV)) ∧
    fMinMax f false b (f.signed true 0) 0 = (f.signed true 0, 0) ∧ fMinMax f true b (f.signed true 0) 0 = (0, 0) ∧
    fCompare f (f.signed true 0) 0 = .lt

/-- R82, R85, R87, R91, R92, R157, R161: the worked values of the spec: 300.0 and 500.0 to E4M3, −0.4 to an unsigned integer,
TANH(20.0), SINP(0.5), EXP2(−140.0), the special operands of the special functions, the exact sum of 2^100, 1 and −2^100. -/
def Sys2Proof.Claims.workedValues : Prop :=
  fpToFp f32 e4m3 .rne false 0x43960000 = (0x79, fNX) ∧ fpToFp f32 e4m3 .rup false 0x43960000 = (0x7A, fNX) ∧
  fpToFp f32 e4m3 .rne false 0x43FA0000 = (0x7F, fOF ||| fNX) ∧ (fpToFp f32 e4m3 .rne true 0x43FA0000).1 = 0x7E ∧
  fpToFp f32 e4m3 .rz false 0x43FA0000 = (0x7E, fOF ||| fNX) ∧
  fpToFp f32 bf16 .rne false 0x3F801000 = (0x3F80, fNX) ∧ fpToFp f32 bf16 .rup false 0x3F801000 = (0x3F81, fNX) ∧
  fpToFp f32 bf16 (.sr 0xF0000000) false 0x3F801000 = (0x3F81, fNX) ∧
  fpToFp f32 bf16 (.sr 0xEFFFFFFF) false 0x3F801000 = (0x3F80, fNX) ∧
  fpToInt f32 false 32 .rne false 0xBECCCCCD = (0, fNX) ∧
  spTanh 0x41A00000 = (0x3F7FFFFF, fNX) ∧ spSinp 0x3F000000 = (0x3F800000, 0) ∧ spExp2 0xC30C0000 = (0x00000200, 0) ∧
  spExp2 0xFF800000 = (0, 0) ∧ spExp2 0x7F800000 = (0x7F800000, 0) ∧
  spLog2 0 = (0xFF800000, fDZ) ∧ spLog2 0x80000000 = (0xFF800000, fDZ) ∧ spLog2 0xBF800000 = (0x7FC00000, fIV) ∧
  spRcp 0 = (0x7F800000, fDZ) ∧ spRcp 0xFF800000 = (0x80000000, 0) ∧ spRsq 0x80000000 = (0xFF800000, fDZ) ∧
  spRsq 0x7F800000 = (0, 0) ∧ spTanh 0xFF800000 = (0xBF800000, 0) ∧ spSinp 0x7F800000 = (0x7FC00000, fIV) ∧
  spSinp 0xC0000000 = (0x80000000, 0) ∧ spCosp 0x3F000000 = (0, 0) ∧ spRcps 0x4008000000000000 = (0x3FD5555560000000, 0) ∧
  (xaccAdd false (xaccAdd false (xaccAdd false ⟨0, 0⟩ (f32.decode 0x71800000)) (f32.decode 0x3F800000))
    (f32.decode 0xF1800000)) = ⟨2 ^ 149, 0⟩ ∧
  xaccRound false f32 .rne ⟨2 ^ 149, 0⟩ = (0x3F800000, 0) ∧
  scaleOf 8 (.fin false 10 0) = 0x7A ∧ scaleOf 8 (.nan false) = 0xFF ∧ scaleOf 8 (.fin false 0 0) = 127

/-- The special cases of the arithmetic, and the spec's worked values: `floatRules` and `workedValues`.
Model's choices: log 21. -/
def Obligations.FloatArithmetic : Prop := floatRules ∧ workedValues


/-- A scalar FP result of `n` bytes to A or DST (R93, R94). -/
def Sys2Proof.Claims.fpResult (s : State) (px : List Prefix) (sp : BitVec 6) (n v : Nat) : Except Stop State :=
  match dstOf px with
  | none => .ok (s.setA (BitVec.ofNat 64 v))
  | some d => s.writeOp (ctxFpD px sp d.1 n) d.1 (BitVec.ofNat 64 v)

/-- The scalar FP instructions of one operand or of A and one operand: the operand's width in bytes and the operation. -/
def Sys2Proof.Claims.fpTable (px : List Prefix) (s : BitVec 6) (t : BitVec 2) :
    List (Instr × Nat × (RMode → Nat → Nat → Nat × Flags5)) :=
  let f := fmtOf t
  let b := fun x => x % 2 ^ f.bits
  [(.fadd px s t, f.bytes, fun m a x => fAdd f m a (b x)), (.fsub px s t, f.bytes, fun m a x => fSub f m a (b x)),
   (.fmul px s t, f.bytes, fun m a x => fMul f m a (b x)),
   (.fscl px s t, 8, fun m a x => fScale f m a (BitVec.ofNat 64 x).toInt),
   (.frsub px s t, f.bytes, fun m a x => fSub f m (b x) a),
   (.fmin px s t, f.bytes, fun _ a x => fMinMax f false false a (b x)),
   (.fmax px s t, f.bytes, fun _ a x => fMinMax f true false a (b x)),
   (.fabs px s t, f.bytes, fun _ _ x => (fAbs f (b x), 0)), (.fneg px s t, f.bytes, fun _ _ x => (fNeg f (b x), 0)),
   (.frint px s t, f.bytes, fun m _ x => fRint f m (b x)), (.fsgnj px s t, f.bytes, fun _ a x => (fSgnj f a (b x), 0)),
   (.fminn px s t, f.bytes, fun _ a x => fMinMax f false true a (b x)),
   (.fmaxn px s t, f.bytes, fun _ a x => fMinMax f true true a (b x))]

/-- R93, R94, R106, R109: a scalar FP instruction writes its result zero-extended to A or DST and ORs its flags; FFMA
rounds A + src × s2 once into A; CVT converts in the mode of R86. -/
def Obligations.ScalarFloat : Prop :=
  ∀ (px : List Prefix) (sp : BitVec 6) (t : BitVec 2) (d c : BitVec 3) (s u : State) (src x : Word),
    let f := fmtOf t
    let l := stepsSD px sp
    let lo := fun (v : Word) => v.toNat % 2 ^ f.bits
    let other := fun (w : State) => (match dstOf px with
      | none => Except.ok w.core.r.a
      | some q => w.readOp (ctxFpD px sp q.1 f.bytes) q.1)
    (∀ e ∈ fpTable px sp t, Clean e.1 s → let w := work e.1 s
      let o := e.2.2 (w.mode px) (lo w.core.r.a) src.toNat
      w.readOp (ctxFp px sp e.2.1) sp = .ok src → fpResult w px sp f.bytes o.1 = .ok u →
      exec e.1 s = .next (done e.1 s ((u.orSticky o.2).post w l))) ∧
    (Clean (.ffma px sp t) s → let w := work (.ffma px sp t) s
      w.readOp (ctxFp px sp f.bytes) sp = .ok src → other w = .ok x →
      let o := fFma f (w.mode px) (lo w.core.r.a) (lo src) (lo x)
      exec (.ffma px sp t) s = .next (done (.ffma px sp t) s (((w.setA (BitVec.ofNat 64 o.1)).orSticky o.2).post w l))) ∧
    (Clean (.cvt px sp d c) s → let w := work (.cvt px sp d c) s
      w.readOp (ctxFp px sp (cvtBytes c)) sp = .ok src →
      let v := src.toNat % 2 ^ (8 * cvtBytes c)
      let m := if d.toNat < 4 then w.cvtMode px (8 * cvtBytes d) (BitVec.ofNat 64 v) 0 else w.mode px
      let o := cvtValue d c m (pageSat px) v
      fpResult w px sp (cvtBytes d) o.1 = .ok u →
      exec (.cvt px sp d c) s = .next (done (.cvt px sp d c) s ((u.orSticky o.2).post w l)))

/-- Lane `i` of width `w` of a vector. -/
def Sys2Proof.Claims.lane (v : Vec) (w i : Nat) : Nat := (v.extractLsb' (w * i) w).toNat

/-- `r` holds `f`'s lanes where the mask enables them and `old`'s elsewhere, and `fl` the flags of the enabled lanes (R111). -/
def Sys2Proof.Claims.lanesAre (w : Nat) (on : Nat → Bool) (old : Vec) (f : Nat → Nat × Flags5) (r : Vec) (fl : Flags5) : Prop :=
  (∀ i, i < 512 / w → lane r w i = if on i then (f i).1 % 2 ^ w else lane old w i) ∧
  ∀ b, fl.getLsbD b = true ↔ ∃ i, i < 512 / w ∧ on i = true ∧ (f i).2.getLsbD b = true

/-- The lane operations of MAJ 0x6: VAd's lane, the operand's, and VA(d XOR 1)'s, in the mode in force (R112). -/
def Sys2Proof.Claims.vfTable (px : List Prefix) (va : BitVec 2) (pp : BitVec 3) (m : Bool) (t : BitVec 2) :
    List (Instr × (RMode → Nat → Nat → Nat → Nat × Flags5)) :=
  let f := fmtOf t
  [(.vfadd px va pp m t, fun r a x _ => fAdd f r a x), (.vfsub px va pp m t, fun r a x _ => fSub f r a x),
   (.vfmul px va pp m t, fun r a x _ => fMul f r a x), (.vfma px va pp m t, fun r a x b => fFma f r a x b),
   (.vfscl px va pp m t, fun r a x _ => fScale f r a (BitVec.ofNat f.bits x).toInt),
   (.vfrsub px va pp m t, fun r a x _ => fSub f r x a), (.vfmin px va pp m t, fun _ a x _ => fMinMax f false false a x),
   (.vfmax px va pp m t, fun _ a x _ => fMinMax f true false a x), (.vfabs px va pp m t, fun _ _ x _ => (fAbs f x, 0)),
   (.vfneg px va pp m t, fun _ _ x _ => (fNeg f x, 0)), (.vfminn px va pp m t, fun _ a x _ => fMinMax f false true a x),
   (.vfmaxn px va pp m t, fun _ a x _ => fMinMax f true true a x)]

/-- The signed value clamped to a lane of `w` bits. -/
def Sys2Proof.Claims.clampLane (w : Nat) (v : Int) : Nat :=
  ((max (-2 ^ (w - 1)) (min v (2 ^ (w - 1) - 1))) % 2 ^ w).toNat

/-- The lane operations of MAJ 0x7, FN 16 to 63, of lane width `w` (R116). -/
def Sys2Proof.Claims.viTable (px : List Prefix) (va : BitVec 2) (pp : BitVec 3) (m : Bool) (t : BitVec 2) :
    List (Instr × (Nat → Nat → Nat)) :=
  let w := 8 * 2 ^ t.toNat
  let i := fun x => (BitVec.ofNat w x).toInt
  [(.viadd px va pp m t, fun a x => if pageSat px then clampLane w (i a + i x) else (a + x) % 2 ^ w),
   (.visub px va pp m t, fun a x => if pageSat px then clampLane w (i a - i x) else (a + 2 ^ w - x) % 2 ^ w),
   (.vimul px va pp m t, fun a x => if pageSat px then clampLane w (i a * i x) else a * x % 2 ^ w),
   (.vimin px va pp m t, fun a x => if i a ≤ i x then a else x), (.vimax px va pp m t, fun a x => if i a ≤ i x then x else a),
   (.viminn px va pp m t, fun a x => min a x), (.vimaxn px va pp m t, fun a x => max a x),
   (.vand px va pp m t, fun a x => a &&& x), (.vor px va pp m t, fun a x => a ||| x), (.vxor px va pp m t, fun a x => a ^^^ x),
   (.vshl px va pp m t, fun a x => if x < w then a * 2 ^ x % 2 ^ w else 0),
   (.vshr px va pp m t, fun a x => if x < w then a / 2 ^ x else 0)]

/-- R38, R111, R112, R116: a lane-wise vector instruction reads 64 bytes at its operand, writes the lanes that PAGE.XE enables,
keeps the others, and ORs the enabled lanes' flags; the integer operations change no flag. -/
def Obligations.VectorLanes : Prop :=
  ∀ (px : List Prefix) (va : BitVec 2) (pp : BitVec 3) (m : Bool) (t : BitVec 2) (s : State) (x : Nat),
    let steps := if m then [pp] else []
    let on := fun (w : State) i => !pageXe px || (w.core.r.mask (pageXk px)).getLsbD i
    (∀ e ∈ vfTable px va pp m t, Clean e.1 s → let w := work e.1 s
      let b := (fmtOf t).bits
      w.loadLocal (w.eaOf pp (dispOf px)) 64 .vec = .ok x →
      ∃ (r : Vec) (fl : Flags5), exec e.1 s = .next (done e.1 s (((w.setVec va r.toNat).orSticky fl).post w steps)) ∧
        lanesAre b (on w) (w.core.r.vec va)
          (fun i => e.2 (w.mode px) (lane (w.core.r.vec va) b i) (lane (BitVec.ofNat 512 x) b i)
            (lane (w.core.r.vec (va ^^^ 1)) b i)) r fl) ∧
    (∀ e ∈ viTable px va pp m t, Clean e.1 s → let w := work e.1 s
      let b := 8 * 2 ^ t.toNat
      w.loadLocal (w.eaOf pp (dispOf px)) 64 .vec = .ok x →
      ∃ r : Vec, exec e.1 s = .next (done e.1 s ((w.setVec va r.toNat).post w steps)) ∧
        lanesAre b (on w) (w.core.r.vec va)
          (fun i => (e.2 (lane (w.core.r.vec va) b i) (lane (BitVec.ofNat 512 x) b i), 0)) r 0)

/-- The pairwise tree of R114 over the lanes `l`: the value at index `i` after `k` levels of rounded sums. -/
def Sys2Proof.Claims.treeAt (f : Fmt) (m : RMode) (l : Nat → Nat) : Nat → Nat → Nat
  | 0, i => l i % 2 ^ f.bits
  | k + 1, i => (fAdd f m (treeAt f m l k (2 * i)) (treeAt f m l k (2 * i + 1))).1 % 2 ^ f.bits

/-- R113 to R115: the comparisons write Kd, VFREDS the tree sum of the lanes (`treeAt`) into A and the flags of every addition of the
tree, a lane masked off entering as −0; for FP64 that is ((l0 + l1) + (l2 + l3)) + ((l4 + l5) + (l6 + l7));
VLD, VST, VBCST, VMOV, VSHUF and VSEL move bytes and change no flag. -/
def Obligations.VectorMoves : Prop :=
  ∀ (px : List Prefix) (va : BitVec 2) (pp : BitVec 3) (m : Bool) (t : BitVec 2) (s u : State) (x : Nat),
    let steps := if m then [pp] else []
    let on := fun (w : State) i => !pageXe px || (w.core.r.mask (pageXk px)).getLsbD i
    let at64 := fun (w : State) => w.loadLocal (w.eaOf pp (dispOf px)) 64 .vec
    let fm := fmtOf t
    (∀ e ∈ [(Instr.vfceq px va pp m t, fun r : FRel => decide (r = .eq), true),
        (.vfclt px va pp m t, fun r => decide (r = .lt), false),
        (.vfcle px va pp m t, fun r => decide (r = .lt ∨ r = .eq), false)], Clean e.1 s → let w := work e.1 s
      at64 w = .ok x →
      ∃ (r : Word) (iv : Bool), exec e.1 s = .next (done e.1 s (((w.setMask va r).orSticky (flagIf iv fIV)).post w steps)) ∧
        (∀ i, r.getLsbD i = if 512 / fm.bits ≤ i then false else if on w i then
            e.2.1 (fCompare fm (lane (w.core.r.vec va) fm.bits i) (lane (BitVec.ofNat 512 x) fm.bits i))
          else (w.core.r.mask va).getLsbD i) ∧
        (iv = true ↔ ∃ i, i < 512 / fm.bits ∧ on w i = true ∧
          ∃ v ∈ [fm.decode (lane (w.core.r.vec va) fm.bits i), fm.decode (lane (BitVec.ofNat 512 x) fm.bits i)],
            (if e.2.2 then v.isSnan else v.isNan) = true)) ∧
    (Clean (.vfreds px va pp m t) s → let w := work (.vfreds px va pp m t) s
      let b := fm.bits
      let levels := if t = 0 then 3 else if t = 1 then 4 else 5
      let l := fun i => if on w i then lane (w.core.r.vec va) b i else 2 ^ (b - 1)
      let sum := treeAt fm (w.mode px) l
      ∃ (r : Word) (fl : Flags5), exec (.vfreds px va pp m t) s = .next (done (.vfreds px va pp m t) s ((w.setA r).orSticky fl)) ∧
        r.toNat = sum levels 0 ∧
        (∀ n, fl.getLsbD n = true ↔ ∃ k i, k < levels ∧ i < 2 ^ (levels - 1 - k) ∧
          (fAdd fm (w.mode px) (sum k (2 * i)) (sum k (2 * i + 1))).2.getLsbD n = true) ∧
        (t = 0 → let e := fun i => if on w i then lane (w.core.r.vec va) 64 i else 2 ^ 63
          let p := fun a b => (fAdd f64 (w.mode px) a b).1
          r.toNat = p (p (p (e 0) (e 1)) (p (e 2) (e 3))) (p (p (e 4) (e 5)) (p (e 6) (e 7))))) ∧
    (Clean (.vld px va pp m) s → let w := work (.vld px va pp m) s
      at64 w = .ok x → exec (.vld px va pp m) s = .next (done (.vld px va pp m) s ((w.setVec va x).post w steps))) ∧
    (Clean (.vst px va pp m) s → let w := work (.vst px va pp m) s
      w.storeLocal (w.eaOf pp (dispOf px)) 64 (w.core.r.vec va).toNat .vec = .ok u →
      exec (.vst px va pp m) s = .next (done (.vst px va pp m) s (u.post w steps))) ∧
    (∀ e ∈ [(Instr.vbcstI64 px va pp m, 8), (.vbcstI32 px va pp m, 4), (.vbcstI16 px va pp m, 2), (.vbcstI8 px va pp m, 1)],
      Clean e.1 s → let w := work e.1 s
      w.loadLocal (w.eaOf pp (dispOf px)) e.2 .bcast = .ok x →
      ∃ r : Vec, exec e.1 s = .next (done e.1 s ((w.setVec va r.toNat).post w steps)) ∧
        lanesAre (8 * e.2) (on w) (w.core.r.vec va) (fun _ => (x, 0)) r 0) ∧
    (Clean (.vmov px va pp m) s → let w := work (.vmov px va pp m) s
      ∃ r : Vec, exec (.vmov px va pp m) s = .next (done (.vmov px va pp m) s (w.setVec va r.toNat)) ∧
        lanesAre 8 (on w) (w.core.r.vec va) (fun i => (lane (w.core.r.vec (pp.extractLsb' 0 2)) 8 i, 0)) r 0) ∧
    (Clean (.vshuf px va pp m) s → let w := work (.vshuf px va pp m) s
      let j := fun i => lane (BitVec.ofNat 512 x) 8 i
      at64 w = .ok x → (∀ i, i < 64 → on w i = true → (j i).testBit 6 = false) →
      ∃ r : Vec, exec (.vshuf px va pp m) s = .next (done (.vshuf px va pp m) s ((w.setVec va r.toNat).post w steps)) ∧
        lanesAre 8 (on w) (w.core.r.vec va)
          (fun i => (if (j i).testBit 7 then 0 else lane (w.core.r.vec (va ^^^ 1)) 8 (j i % 64), 0)) r 0) ∧
    (Clean (.vsel px va pp m) s → let w := work (.vsel px va pp m) s
      let b := 8 * 2 ^ (pp.extractLsb' 0 2).toNat
      ∃ r : Vec, exec (.vsel px va pp m) s = .next (done (.vsel px va pp m) s (w.setVec va r.toNat)) ∧
        lanesAre b (on w) (w.core.r.vec va) (fun i => (if (w.core.r.mask 0).getLsbD i then
          lane (w.core.r.vec (va ^^^ 1)) b i else lane (w.core.r.vec va) b i, 0)) r 0)

/-- A long result of A's or DST's operand (R45, R93): the write it makes. -/
def Sys2Proof.Claims.longTarget (s : State) (px : List Prefix) (sp : BitVec 6) (n v : Nat) : Except Stop LongWrite :=
  match dstOf px with
  | none => .ok ⟨.a, 0xFF, BitVec.ofNat 512 v⟩
  | some d => s.writeTarget (ctxFpD px sp d.1 n) d.1 (BitVec.ofNat 64 v)

/-- The long FP instructions of a scalar operand: its width in bytes, and the value and flags of A and src (R110, R160). -/
def Sys2Proof.Claims.longTable (px : List Prefix) (s : BitVec 6) (w1 : W1) :
    List (Instr × Nat × (RMode → Nat → Nat → Nat × Flags5)) :=
  let f := fmtOf (w1.aux.extractLsb' 0 2)
  [(.exp2 px s w1, 4, fun _ _ x => spExp2 x), (.log2 px s w1, 4, fun _ _ x => spLog2 x), (.rcp px s w1, 4, fun _ _ x => spRcp x),
   (.rsq px s w1, 4, fun _ _ x => spRsq x), (.tanh px s w1, 4, fun _ _ x => spTanh x), (.sinp px s w1, 4, fun _ _ x => spSinp x),
   (.cosp px s w1, 4, fun _ _ x => spCosp x), (.rcps px s w1, 8, fun _ _ x => spRcps x), (.rsqs px s w1, 8, fun _ _ x => spRsqs x),
   (.fdiv px s w1, f.bytes, fun m a x => fDivide f m (a % 2 ^ f.bits) x), (.fsqrt px s w1, f.bytes, fun m _ x => fSqrt f m x)]

/-- The signed quotient and remainder, truncated toward zero, and the unsigned ones, with V (R110). -/
def Sys2Proof.Claims.divTable (px : List Prefix) (s : BitVec 6) (w1 : W1) : List (Instr × (Word → Word → Word × Bool)) :=
  let wraps := fun (a b : Word) => decide (a = BitVec.intMin 64 ∧ b = -1)
  [(.div px s w1, fun a b => if b = 0 then (-1, true) else (a.sdiv b, wraps a b)),
   (.divn px s w1, fun a b => if b = 0 then (-1, true) else (a / b, false)),
   (.rem px s w1, fun a b => if b = 0 then (a, true) else (a.srem b, wraps a b)),
   (.remn px s w1, fun a b => if b = 0 then (a, true) else (a % b, false))]

/-- R45, R46, R110, R160: a long scalar instruction reads its sources and makes its post-steps at issue; its result, with its
flags, joins the outstanding results with LA window instructions to go, or lands at once with LA = 0. DIV, DIVN, REM and REMN
set Z and N from the result and V on division by zero and on −2^63 by −1.
Model's choices: log 21. -/
def Obligations.LongScalars : Prop :=
  ∀ (px : List Prefix) (sp : BitVec 6) (w1 : W1) (s u : State) (src : Word) (tg : LongWrite) (l : LongRes),
    (l.left ≠ 0 → s.addLong l = .ok { s with core := { s.core with long := s.core.long ++ [l] } }) ∧
    (l.left = 0 → s.core.long = [] → s.addLong l = s.land l) ∧
    (∀ e ∈ longTable px sp w1, Clean e.1 s → let w := work e.1 s
      let o := e.2.2 (w.mode px) w.core.r.a.toNat (src.toNat % 2 ^ (8 * e.2.1))
      w.readOp (ctxFp px sp e.2.1) sp = .ok src → longTarget w px sp e.2.1 o.1 = .ok tg →
      w.addLong ⟨w1.la.toNat, [tg], o.2, 0, 0, []⟩ = .ok u →
      exec e.1 s = .next (done e.1 s (u.post w (stepsSD px sp)))) ∧
    (∀ e ∈ divTable px sp w1, Clean e.1 s → let w := work e.1 s
      let o := e.2 w.core.r.a src
      w.readOp (ctxS px sp 8) sp = .ok src →
      (match dstOf px with
        | none => Except.ok (⟨.a, 0xFF, o.1.setWidth 512⟩ : LongWrite)
        | some d => w.writeTarget (ctxD px sp d.1 8) d.1 o.1) = .ok tg →
      w.addLong ⟨w1.la.toNat, [tg], 0, 0b1101, f4 o.1 false o.2, []⟩ = .ok u →
      exec e.1 s = .next (done e.1 s (u.post w (stepsSD px sp))))

/-- The long vector instructions that take a 64-byte operand: lane width, and the value and flags of VAd's lane and the
operand's (R110, R160). -/
def Sys2Proof.Claims.vlongTable (px : List Prefix) (s : BitVec 6) (w1 : W1) :
    List (Instr × Nat × (RMode → Nat → Nat → Nat × Flags5)) :=
  let f := fmtOf (w1.aux.extractLsb' 0 2)
  [(.vexp2 px s w1, 32, fun _ _ x => spExp2 x), (.vlog2 px s w1, 32, fun _ _ x => spLog2 x),
   (.vrcp px s w1, 32, fun _ _ x => spRcp x), (.vrsq px s w1, 32, fun _ _ x => spRsq x),
   (.vtanh px s w1, 32, fun _ _ x => spTanh x),
   (.vfdiv px s w1, f.bits, fun m a x => fDivide f m a x), (.vfsqrt px s w1, f.bits, fun m _ x => fSqrt f m x)]

/-- R110, R111, R158, R159, R160: a long vector instruction issues one write of the enabled lanes of its destination; VCVT fills
VA0 with n = 512 ÷ max(ws, wd) elements and zeroes the bits above; VQNT writes packed elements to memory and VDQNT reads them,
under the scale in A, which must be below 256.
Model's choices: log 21. -/
def Obligations.LongVectors : Prop :=
  ∀ (px : List Prefix) (sp : BitVec 6) (w1 : W1) (s : State) (x : Nat),
    let on := fun (w : State) i => !pageXe px || (w.core.r.mask (pageXk px)).getLsbD i
    let issues := fun (i : Instr) (tg : Target) (f : Nat → Nat × Flags5) (wd n : Nat) (extra : Nat → Bool) =>
      ∃ (mask : BitVec 128) (r : Vec) (fl : Flags5),
        (∀ b, b < 128 → mask.getLsbD b = (extra b || decide (b * 4 / wd < n) && on (work i s) (b * 4 / wd))) ∧
        (∀ j, j < n → on (work i s) j = true → lane r wd j = (f j).1 % 2 ^ wd) ∧
        (∀ b, extra (b / 4) = true → r.getLsbD b = false) ∧
        (∀ b, fl.getLsbD b = true ↔ ∃ j, j < n ∧ on (work i s) j = true ∧ (f j).2.getLsbD b = true) ∧
        ∀ u, (work i s).addLong ⟨w1.la.toNat, [⟨tg, mask, r⟩], fl, 0, 0, []⟩ = .ok u →
          exec i s = .next (done i s (u.post (work i s) (specSteps sp)))
    let none := fun (_ : Nat) => false
    (∀ e ∈ vlongTable px sp w1, Clean e.1 s → let w := work e.1 s
      let d := w1.aux.extractLsb' 2 2
      w.loadLocal (w.eaOf (specPtrNo sp) (dispOf px)) 64 .vec = .ok x →
      issues e.1 (.va d) (fun j => e.2.2 (w.mode px) (lane (w.core.r.vec d) e.2.1 j) (lane (BitVec.ofNat 512 x) e.2.1 j))
        e.2.1 (512 / e.2.1) none) ∧
    (Clean (.vcvt px sp w1) s → let w := work (.vcvt px sp w1) s
      let d := w1.aux.extractLsb' 3 3
      let c := w1.aux.extractLsb' 0 3
      let n := 512 / max (vcvtBits c) (vcvtBits d)
      let ea := w.eaOf (specPtrNo sp) (dispOf px)
      let bytes := n * vcvtBits c / 8
      ea % bytes = 0 → w.extentBad w.focus ea bytes = Option.none → w.localRead (w.localKind w.focus ea) ea bytes = .ok x →
      issues (.vcvt px sp w1) (.va 0) (fun j => let v := x / 2 ^ (vcvtBits c * j) % 2 ^ vcvtBits c
          vcvtValue d c (w.cvtMode px (vcvtBits d) (BitVec.ofNat 64 v) j) (pageSat px) v)
        (vcvtBits d) n (fun b => decide (n * vcvtBits d ≤ 4 * b))) ∧
    (Clean (.vqnt px sp w1) s → let w := work (.vqnt px sp w1) s
      let d := w1.aux.extractLsb' 4 2
      let f := fmtOf (w1.aux.extractLsb' 2 2)
      let el := w1.aux.extractLsb' 0 2
      let n := 512 / f.bits
      let ea := w.eaOf (specPtrNo sp) (dispOf px)
      let bytes := n * elBits el / 8
      w.core.r.a.toNat < 256 → ea % bytes = 0 → w.extentBad w.focus ea bytes = Option.none →
      issues (.vqnt px sp w1) (.mem (BitVec.ofNat 24 ea)) (fun j => let v := lane (w.core.r.vec d) f.bits j
          quantise el w.core.r.a.toNat (w.cvtMode px (elBits el) (BitVec.ofNat 64 v) j) (pageSat px) (f.decode v))
        (elBits el) n none) ∧
    (Clean (.vdqnt px sp w1) s → let w := work (.vdqnt px sp w1) s
      let f := fmtOf (w1.aux.extractLsb' 2 2)
      let el := w1.aux.extractLsb' 0 2
      let n := 512 / f.bits
      let ea := w.eaOf (specPtrNo sp) (dispOf px)
      let bytes := n * elBits el / 8
      w.core.r.a.toNat < 256 → ea % bytes = 0 → w.extentBad w.focus ea bytes = Option.none →
      w.localRead (w.localKind w.focus ea) ea bytes = .ok x →
      issues (.vdqnt px sp w1) (.va (w1.aux.extractLsb' 4 2)) (fun j =>
          let v := x / 2 ^ (elBits el * j) % 2 ^ elBits el
          dequantise el w.core.r.a.toNat f (w.cvtMode px f.bits (BitVec.ofNat 64 v) j) v) f.bits n none) ∧
    (∀ i ∈ [Instr.vqnt px sp w1, .vdqnt px sp w1], Clean i s → let w := work i s
      let ea := w.eaOf (specPtrNo sp) (dispOf px)
      let bytes := 512 / (fmtOf (w1.aux.extractLsb' 2 2)).bits * elBits (w1.aux.extractLsb' 0 2) / 8
      (ea % bytes ≠ 0 → exec i s = .next (faulted i s ⟨0x06, 0x00, Option.none, BitVec.ofNat 64 ea, 0, 0⟩)) ∧
      (ea % bytes = 0 → ∀ k, w.extentBad w.focus ea bytes = some k →
        exec i s = .next (faulted i s ⟨0x0A, k, Option.none, BitVec.ofNat 64 ea, 0, 0⟩)) ∧
      (ea % bytes = 0 → w.extentBad w.focus ea bytes = Option.none → 256 ≤ w.core.r.a.toNat →
        exec i s = .next (faulted i s (opnd 0x07 0x15 w.core.r.a))))

/-- The image of an accumulator in memory: SUM in two's complement below the four flags (R81). -/
def Sys2Proof.Claims.imageOf (x64 : Bool) (a : Xacc) : Nat :=
  (a.sum % 2 ^ (if x64 then 2131 else 310)).toNat + a.flags.toNat * 2 ^ (if x64 then 2131 else 310)

/-- R81, R82, R148 to R150: in working scratchpad, XADD, VXADD and XMRG replace the accumulator at the operand by its image with
the value, the enabled lanes or the second accumulator added; XCLR zeroes it; XRND issues its rounded value. A reserved bit of
an image raises OPND detail 0x17, a slot number or address out of range 0x16, a poisoned byte that is read POISON (R415), XCLR's
reading included. No FENCE holds the accesses (R171).
Model's choices: log 66. -/
def Obligations.ExactAccumulators : Prop :=
  ∀ (px : List Prefix) (sp : BitVec 6) (w1 : W1) (s u : State) (a b : Xacc) (tg : LongWrite),
    let x64 := w1.aux.getLsbD 2
    let f := fmtOf (w1.aux.extractLsb' 0 2)
    let bytes := if x64 then 272 else 40
    let at' := fun (w : State) => w.eaOf (specPtrNo sp) (dispOf px)
    let works := fun (w : State) => Unheld w ∧ w.svc = false ∧ at' w % 64 = 0 ∧ w.extentBad w.focus (at' w) bytes = none ∧
      w.localKind w.focus (at' w) = .work ∧ ∀ k, k ≤ bytes / 64 → w.localKind w.focus (at' w + 64 * k) = .work
    let here := fun (w : State) => w.spad.readLE (clusterOf w.focus * 16777216 + at' w) bytes
    let sound := fun (w : State) => works w ∧ w.storeBad (clusterOf w.focus * 16777216 + at' w) bytes = false
    let writes := fun (i : Instr) (r : Xacc) => ∃ t : State, exec i s = .next (done i s (t.post (work i s) (specSteps sp))) ∧
      { t with spad := (work i s).spad, badStore := (work i s).badStore } = work i s ∧
      t.spad.readLE (clusterOf (work i s).focus * 16777216 + at' (work i s)) bytes = imageOf x64 r ∧
      ∀ x, (x < clusterOf (work i s).focus * 16777216 + at' (work i s) ∨
          clusterOf (work i s).focus * 16777216 + at' (work i s) + bytes ≤ x) → t.spad.read x = (work i s).spad.read x
    (∀ i ∈ [Instr.xadd px sp w1, .vxadd px sp w1, .xmrg px sp w1, .xclr px sp w1, .xrnd px sp w1], Clean i s → works (work i s) →
      (work i s).storeBad (clusterOf (work i s).focus * 16777216 + at' (work i s)) bytes = true →
      exec i s = .next (faulted i s (opnd 0x11 0x01 (BitVec.ofNat 64 (at' (work i s)))))) ∧
    (∀ i ∈ [Instr.xadd px sp w1, .vxadd px sp w1, .xmrg px sp w1, .xrnd px sp w1], Clean i s → sound (work i s) →
      2 ^ ((if x64 then 2131 else 310) + 4) ≤ here (work i s) →
      exec i s = .next (faulted i s (opnd 0x07 0x17 (BitVec.ofNat 64 (at' (work i s)))))) ∧
    (Clean (.xadd px sp w1) s → let w := work (.xadd px sp w1) s
      sound w → w.spad.wf = true → xaccOf x64 (here w) = some a →
      writes (.xadd px sp w1) (xaccAdd x64 a (f.decode (w.core.r.a.toNat % 2 ^ f.bits)))) ∧
    (Clean (.vxadd px sp w1) s → let w := work (.vxadd px sp w1) s
      sound w → w.spad.wf = true → xaccOf x64 (here w) = some a →
      writes (.vxadd px sp w1) ((List.range (512 / f.bits)).foldl (fun c j =>
        if !pageXe px || (w.core.r.mask (pageXk px)).getLsbD j then
          xaccAdd x64 c (f.decode (lane (w.core.r.vec (w1.aux.extractLsb' 3 2)) f.bits j)) else c) a)) ∧
    (Clean (.xmrg px sp w1) s → w1.aux.getLsbD 3 = true → x64 = false → let w := work (.xmrg px sp w1) s
      let n := w.core.r.a.toNat
      sound w → w.spad.wf = true → xaccOf x64 (here w) = some a → n ≤ 27 →
      xaccOf false ((List.range 5).foldl (fun c k => c + (w.core.r.slot (BitVec.ofNat 5 (n + k))).toNat * 2 ^ (64 * k)) 0) =
        some b →
      writes (.xmrg px sp w1) (xaccMerge false a b)) ∧
    (Clean (.xmrg px sp w1) s → w1.aux.getLsbD 3 = false → let w := work (.xmrg px sp w1) s
      sound w → w.spad.wf = true → xaccOf x64 (here w) = some a → w.core.r.a.toNat < 2 ^ 24 →
      w.readXacc x64 w.core.r.a.toNat = .ok b →
      writes (.xmrg px sp w1) (xaccMerge x64 a b)) ∧
    (Clean (.xmrg px sp w1) s → let w := work (.xmrg px sp w1) s
      sound w → xaccOf x64 (here w) = some a →
      (if w1.aux.getLsbD 3 then 27 < w.core.r.a.toNat else 2 ^ 24 ≤ w.core.r.a.toNat) →
      exec (.xmrg px sp w1) s = .next (faulted (.xmrg px sp w1) s (opnd 0x07 0x16 w.core.r.a))) ∧
    (Clean (.xclr px sp w1) s → sound (work (.xclr px sp w1) s) → (work (.xclr px sp w1) s).spad.wf = true →
      writes (.xclr px sp w1) ⟨0, 0⟩) ∧
    (Clean (.xrnd px sp w1) s → let w := work (.xrnd px sp w1) s
      sound w → xaccOf x64 (here w) = some a →
      let o := xaccRound x64 f (w.mode px) a
      longTarget w px sp f.bytes o.1 = .ok tg → w.addLong ⟨w1.la.toNat, [tg], o.2, 0, 0, []⟩ = .ok u →
      exec (.xrnd px sp w1) s = .next (done (.xrnd px sp w1) s (u.post w (stepsSD px sp))))

/-! ### Control, repetition, channels, control registers, exceptions -/

/-- The control transfers (R294 to R298): taken or not, the target, whether M23 takes the return address. The base word's
address is the program counter plus two bytes a prefix; an offset counts halfwords. -/
def Sys2Proof.Claims.transfers (px : List Prefix) (off9 : BitVec 9) (off11 : BitVec 11) (arg : BitVec 8) :
    List (Instr × (State → Bool) × (State → Word) × Bool) :=
  let near := fun (f field : Nat) (w : State) => w.core.pc + BitVec.ofNat 64 (2 * px.length) + 2 * immSigned px f field
  let flag := fun (n : Nat) (w : State) => w.core.r.flg.getLsbD n
  let slot := fun (w : State) => w.core.r.slot (arg.extractLsb' 0 5)
  [(.br px 0 off9, flag 3, near 9 off9.toNat, false),
   (.br px 1 off9, fun w => !flag 3 w, near 9 off9.toNat, false),
   (.br px 2 off9, fun w => flag 2 w ^^ flag 0 w, near 9 off9.toNat, false),
   (.br px 3 off9, fun w => !(flag 2 w ^^ flag 0 w), near 9 off9.toNat, false),
   (.br px 4 off9, flag 1, near 9 off9.toNat, false),
   (.br px 5 off9, fun w => !flag 1 w, near 9 off9.toNat, false),
   (.br px 6 off9, fun w => w.core.r.k[0] != 0, near 9 off9.toNat, false),
   (.br px 7 off9, fun _ => true, near 9 off9.toNat, false),
   (.jmp px off11, fun _ => true, near 11 off11.toNat, false),
   (.brl px off11, fun _ => true, near 11 off11.toNat, true),
   (.jmps px arg, fun _ => true, slot, false),
   (.brls px arg, fun _ => true, slot, true),
   (.ret px, fun _ => true, fun w => w.core.r.m[23], false)]

/-- R294 to R299: a transfer that is taken continues at its target and closes every window; BRL and BRLS write the address
behind their base word to M23 and set PRES[23], BRLS after reading its target. An odd target raises ALIGN detail 0x03 and
changes no register. A branch that is not taken changes nothing of its own. -/
def Obligations.ControlTransfers : Prop :=
  ∀ (px : List Prefix) (off9 : BitVec 9) (off11 : BitVec 11) (arg : BitVec 8) (s : State),
    ∀ e ∈ transfers px off9 off11 arg, Clean e.1 s →
      let w := work e.1 s
      let x := e.2.2.1 w
      let linked : State := { w with core := { w.core with r := { w.core.r with
        m := w.core.r.m.set 23 (w.core.pc + BitVec.ofNat 64 (2 * px.length) + 2)
        pres := w.core.r.pres ||| 0x00800000#32 } } }
      (e.2.1 w = false → exec e.1 s = .next (done e.1 s w)) ∧
      (e.2.1 w = true → x.getLsbD 0 = false →
        exec e.1 s = .next (State.jumpTo (if e.2.2.2 then linked else w) x)) ∧
      (e.2.1 w = true → x.getLsbD 0 = true → exec e.1 s = .next (faulted e.1 s (opnd 0x06 0x03 x)))

/-- R53, R294, R318: NOP only moves on. DONE, COMMIT and YIELD commit with the program counter behind them; DONE and YIELD end
the activation, YIELD after a bare pend on its channel. SVC commits alike and then raises cause SVC with its number as detail
and A[15:0] as info, whose checkpoint is the state behind the SVC.
Model's choices: log 10. -/
def Obligations.EndingForms : Prop :=
  ∀ (px : List Prefix) (sp : BitVec 6) (w1 : W1) (s : State) (ch : BitVec 6) (p : Parts),
    let behind := fun (i : Instr) => (s.boundary.retire s.boundary i.bytes).commit
    (Clean (.nop px) s → exec (.nop px) s = .next (done (.nop px) s (work (.nop px) s))) ∧
    (Clean (.commit px) s → exec (.commit px) s = .next (behind (.commit px))) ∧
    (Clean (.done px) s → let t := behind (.done px)
      exec (.done px) s = .next { t with core := { t.core with act := none } }) ∧
    (Clean (.yield px) s → let t := behind (.yield px)
      t.core.act = some ch →
      exec (.yield px) s = .next { t with core := { t.core with
        act := none, chans := t.core.chans.set ch.toNat { t.core.chan ch with bare := true } ch.isLt } }) ∧
    (Clean (.svc px sp w1) s → (Instr.svc px sp w1).parts = some p → let t := behind (.svc px sp w1)
      exec (.svc px sp w1) s = .next (t.takeFault (s.boundary.site p)
        ⟨0x31, w1.aux.setWidth 8, some (t.core.r.a.extractLsb' 0 16), 0, 0, 0⟩))

/-- R396, R397, R403 to R405: TRAP #n raises cause TRAP with detail n and info 0. On a small core with a free park slot, and a
free frame at its tile's service core, FCODE takes the fault word, the region is discarded, the activation ends, the slot
holds the checkpoint as migrated with its generation one higher, the frame's doublewords hold LID, partition, channel and
fault word, the source and TOKEN, the checkpoint's program counter, A, FLG, presence bits, P0 to P7 and M0 to M23, and MIGBUSY
marks the frame. -/
def Sys2Proof.Claims.trapMigrates : Prop :=
  ∀ (px : List Prefix) (num : BitVec 8) (s : State),
    (Clean (.trap px num) s →
      exec (.trap px num) s = .next (faulted (.trap px num) s ⟨0x30, num, some 0, 0, 0, 0⟩)) ∧
    ∀ (x : Site) (ch : BitVec 6) (n : BitVec 2) (f : Nat), s.svc = false → s.core.act = some ch →
      s.core.freePark = some n → s.lstore.wf = true →
      let tile := tileOf s.focus
      let v := s.coreAt (svcOf tile)
      freeFrame v.ctl.migcfg v.ctl.migbusy = some f →
      let a := tile * 16777216 + frameAddr v.ctl.migcfg f
      let fw := (0x30#8 ++ num) ++ 0#16
      let u := s.takeFault x ⟨0x30, num, some 0, 0, 0, 0⟩
      let k := s.core.ck
      let at' := fun o => BitVec.ofNat 64 (u.lstore.readLE (a + o) 8)
      u.core.ctl.fcode = fw ∧ u.core.act = none ∧ u.core.r = s.discard.core.r ∧ u.core.pc = k.pc ∧
      (u.core.park n).st = .migrated ∧ (u.core.park n).ck = k ∧ (u.core.park n).chan = ch ∧
      (u.core.park n).fword = fw ∧ (u.core.park n).gen = (s.core.park n).gen + 1 ∧
      (u.coreAt (svcOf tile)).ctl.migbusy = (v.ctl.migbusy ||| BitVec.ofNat 64 (2 ^ f)) ∧
      at' 0 = s.core.lid ++ (0#1 ++ BitVec.ofNat 7 (s.partOf s.focus)) ++ (0#2 ++ ch) ++ fw ∧
      at' 8 = 0#34 ++ ((s.core.park n).gen + 1) ++ 0#12 ++ BitVec.ofNat 12 (s.focus % 4096) ∧
      at' 0x20 = k.pc ∧ at' 0x38 = k.a ∧ at' 0x40 = k.flg ∧ at' 0x48 = k.pres.setWidth 64 ∧
      (∀ (i : Nat) (h : i < 8), at' (0x80 + 8 * i) = k.p[i]) ∧ (∀ (i : Nat) (h : i < 24), at' (0xC0 + 8 * i) = k.m[i]) ∧
      u.mem = s.mem ∧ u.spad = s.spad ∧
      ∀ b, b < a ∨ a + 512 ≤ b → u.lstore.read b = s.lstore.read b

/-- R403, R405, R406: ERET takes the frame whose local address A holds, where MIGBUSY marks it: the return carries CTL, PC,
REPST, REPPC, A, FLG, PRES, P0 to P7 and M0 to M23 of the frame to the core and TOKEN whose migration holds it (log 28), and
MIGBUSY's bit is cleared. An A that is no frame in use raises OPND detail 0x71; reserved bits in CTL, PRES or FLG, a
reserved RM, or a REPST against R405 raise 0x72. -/
def Sys2Proof.Claims.errorReturn : Prop :=
  ∀ (px : List Prefix) (s : State) (n owner : Nat) (tok : BitVec 8), Clean (.eret px) s →
    let w := work (.eret px) s
    let k := w.core.ctl
    let dword := fun o => BitVec.ofNat 64 (w.lstore.readLE (tileOf w.focus * 16777216 + w.core.r.a.toNat + o) 8)
    let starts := fun (i : Nat) => i ≤ bits k.migcfg 23 18 ∧ k.migbusy.getLsbD i = true ∧
      w.core.r.a = BitVec.ofNat 64 (512 * (bits k.migcfg 17 9 + i))
    let rep := dword 0x28
    let good := bits (dword 0x18) 63 1 = 0 ∧ bits (dword 0x48) 63 24 = 0 ∧ bits (dword 0x40) 63 16 = 0 ∧
      bits (dword 0x40) 11 9 = 0 ∧ bits (dword 0x40) 14 12 ≤ 4 ∧ bits rep 9 1 = 0 ∧
      (if rep.getLsbD 0 = true then bits rep 12 10 ≤ bits rep 23 21 else rep = 0 ∧ dword 0x30 = 0)
    (starts n → good → w.core.frames.find? (fun e => e.1 == n) = some (n, (owner, tok)) →
      exec (.eret px) s = .next (done (.eret px) s { w with
        core := { w.core with
          ctl := { k with migbusy := k.migbusy &&& ~~~(BitVec.ofNat 64 (2 ^ n)) }
          frames := w.core.frames.filter fun e => e.1 != n }
        wire := w.wire ++ [⟨.ret tok, w.focus, owner, 56, 0,
          [0x18, 0x20, 0x28, 0x30, 0x38, 0x40, 0x48].map dword ++
            (List.range 32).map (fun i => dword (0x80 + 8 * i)), 0, none, 0, 0, .direct⟩] })) ∧
    (starts n → ¬ good → exec (.eret px) s = .next (faulted (.eret px) s (opnd 0x07 0x72 w.core.r.a))) ∧
    ((∀ i, ¬ starts i) → exec (.eret px) s = .next (faulted (.eret px) s (opnd 0x07 0x71 w.core.r.a)))

/-- TRAP migrates the activation to the service core's frame, and ERET returns it: `trapMigrates` and `errorReturn`.
Model's choices: log 15, 28. -/
def Obligations.TrapAndReturn : Prop := trapMigrates ∧ errorReturn


/-- The words of an instruction as far as its length goes (R29, R35): at most four prefix words, the base word, and the second word that
a base word of MAJ 0xC, 0xD or 0xE has. -/
def Sys2Proof.Claims.wordsOf (l : List Half) : Prop :=
  ∃ (p : List Half) (b : Half) (r : List Half), l = p ++ b :: r ∧ p.length ≤ 4 ∧
    (∀ w ∈ p, 0xF000 ≤ w.toNat ∧ w.toNat < 0xFC00) ∧ ¬(0xF000 ≤ b.toNat ∧ b.toNat < 0xFC00) ∧
    r.length = if 0xC ≤ b.toNat / 4096 ∧ b.toNat / 4096 ≤ 0xE then 1 else 0

/-- The words `l` are read one after the other from an address, and leave the state `t`. -/
def Sys2Proof.Claims.reads (s : State) (a : Nat) : List Half → State → Prop
  | [], t => t = s
  | w :: l, t => ∃ u : State, s.fetchHalf a 2 = (u, .ok w) ∧ reads u (a + 2) l t

/-- R300: a REP whose count, from IMMX or from A[8:0] + 1, is not 0 starts its body with that many iterations at slot stride
STR; with a count of 0 control passes behind the body's 1 to 8 instructions, stepped over by their lengths, prefix words
included. -/
def Obligations.Repetition : Prop :=
  ∀ (px : List Prefix) (arg : BitVec 8) (s t : State) (body : List (List Half)), Clean (.rep px arg) s →
    let b := base (.rep px arg) s
    let w := work (.rep px arg) s
    let n := if immxCount px = 0 then (b.core.r.a.extractLsb' 0 9).toNat + 1 else immxVal px 0
    let next := b.core.pc + BitVec.ofNat 64 (2 * px.length + 2)
    (n ≠ 0 → exec (.rep px arg) s = .next { w with core := { w.core with
      pc := next, icount := w.core.icount + 1, xfer := false
      rep := ⟨true, BitVec.ofNat 40 n, arg.extractLsb' 5 3, arg.extractLsb' 2 3, 0, 0, b.core.pc, some next⟩ } }) ∧
    (n = 0 → body.length = (arg.extractLsb' 5 3).toNat + 1 → (∀ l ∈ body, wordsOf l) →
      let counted : State := { w with core := { w.core with icount := w.core.icount + 1, xfer := false } }
      reads counted next.toNat body.flatten t →
      exec (.rep px arg) s = .next { t with core := { t.core with pc := next + BitVec.ofNat 64 (2 * body.flatten.length) } })

/-- R272, R301, R302: the channel and class-mask instructions. CHEN and CHDIS change one
enable bit and none for channel 56, CHPEND makes and CHCLR
clears a bare pend, CHPRI sets both priorities and clears PASS; CHPEND and CHPRI of channel 56 raise OPND detail 0x43. CMASK
and CUNMASK set and clear bits of the class mask. -/
def Sys2Proof.Claims.channelForms : Prop :=
  ∀ (px : List Prefix) (arg : BitVec 8) (s : State),
    let c := arg.extractLsb' 0 6
    let bit : BitVec 64 := 1#64 <<< c.toNat
    let now := fun (i : Instr) (f : Core → Core) => Clean i s →
      exec i s = .next (done i s { work i s with core := f (work i s).core })
    let pri := BitVec.ofNat 3 (immxVal px 0)
    (c ≠ 56 → now (.chen px arg) fun k => { k with ctl := { k.ctl with chen := k.ctl.chen ||| bit } }) ∧
    (c ≠ 56 → now (.chdis px arg) fun k => { k with ctl := { k.ctl with chen := k.ctl.chen &&& ~~~bit } }) ∧
    (c = 56 → now (.chen px arg) (fun k => k) ∧ now (.chdis px arg) (fun k => k)) ∧
    (c ≠ 56 → now (.chpend px arg) fun k => { k with
      chans := k.chans.set c.toNat { k.chan c with bare := true } c.isLt }) ∧
    now (.chclr px arg) (fun k => { k with chans := k.chans.set c.toNat { k.chan c with bare := false } c.isLt }) ∧
    (c ≠ 56 → now (.chpri px arg) fun k => { k with
      chans := k.chans.set c.toNat { k.chan c with pri := pri, epri := pri, pass := 0 } c.isLt }) ∧
    (c = 56 → ∀ i ∈ [Instr.chpend px arg, .chpri px arg], Clean i s →
      exec i s = .next (faulted i s (opnd 0x07 0x43 56))) ∧
    now (.cmask px arg) (fun k => { k with ctl := { k.ctl with cmask := k.ctl.cmask ||| arg } }) ∧
    now (.cunmask px arg) (fun k => { k with ctl := { k.ctl with cmask := k.ctl.cmask &&& ~~~arg } })

/-- R272, R288 to R290, R303, R402: MFC reads a control register into A, MTC writes one from A. CORE is the core's id, LID the
launch's, CHEN reads 1 in channel 56's bit and keeps it; XSEED, CMASK, FCODE, MIGCFG, MIGBUSY, SCODE, SHTAB, MGA read as
held; a write of RMODE with a reserved RM keeps the old mode; a read-only register ignores writes. Neither changes anything
else. -/
def Sys2Proof.Claims.controlRegisters : Prop :=
  ∀ (px : List Prefix) (s : State) (v : Word),
    let rd := fun (n : BitVec 8) (f : State → Word) => Clean (.mfc px n) s →
      exec (.mfc px n) s = .next (done (.mfc px n) s ((work (.mfc px n) s).setA (f (work (.mfc px n) s))))
    let wr := fun (n : BitVec 8) (f : Ctl → Word → Ctl) => Clean (.mtc px n) s → let w := work (.mtc px n) s
      exec (.mtc px n) s = .next (done (.mtc px n) s { w with core := { w.core with ctl := f w.core.ctl w.core.r.a } })
    let bit56 : BitVec 64 := 0x0100000000000000#64
    rd 0x00 (fun w => BitVec.ofNat 64 w.focus) ∧
    rd 0x01 (fun w => BitVec.ofNat 64 (w.partOf w.focus)) ∧
    rd 0x02 (fun w => w.core.lid.setWidth 64) ∧
    rd 0x04 (fun w => (w.core.ctl.chen.extractLsb' 0 32).setWidth 64) ∧
    rd 0x05 (fun w => ((w.core.ctl.chen ||| bit56).extractLsb' 32 32).setWidth 64) ∧
    rd 0x08 (fun w => w.core.ctl.cmask.setWidth 64) ∧
    rd 0x09 (fun w => w.core.ctl.rmode) ∧
    rd 0x0A (fun w => w.core.ctl.xseed) ∧
    rd 0x0C (fun w => w.core.ctl.fcode.setWidth 64) ∧
    rd 0x81 (fun w => w.core.ctl.migcfg) ∧
    rd 0x82 (fun w => w.core.ctl.migbusy) ∧
    rd 0x84 (fun w => w.core.ctl.scode) ∧
    rd 0x85 (fun w => w.core.ctl.shtab) ∧
    rd 0x88 (fun w => (w.part (w.partOf w.focus)).ptroot) ∧
    rd 0x98 (fun w => w.core.ctl.mga) ∧
    wr 0x04 (fun k a => { k with chen := (k.chen.extractLsb' 32 32 ++ a.extractLsb' 0 32) &&& ~~~bit56 }) ∧
    wr 0x05 (fun k a => { k with chen := (a.extractLsb' 0 32 ++ k.chen.extractLsb' 0 32) &&& ~~~bit56 }) ∧
    wr 0x08 (fun k a => { k with cmask := a.extractLsb' 0 8 }) ∧
    wr 0x09 (fun k a => { k with rmode :=
      (a.extractLsb' 3 1 ++ (if (a.extractLsb' 0 3).toNat ≤ 4 then a.extractLsb' 0 3 else k.rmode.extractLsb' 0 3)).setWidth 64 }) ∧
    wr 0x0A (fun k a => { k with xseed := a }) ∧
    wr 0x98 (fun k a => { k with mga := a &&& 0x00000000000FFFF8#64 }) ∧
    ∀ n ∈ [0x00, 0x01, 0x02, 0x03, 0x06, 0x07, 0x0B, 0x0C, 0x0D, 0x0E, 0x0F], wr n (fun k _ => k)

/-- The channel and class-mask instructions; MFC and MTC: `channelForms` and `controlRegisters`.
Model's choices: log 8. -/
def Obligations.ChannelsAndControlRegisters : Prop := channelForms ∧ controlRegisters

/-! ### Global memory: loads, stores, publication, atomics, fences -/

/-- What a read may do to the caches besides its result: caches, dedup counts, directory, declared tiles, L2, the homes'
copies of lines that leave a cache and their poison move on; everything else, memory above all, is as before. -/
def Sys2Proof.Claims.sameButCaches (t c : State) : Prop :=
  { c with clusters := t.clusters, dcaches := t.dcaches, parts := t.parts, dir := t.dir, tiles := t.tiles, l2 := t.l2,
           home := t.home, poison := t.poison, freeCtr := t.freeCtr } = t

/-- A spot holds `v` in `n` bytes and a load of it completes: a local address that admits the read; a remote one none of whose
bytes is poisoned; a physical one on a page that is no device's, whose bytes the buffer holds, or that waits for no host and is not
poisoned; `unc` marks LDX, which takes no copy. -/
def Sys2Proof.Claims.loads (t : State) (unc : Bool) (n : Nat) (use : WinUse) (v : Nat) : Spot → Prop
  | .loc ea => t.loadLocal ea n use = .ok v
  | .rem cl off => heldBy false t.core.buf = false ∧ t.spotLE (.rem cl off) n = some v ∧
      ∀ i ∈ t.fromMemory (.rem cl off) n, t.storeBad (cl * 16777216 + (off + i)) 1 = false
  | .phys pa leaf => heldBy false t.core.buf = false ∧ t.spotLE (.phys pa leaf) n = some v ∧ ptePol leaf ≠ 2 ∧
      (t.fromMemory (.phys pa leaf) n = [] ∨
        (t.hostBlock (t.readStops t.focus (!unc && t.cachedLeaf pa leaf) (pa / 128)) = none ∧
          ∀ i ∈ t.fromMemory (.phys pa leaf) n, t.meetsPoison (t.cacheFor t.focus) (pa + i) 1 = false))

/-- The address operand of a MAJ 0xC instruction (R200). -/
def Sys2Proof.Claims.address (w : State) (px : List Prefix) (sp : BitVec 6) : Except Stop Word :=
  w.readOp ⟨8, false, 0, if specPtr sp then dispOf px else 0⟩ sp

/-- The byte of a 64-byte access is in an enabled lane (R206). -/
def Sys2Proof.Claims.byteOn (w : State) (px : List Prefix) (w1 : W1) (i : Nat) : Bool :=
  !pageXe px || (w.core.r.mask (pageXk px)).getLsbD (i / 2 ^ (w1.aux.extractLsb' 2 2).toNat)

/-- R203, R205, R206, R208: LDG and LDX read A or DST at the operand's address, extended as DST.W asks, VLDG the enabled lanes
of VAd; LDX allocates no copy in a cache. What a region reads is memory under its own buffered bytes; a remote read that meets the
region's own unpublished local write commits first and returns the published bytes (R169, R185). PREF only reads its operand. A poisoned location
raises POISON detail 0x01, where a host sent the bytes HPOIS.
Model's choices: log 3. -/
def Obligations.GlobalLoads : Prop :=
  ∀ (px : List Prefix) (sp : BitVec 6) (w1 : W1) (s t c : State) (va leaf : Word) (pa v n cl : Nat) (x : Spot) (g : GEntry)
    (m : BitVec 16) (d : BitVec 128) (h : Bool) (blk : BitVec 24) (pm : BitVec 32),
    (t.core.buf = [] → t.spotLE (.phys pa leaf) n = some (t.mem.readLE pa n)) ∧
    (t.core.buf = [] → ∀ cl, t.spotLE (.rem cl pa) n = some (t.spad.readLE (cl * 16777216 + pa) n)) ∧
    (t.core.buf = [.glob g] → g.place = .phys (pa / 16 * 16) → g.kind = .bytes m d h → pa % 16 + n ≤ 16 →
      t.spotLE (.phys pa leaf) n = some v → ∀ j, j < n → BitVec.ofNat 8 (v / 256 ^ j) =
        (if m.getLsbD (pa % 16 + j) then d.extractLsb' (8 * (pa % 16 + j)) 8 else t.mem.read (pa + j))) ∧
    (∀ j, j < 2 * n → pa % 16 + n ≤ 16 → BufEntry.pers blk (.bytes pm d) ∈ t.core.buf → pa / 16 * 16 = blk.toNat →
      pm.getLsbD (2 * (pa % 16) + j) = true → t.spotLE (.rem (clusterOf t.focus) pa) n = none) ∧
    (∀ i ∈ [Instr.ldg px sp w1, .ldx px sp w1], Clean i s → s.boundary.commitBlock = none →
      let k := widthBytes (dstW px) 8
      address (work i s) px sp = .ok va → (work i s).resolve .read va k = (t, .ok (.rem cl pa)) →
      t.spotLE (.rem cl pa) k = none →
      let w := s.boundary.commit.tickLong
      address w px sp = .ok va → w.resolve .read va k = (c, .ok (.rem cl pa)) → c.storeBad (cl * 16777216 + pa) k = false →
      let r := extendBytes k ((dstW px).getLsbD 3) (c.spad.readLE (cl * 16777216 + pa) k)
      ∀ tg u, (match dstOf px with
          | none => Except.ok (⟨.a, 0xFF, r.setWidth 512⟩ : LongWrite)
          | some e => c.writeTarget ⟨k, false, 0, 0⟩ e.1 r) = .ok tg →
        c.addLong ⟨w1.la.toNat, [tg], 0, 0, 0, []⟩ = .ok u →
        exec i s = .next ((u.post w (stepsSD px sp)).retire s.boundary.commit i.bytes)) ∧
    (∀ i ∈ [Instr.ldg px sp w1, .ldx px sp w1], Clean i s → let w := work i s
      let k := widthBytes (dstW px) 8
      address w px sp = .ok va → w.resolve .read va k = (t, .ok x) → loads t (decide (i = .ldx px sp w1)) k .scalar v x →
      ∃ c : State, sameButCaches t c ∧ (i = .ldx px sp w1 → ∀ k l, (c.l1At k l).isSome = (t.l1At k l).isSome) ∧
        let r := extendBytes k ((dstW px).getLsbD 3) v
        ∀ tg u, (match dstOf px with
            | none => Except.ok (⟨.a, 0xFF, r.setWidth 512⟩ : LongWrite)
            | some e => c.writeTarget ⟨k, false, 0, 0⟩ e.1 r) = .ok tg →
          c.addLong ⟨w1.la.toNat, [tg], 0, 0, 0, []⟩ = .ok u →
          exec i s = .next (done i s (u.post w (stepsSD px sp)))) ∧
    (∀ i ∈ [Instr.ldg px sp w1, .ldx px sp w1], Clean i s → let w := work i s
      address w px sp = .ok va → w.resolve .read va (widthBytes (dstW px) 8) = (t, .ok (.phys pa leaf)) → ptePol leaf ≠ 2 →
      t.core.buf = [] →
      t.hostBlock (t.readStops t.focus (decide (i = .ldg px sp w1) && t.cachedLeaf pa leaf) (pa / 128)) = none →
      t.poisoned pa (widthBytes (dstW px) 8) = true →
      exec i s = .next (faulted i s (if inHost pa 1 then opnd 0x1A 0x00 va else opnd 0x11 0x01 va))) ∧
    (Clean (.vldg px sp w1) s → let w := work (.vldg px sp w1) s
      address w px sp = .ok va → (∃ i, i < 64 ∧ byteOn w px w1 i = true) → w.resolve .read va 64 = (t, .ok x) →
      loads t false 64 .whole v x →
      ∃ (c : State) (mask : BitVec 128), sameButCaches t c ∧ (∀ b, b < 128 → mask.getLsbD b = byteOn w px w1 (b / 2)) ∧
        ∀ u, c.addLong ⟨w1.la.toNat, [⟨.va (w1.aux.extractLsb' 0 2), mask, BitVec.ofNat 512 v⟩], 0, 0, 0, []⟩ = .ok u →
          exec (.vldg px sp w1) s = .next (done (.vldg px sp w1) s (u.post w (specSteps sp)))) ∧
    (Clean (.pref px sp w1) s → let w := work (.pref px sp w1) s
      address w px sp = .ok va →
      exec (.pref px sp w1) s = .next (done (.pref px sp w1) s (w.post w (specSteps sp))))

/-- The 16-byte block of a spot that stores are buffered for, and the offset in it. -/
def Sys2Proof.Claims.block : Spot → Option (Place × Nat)
  | .loc _ => none
  | .rem cl off => some (.remote cl (off / 16 * 16), off % 16)
  | .phys pa leaf => if ptePol leaf = 2 then none else some (.phys (pa / 16 * 16), pa % 16)

/-- The stored value of a scalar global store: A, or DST's operand undisplaced (R205). -/
def Sys2Proof.Claims.stored (w : State) (px : List Prefix) (k : Nat) : Except Stop Word :=
  match dstOf px with
  | none => .ok w.core.r.a
  | some e => w.readOp ⟨k, false, BitVec.ofNat 64 (e.1.toNat % 8), 0⟩ e.1

/-- R203, R205 to R207: STG, STX, VSTG and STN change no memory before their commit: each 16-byte block with an enabled byte, a
byte for STN, takes one entry of the region buffer with its physical place, bytes and order. STG through the local window
writes at once as a local store does, a release to working scratchpad behind the region's earlier stores (R170). A device page refuses STN with PERM detail 0x05 and the translation record of a write. -/
def Obligations.GlobalStores : Prop :=
  ∀ (px : List Prefix) (sp : BitVec 6) (w1 : W1) (s t u : State) (va d leaf : Word) (x : Spot) (pl : Place) (off ea pa : Nat)
    (tg : LongWrite) (ph : Phys),
    let k := widthBytes (dstW px) 8
    let fresh := fun (p : Place) => globUsed t.core.buf < 256 ∧ ∀ g, BufEntry.glob g ∈ t.core.buf → g.place ≠ p
    let with' := fun (l : List BufEntry) => ({ t with core := { t.core with buf := t.core.buf ++ l } } : State)
    let home := fun (all : Bool) => match x with
      | .phys pa leaf => (all || !t.cachedLeaf pa leaf, leaf.getLsbD 55)
      | _ => (all, false)
    (∀ i ∈ [Instr.stg px sp w1, .stx px sp w1], Clean i s → let w := work i s
      k ∈ [1, 2, 4, 8] → address w px sp = .ok va → stored w px k = .ok d → w.resolve .write va k = (t, .ok x) →
      block x = some (pl, off) → fresh pl →
      let h := home (decide (i = .stx px sp w1))
      exec i s = .next (done i s ((with' [.glob ⟨[va], pl, .bytes (BitVec.ofNat 16 ((2 ^ k - 1) * 2 ^ off))
        (BitVec.ofNat 128 (d.toNat % 256 ^ k * 256 ^ off)) h.1, w1.od, w1.sc, h.2⟩]).post w (stepsSD px sp)))) ∧
    (∀ i ∈ [Instr.stg px sp w1, .stx px sp w1], Clean i s → let w := work i s
      address w px sp = .ok va → stored w px k = .ok d → w.resolve .write va k = (t, .ok (.loc ea)) →
      (t.localKind t.focus ea = .work → mustFollow w1.od t.core.buf = false) →
      t.storeTarget ea k (2 ^ k - 1) (d.toNat % 256 ^ k) .scalar = .ok tg → t.landWrite tg = .ok u →
      exec i s = .next (done i s (u.post w (stepsSD px sp)))) ∧
    (Clean (.vstg px sp w1) s → let w := work (.vstg px sp w1) s
      let data := w.core.r.vec (w1.aux.extractLsb' 0 2)
      let part := fun j => (List.range 16).foldl (fun a i => if byteOn w px w1 (16 * j + i) then a + 2 ^ i else a) 0
      address w px sp = .ok va → (∃ i, i < 64 ∧ byteOn w px w1 i = true) → w.resolve .write va 64 = (t, .ok x) →
      block x = some (pl, 0) → t.core.buf = [] →
      let h := home false
      exec (.vstg px sp w1) s = .next (done (.vstg px sp w1) s ((with' ((List.range 4).filterMap fun j =>
        if part j = 0 then none
        else some (.glob ⟨[va + BitVec.ofNat 64 (16 * j)],
          (match pl with | .remote cl o => .remote cl (o + 16 * j) | .phys p => .phys (p + 16 * j)),
          .bytes (BitVec.ofNat 16 (part j)) (data.extractLsb' (128 * j) 128) h.1, w1.od, w1.sc, h.2⟩))).post w
        (specSteps sp)))) ∧
    (Clean (.stn px sp w1) s → let w := work (.stn px sp w1) s
      address w px sp = .ok va → stored w px 8 = .ok d → va.toNat < 2 ^ 49 → w.resolve .write (va >>> 1) 1 = (t, .ok x) →
      block x = some (pl, off) → fresh pl →
      let nib := d.extractLsb' 0 4
      exec (.stn px sp w1) s = .next (done (.stn px sp w1) s ((with' [.glob ⟨[va >>> 1], pl,
        .nibble (BitVec.ofNat 4 off) (if va.getLsbD 0 then 2 else 1) (nib ++ nib), w1.od, w1.sc, false⟩]).post w
        (stepsSD px sp)))) ∧
    (Clean (.stn px sp w1) s → let w := work (.stn px sp w1) s
      address w px sp = .ok va → stored w px 8 = .ok d → va.toNat < 2 ^ 49 →
      w.windowSpot (va >>> 1) 1 = .ok none → w.translate w.focus (va >>> 1).toNat .write = (t, .ok ph) →
      ptePol ph.leaf = 2 →
      exec (.stn px sp w1) s = .next (faulted (.stn px sp w1) s ⟨0x09, 0x05, none, va >>> 1,
        BitVec.ofNat 64 (1 * 2 ^ 58 + ph.level * 2 ^ 50 + (if w.svc then 4096 + w.focus % 4096 else w.focus)), 0⟩))

/-- R97, R184, R185, R203, R282: a commit publishes the buffered entry of a region. Exactly the enabled bytes of its block change
in memory; a remote entry changes the owning cluster's store; a nibble replaces half of its byte as it is then; a persistent
entry changes the bytes of the core's own cluster store. A store that has failed (R202) changes no memory.
Model's choices: log 3, 4. -/
def Obligations.CommitPublishes : Prop :=
  ∀ (s : State) (va : Word) (od sc : BitVec 3) (dd h : Bool) (m : BitVec 16) (d : BitVec 128) (o : BitVec 4) (b : Byte)
    (pa cl off : Nat) (blk : BitVec 24) (pm : BitVec 32), s.core.long = [] → MemInv s →
    let sound := findAt s.core.doomed (pa / 128) = none
    let one := fun e => s.core.buf = [e]
    let put := fun (i base : Nat) (old : Byte) =>
      if base ≤ i ∧ i < base + 16 ∧ m.getLsbD (i - base) = true then d.extractLsb' (8 * (i - base)) 8 else old
    (one (.glob ⟨[va], .phys pa, .bytes m d h, od, sc, dd⟩) → ¬ sound → s.commit.mem = s.mem ∧ s.commit.spad = s.spad) ∧
    (one (.glob ⟨[va], .phys pa, .bytes m d h, od, sc, dd⟩) → sound → s.commit.spad = s.spad ∧ s.commit.lstore = s.lstore ∧
      ∀ i, s.commit.mem.read i = put i pa (s.mem.read i)) ∧
    (one (.glob ⟨[va], .remote cl off, .bytes m d h, od, sc, dd⟩) →
      (findAt s.core.doomed (windowAddr cl off / 128)).isSome = true → s.commit.mem = s.mem ∧ s.commit.spad = s.spad) ∧
    (one (.glob ⟨[va], .remote cl off, .bytes m d h, od, sc, dd⟩) →
      findAt s.core.doomed (windowAddr cl off / 128) = none → s.commit.mem = s.mem ∧
      ∀ i, s.commit.spad.read i = put i (cl * 16777216 + off) (s.spad.read i)) ∧
    (one (.glob ⟨[va], .phys pa, .nibble o 2 b, od, sc, dd⟩) → sound →
      s.meetsPoison (s.cacheFor s.focus) (pa + o.toNat) 1 = false →
      ∀ i, s.commit.mem.read i = if i = pa + o.toNat then b.extractLsb' 4 4 ++ (s.mem.read i).extractLsb' 0 4
        else s.mem.read i) ∧
    (one (.pers blk (.bytes pm d)) → s.commit.mem = s.mem ∧ ∀ i,
      let base := clusterOf s.focus * 16777216 + blk.toNat
      s.commit.spad.read i = if base ≤ i ∧ i < base + 16 then
          (if pm.getLsbD (2 * (i - base) + 1) then (d.extractLsb' (8 * (i - base) + 4) 4) else (s.spad.read i).extractLsb' 4 4) ++
          (if pm.getLsbD (2 * (i - base)) then (d.extractLsb' (8 * (i - base)) 4) else (s.spad.read i).extractLsb' 0 4)
        else s.spad.read i)

/-- R204: a device page. LDG, LDX, STG and STX that are no commit point by their order commit the region before the access, and
close a region behind it; a load returns a free value (log 17), a store reaches memory at once. A load that asks for a
window raises OPND detail 0x21, and in a repetition body each raises ILL detail 0x07.
Model's choices: log 10, 17. -/
def Obligations.DeviceAccess : Prop :=
  ∀ (px : List Prefix) (sp : BitVec 6) (w1 : W1) (s t t' : State) (va d leaf : Word) (pa : Nat),
    let k := widthBytes (dstW px) 8
    let both := fun (i : Instr) (f : State → State → Prop) => Clean i s ∧ commits i = false ∧
      s.boundary.commitBlock = none ∧ f (work i s) t ∧ f s.boundary.commit t' ∧ ptePol leaf = 2
    let read := fun (w u : State) => address w px sp = .ok va ∧ w.resolve .read va k = (u, .ok (.phys pa leaf))
    let write := fun (w u : State) => address w px sp = .ok va ∧ stored w px k = .ok d ∧
      w.resolve .write va k = (u, .ok (.phys pa leaf))
    let c := s.boundary.commit
    (∀ i ∈ [Instr.ldg px sp w1, .ldx px sp w1], both i read → s.boundary.core.rep.act = false → w1.la = 0 → dstOf px = none →
      let v := (Config.freeWord t'.freeCtr).toNat % 256 ^ k
      let u := ({ t' with freeCtr := t'.freeCtr + 1, core := { t'.core with
        r := { t'.core.r with a := extendBytes k ((dstW px).getLsbD 3) v }, long := t'.core.long.map fun l =>
          l.without ⟨0, [⟨.a, 0xFF, (extendBytes k ((dstW px).getLsbD 3) v).setWidth 512⟩], 0, 0, 0, []⟩ } } : State)
      exec i s = .next (((u.post c (stepsSD px sp)).retire c i.bytes).close)) ∧
    (∀ i ∈ [Instr.stg px sp w1, .stx px sp w1], both i write → s.boundary.core.rep.act = false →
      exec i s = .next ((((t'.storeHome pa k (2 ^ k - 1) (d.toNat % 256 ^ k)).post c (stepsSD px sp)).retire c i.bytes).close)) ∧
    (∀ i ∈ [Instr.ldg px sp w1, .ldx px sp w1], both i read → w1.la ≠ 0 →
      exec i s = .next (faulted i s (opnd 0x07 0x21 va))) ∧
    (∀ i ∈ [Instr.stg px sp w1, .stx px sp w1], both i write → s.boundary.core.rep.act = true →
      exec i s = .next (faulted i s (opnd 0x01 0x07 0)))

/-- The atomics but AMOCAS: the operation on old and operand of `n` bytes, and the sticky flags (R209, R210). -/
def Sys2Proof.Claims.amoTable (w : State) (px : List Prefix) (sp : BitVec 6) (w1 : W1) :
    List (Instr × AmoOp × (Nat → Nat → Nat → Nat × Flags5)) :=
  let mode := modeOfFlg (if pageRm px = 0 then w.core.r.flg.extractLsb' 12 3 else (pageRm px - 1).setWidth 3)
  let fmt := fun n => if n = 8 then f64 else if n = 4 then f32 else if w1.aux.getLsbD 2 then bf16 else f16
  let fp := w1.aux.getLsbD 1
  [(.amoadd px sp w1, .add, fun n x y => ((x + y) % 256 ^ n, 0)),
   (.amoand px sp w1, .and, fun _ x y => (x &&& y, 0)),
   (.amoor px sp w1, .or, fun _ x y => (x ||| y, 0)),
   (.amoxor px sp w1, .xor, fun _ x y => (x ^^^ y, 0)),
   (.amomin px sp w1, if fp then .fmin else .min, fun n x y => if fp then fMinMax (fmt n) false false x y
      else (if toSigned n y < toSigned n x then y else x, 0)),
   (.amomax px sp w1, if fp then .fmax else .max, fun n x y => if fp then fMinMax (fmt n) true false x y
      else (if toSigned n x < toSigned n y then y else x, 0)),
   (.amominn px sp w1, .minn, fun _ x y => (min x y, 0)),
   (.amomaxn px sp w1, .maxn, fun _ x y => (max x y, 0)),
   (.amoswp px sp w1, .swp, fun _ _ y => (y, 0)),
   (.amofadd px sp w1, .fadd, fun n x y => fAdd (fmt n) mode x y)]

/-- An atomic without a scope beyond the cluster finds its line in M in the cluster's L1 (R182). -/
def Sys2Proof.Claims.inOwnL1 (t : State) (w1 : W1) (pa : Nat) : Bool :=
  !t.svc && decide (w1.sc.toNat ≤ 1) && decide (t.l1At (clusterOf t.focus) (pa / 128) = some .m)

/-- An atomic reaches a place: working scratchpad or a remote region without poison, or a physical place that neither waits for a host
nor is poisoned nor lies beyond the AtomicOps of its port; the old value; the state with a new value there. -/
def Sys2Proof.Claims.atomicAt (t : State) (w1 : W1) (n : Nat) : Spot → Nat → (Nat → State) → Prop
  | .loc ea, old, f => t.svc = false ∧ ea % n = 0 ∧ t.localKind t.focus ea = .work ∧
      t.storeBad (clusterOf t.focus * 16777216 + ea) n = false ∧
      old = t.spad.readLE (clusterOf t.focus * 16777216 + ea) n ∧
      ∀ v, f v = { t with spad := t.spad.writeLE (clusterOf t.focus * 16777216 + ea) n v }
  | .rem cl off, old, f => t.storeBad (cl * 16777216 + off) n = false ∧ old = t.spad.readLE (cl * 16777216 + off) n ∧
      ∀ v, f v = { t with spad := t.spad.writeLE (cl * 16777216 + off) n v }
  | .phys pa leaf, old, f => (pteHp leaf ≠ 2 ∨ t.cachedLeaf pa leaf = true) ∧
      t.hostBlock (t.writeStops (pa / 128)) = none ∧ t.meetsPoison (t.cacheFor t.focus) pa n = false ∧ old = t.mem.readLE pa n ∧
      ∀ v, f v = (if inOwnL1 t w1 pa then (t.storeL1 (clusterOf t.focus) pa n (2 ^ n - 1) v).wroteLine (pa / 128)
        else t.storeHome pa n (2 ^ n - 1) v)

/-- R182, R203, R209 to R212: an atomic replaces the location by its operation on the old value and the low bytes of A, returns
the old value to A or DST, extended as W asks and FP data with zeros, and ORs the flags of a floating operation into FLG. With NR it joins the
region buffer and returns nothing; with ACQ or AR every later access of the region waits for it (R170). AMOCAS stores M21 (M21 : M20) only where the old value equals A (M19 : M18), returns the
old value there and sets Z; on a host page that is not cached another atomic than ADD, SWP and CAS raises HATOM 0x01,
and one of ADD and SWP raises HATOM 0x02 or 0x03 or completes, as the host answers. FENCE holds later loads and stores of the kinds it
names behind the region's buffered atomics and stores (R171, R214). XFENCE writes the lines that hold the
core's stores back to their homes; a line that hosts cache is left to its home, which asks them (R215, R253).
Model's choices: log 3, 50. -/
def Obligations.Atomics : Prop :=
  ∀ (px : List Prefix) (sp : BitVec 6) (w1 : W1) (s t u r : State) (va leaf : Word) (x : Spot) (old pa : Nat) (f : Nat → State)
    (tg : LongWrite) (y : State),
    let n := widthBytes (dstW px) 8
    (∀ e ∈ amoTable y px sp w1, Clean e.1 s → y = work e.1 s → w1.aux.getLsbD 0 = false →
      address y px sp = .ok va → y.resolve .rmw va n = (t, .ok x) → atomicAt t w1 n x old f →
      let o := e.2.2 n old (y.core.r.a.toNat % 256 ^ n)
      let v := extendBytes n ((dstW px).getLsbD 3 && !e.2.1.fp) old
      (match dstOf px with
        | none => Except.ok (⟨.a, 0xFF, v.setWidth 512⟩ : LongWrite)
        | some q => (f o.1).writeTarget ⟨n, false, 0, 0⟩ q.1 v) = .ok tg →
      (f o.1).landWrite tg = .ok r →
      exec e.1 s = .next (done e.1 s ((r.orSticky o.2).post y (stepsSD px sp)))) ∧
    (∀ e ∈ amoTable y px sp w1, Clean e.1 s → y = work e.1 s → w1.aux.getLsbD 0 = true →
      address y px sp = .ok va → y.resolve .rmw va n = (t, .ok (.phys pa leaf)) →
      (pteHp leaf ≠ 2 ∨ t.cachedLeaf pa leaf = true) → globUsed t.core.buf < 256 →
      ∃ op : Amo, op.op = e.2.1 ∧ op.bytes = n ∧ op.arg = BitVec.ofNat 128 (y.core.r.a.toNat % 256 ^ n) ∧
        exec e.1 s = .next (done e.1 s (({ t with core := { t.core with buf := t.core.buf ++ (
          .glob ⟨[va], .phys (pa / 16 * 16), .amo (BitVec.ofNat 4 pa) op, w1.od, w1.sc, leaf.getLsbD 55⟩ ::
            if w1.od = 1 ∨ w1.od = 3 then [.fence true true] else []) } } : State).post y (stepsSD px sp)))) ∧
    (∀ e ∈ amoTable y px sp w1, e.2.1 ≠ .add → e.2.1 ≠ .swp → Clean e.1 s → y = work e.1 s → w1.aux.getLsbD 0 = false →
      address y px sp = .ok va → y.resolve .rmw va n = (t, .ok (.phys pa leaf)) → pteHp leaf = 2 → t.cachedLeaf pa leaf = false →
      exec e.1 s = .next (faulted e.1 s (opnd 0x18 0x01 va))) ∧
    (∀ e ∈ amoTable y px sp w1, e.2.1 = .add ∨ e.2.1 = .swp → Clean e.1 s → y = work e.1 s → w1.aux.getLsbD 0 = false →
      dstOf px = none → address y px sp = .ok va → y.resolve .rmw va n = (t, .ok (.phys pa leaf)) → pteHp leaf = 2 →
      t.cachedLeaf pa leaf = false → t.hostBlock (t.writeStops (pa / 128)) = none →
      t.meetsPoison (t.cacheFor t.focus) pa n = false →
      t.l1At (clusterOf t.focus) (pa / 128) ≠ some .m → old = t.mem.readLE pa n →
      exec e.1 s = .next (faulted e.1 s (opnd 0x18 0x02 va)) ∨ exec e.1 s = .next (faulted e.1 s (opnd 0x18 0x03 va)) ∨
      exec e.1 s = .next (done e.1 s (((({ t with freeCtr := t.freeCtr + 1 } : State).storeHome pa n (2 ^ n - 1)
        (e.2.2 n old (y.core.r.a.toNat % 256 ^ n)).1).setA (extendBytes n ((dstW px).getLsbD 3) old)).post y
        (stepsSD px sp)))) ∧
    (Clean (.amocas px sp w1) s → n ∈ [4, 8] → let w := work (.amocas px sp w1) s
      address w px sp = .ok va → w.resolve .rmw va n = (t, .ok x) → atomicAt t w1 n x old f →
      let hit := decide (old = w.core.r.a.toNat % 256 ^ n)
      let v := extendBytes n ((dstW px).getLsbD 3) old
      (hit = false → (match x with
        | .phys pa _ => u = (if inOwnL1 t w1 pa then t else t.recall (pa / 128))
        | _ => u = f old)) →
      (hit = true → u = f ((w.core.r.slot 21).toNat % 256 ^ n)) →
      exec (.amocas px sp w1) s = .next (done (.amocas px sp w1) s (((u.setA v).setZncv 8 (if hit then 8 else 0)).post w
        (specSteps sp)))) ∧
    (Clean (.amocas px sp w1) s → n = 16 → let w := work (.amocas px sp w1) s
      address w px sp = .ok va → w.resolve .rmw va 16 = (t, .ok x) → atomicAt t w1 16 x old f →
      let hit := decide (old = (w.core.r.slot 19 ++ w.core.r.slot 18).toNat)
      (hit = false → (match x with
        | .phys pa _ => u = (if inOwnL1 t w1 pa then t else t.recall (pa / 128))
        | _ => u = f old)) →
      (hit = true → u = f (w.core.r.slot 21 ++ w.core.r.slot 20).toNat) →
      let pair := ({ u with core := { u.core with r := { u.core.r with
        m := (u.core.r.m.set 18 (BitVec.ofNat 64 old)).set 19 (BitVec.ofNat 64 (old / 2 ^ 64))
        pres := u.core.r.pres ||| 0x000C0000#32 } } } : State)
      exec (.amocas px sp w1) s = .next (done (.amocas px sp w1) s ((pair.setZncv 8 (if hit then 8 else 0)).post w
        (specSteps sp)))) ∧
    (Clean (.fence px sp w1) s → let w := work (.fence px sp w1) s
      let amo := w.core.buf.any BufEntry.isAmo
      let loads := w1.aux.getLsbD 3 && amo
      let stores := (w1.aux.getLsbD 2 && amo) || (w1.aux.getLsbD 0 && w.core.buf.any BufEntry.isStore)
      ((w1.aux.getLsbD 0 || w1.aux.getLsbD 1) = true → w.hostBlock w.ownStops = none) →
      exec (.fence px sp w1) s = .next (done (.fence px sp w1) s { w with core := { w.core with
        buf := w.core.buf ++ if loads || stores then [.fence loads stores] else [] } })) ∧
    (Clean (.xfence px sp w1) s → (work (.xfence px sp w1) s).core.wrote = [] →
      exec (.xfence px sp w1) s = .next (done (.xfence px sp w1) s (work (.xfence px sp w1) s))) ∧
    (Clean (.xfence px sp w1) s → let w := work (.xfence px sp w1) s
      w.home.wf = true → w.core.wrote = [pa] → w.tileAt pa = none → w.lineDirty pa = true →
      w.hostBlock [(pa, true)] = none →
      ∃ c, exec (.xfence px sp w1) s = .next (done (.xfence px sp w1) s c) ∧ c.core = { w.core with wrote := [] } ∧
        c.mem = w.mem ∧ c.spad = w.spad ∧ c.lineDirty pa = false ∧
        ∀ i, pa * 128 ≤ i → i < pa * 128 + 128 → c.home.read i = w.mem.read i) ∧
    (Clean (.xfence px sp w1) s → let w := work (.xfence px sp w1) s
      w.core.wrote = [pa] → w.tileAt pa = none → w.lineDirty pa = true → (w.hostBlock [(pa, true)]).isSome = true →
      ∃ asked : List Snoop, exec (.xfence px sp w1) s = .next (done (.xfence px sp w1) s { w with
        core := { w.core with wrote := [] }, snoops := asked, lineOps := w.lineOps ++ [⟨3, pa, w.focus⟩] }))

/-! ### Declared tiles, line maintenance, streams, bulk copy -/

/-- Only the caches and the home's copy differ: registers, coherent memory and the stores are as before. -/
def Sys2Proof.Claims.sameButHome (t c : State) : Prop :=
  { c with clusters := t.clusters, dcaches := t.dcaches, parts := t.parts, dir := t.dir, tiles := t.tiles, l2 := t.l2,
           poison := t.poison, home := t.home, freeCtr := t.freeCtr } = t

/-- No cache holds a line dirty, and where one did the home now has its bytes. -/
def Sys2Proof.Claims.cleaned (t c : State) (line : Nat) : Prop :=
  (∀ cl, c.l1At cl line ≠ some .m ∧ c.l1At cl line ≠ some .o) ∧
  ((∃ cl, t.l1At cl line = some .m ∨ t.l1At cl line = some .o) → ∀ i, line * 128 ≤ i → i < line * 128 + 128 →
    c.home.read i = t.mem.read i)

/-- A status in A, Z set where it is 0 (R216, R217). -/
def Sys2Proof.Claims.status (t : State) (n : Nat) : State :=
  (t.setA (BitVec.ofNat 64 n)).setZncv 8 (if n = 0 then 8 else 0)

/-- R216 to R218, R239, R481: TDECL declares the lines of ROWS rows of LN lines at PITCH with a free entry of the base line's
slice, or answers why not; its fields' breach raises OPND 0x22. TUND drops the tile, TWB leaves no line of it dirty, TINV no
copy of it, TFWD pushes it into the target's L1, with X as its one holder; status 1 where the partition has no tile with that base, a
window address among them, and 0 otherwise. The instruction waits while hosts owe answers for the lines; TFWD's target has room for the
tile and no line of it a poisoned copy in the L2 (R248). -/
def Sys2Proof.Claims.tileInstructions : Prop :=
  ∀ (px : List Prefix) (sp : BitVec 6) (w1 : W1) (s t : State) (va : Word) (x : Phys) (y : Tile) (xs : List Phys),
    let at' := fun (i : Instr) => Clean i s ∧ address (work i s) px sp = .ok va ∧ (work i s).tileAddr .leaf va = (t, .ok (some x))
    let outside := fun (i : Instr) => Clean i s ∧ address (work i s) px sp = .ok va ∧
      (work i s).tileAddr .leaf va = (t, .ok none)
    let named := fun (z : Tile) => decide (z.base = x.pa / 128 ∧ z.part = t.partOf t.focus)
    let ends := fun (i : Instr) (c : State) (n : Nat) => exec i s = .next (done i s ((status c n).post (work i s) (specSteps sp)))
    let a := (work (.tfwd px sp w1) s).core.r.a
    let target := clusterOf (a.extractLsb' 0 12).toNat
    let admitted := a.extractLsb' 13 51 = 0 ∧ (work (.tfwd px sp w1) s).partOfTile (tileOf (a.extractLsb' 0 12).toNat) =
      (work (.tfwd px sp w1) s).partOfTile (tileOf (work (.tfwd px sp w1) s).focus) ∧
      (work (.tfwd px sp w1) s).paired ((work (.tfwd px sp w1) s).partOf (work (.tfwd px sp w1) s).focus) = false
    (∀ i ∈ [Instr.tund px sp w1, .twb px sp w1, .tinv px sp w1],
      outside i ∨ (at' i ∧ t.tiles.find? named = none) → ends i t 1) ∧
    (admitted → outside (.tfwd px sp w1) ∨ (at' (.tfwd px sp w1) ∧ t.tiles.find? named = none) → ends (.tfwd px sp w1) t 1) ∧
    (at' (.tund px sp w1) → t.tiles.find? named = some y → ∃ c, { c with tiles := t.tiles, dir := t.dir } = t ∧
      c.tiles = t.tiles.filter (fun z => z != y) ∧ ends (.tund px sp w1) c 0) ∧
    (at' (.twb px sp w1) → t.home.wf = true → t.tiles.find? named = some y → t.tileAt y.base = some y →
      t.hostBlock (t.unitStops y.base) = none → ∃ c, sameButHome t c ∧ (∀ l ∈ y.lines, cleaned t c l) ∧ ends (.twb px sp w1) c 0) ∧
    (at' (.tinv px sp w1) → t.home.wf = true → t.tiles.find? named = some y → t.tileAt y.base = some y →
      t.hostBlock (t.unitStops y.base) = none → ∃ c, sameButHome t c ∧ (∀ l ∈ y.lines, cleaned t c l ∧ ∀ cl, c.l1At cl l = none) ∧ ends (.tinv px sp w1) c 0) ∧
    (at' (.tfwd px sp w1) → admitted → t.tiles.find? named = some y →
      let x := a.getLsbD 12
      let held := if x = true then y.dir.st = .dx ∧ y.dir.owner = target
        else ((y.dir.st = .ds ∨ y.dir.st = .dd) ∧ target ∈ y.dir.exact) ∨ ((y.dir.st = .dx ∨ y.dir.st = .dd) ∧ y.dir.owner = target)
      let moves := (t.cluster target).gated = false ∧ (t.cluster target).spadBytes < 1048576 ∧ ¬ held ∧
        t.hostBlock (y.lines.map (fun l => (l, x)) ++ y.lines.flatMap (t.roomStops (t.cachePart target))) = none ∧
        (∀ l ∈ y.lines, t.tileAt l = some y ∧ ∀ g, t.tagOf l = some g → g.bad = false) ∧
        (t.cacheLines target).length + y.lines.length ≤ t.cacheRoom target ∧
        t.partOfTile (tileOfCluster target) = some y.part
      t.core.r.a = a →
      ((t.cluster target).gated = true ∨ 1048576 ≤ (t.cluster target).spadBytes ∨ held → ends (.tfwd px sp w1) t 0) ∧
      (x = false → moves →
        ∃ c, sameButCaches t c ∧ (∀ l ∈ y.lines, ((c.l1At target l).isSome = true ∨ c.tagOf l = none) ∧
          ∀ k, k ≠ target → c.l1At k l ≠ some .m ∧ c.l1At k l ≠ some .e) ∧ ends (.tfwd px sp w1) c 0) ∧
      (x = true → moves →
        ∃ c, sameButCaches t c ∧ (∀ l ∈ y.lines,
          (c.l1At target l = some .m ∨ c.l1At target l = some .e ∨ c.tagOf l = none) ∧
          ∀ k, k ≠ target → c.l1At k l = none) ∧ ends (.tfwd px sp w1) c 0)) ∧
    (Clean (.tdecl px sp w1) s → let w := work (.tdecl px sp w1) s
      let g := w.core.r.a
      let pitch := (g.extractLsb' 16 24).toNat
      let ln := (g.extractLsb' 11 5).toNat + 1
      let rows := (g.extractLsb' 0 11).toNat + 1
      let fits := g.extractLsb' 40 24 = 0 ∧ pitch % 128 = 0 ∧ 128 * ln ≤ pitch ∧ rows * ln * 128 ≤ 262144
      let lines := (xs.map fun p => p.pa / 128).eraseDups
      let part := t.partOf t.focus
      let slice := homeOfLine (lines.headD 0)
      address w px sp = .ok va →
      (¬ fits → exec (.tdecl px sp w1) s = .next (faulted (.tdecl px sp w1) s (opnd 0x07 0x22 g))) ∧
      (fits → w.tdTranslate ((List.range rows).flatMap fun r => (List.range ln).map fun l =>
          va + BitVec.ofNat 64 (r * pitch + l * 128)) = (t, .ok (xs.map some)) →
        let n := if ∃ l ∈ lines, (t.tileAt l).isSome = true then 1
          else if (List.range 16384).all fun k => t.tiles.any fun z => decide (homeOfLine z.base = slice ∧ z.slot = k) then 2
          else if 4096 ≤ (t.tiles.filter fun z => decide (z.part = part)).length then 3
          else if ∃ p ∈ xs, 2 ≤ pteHp p.leaf then 4 else 0
        (n ≠ 0 → ends (.tdecl px sp w1) t n) ∧
        (n = 0 → t.hostBlock (t.absorbStops lines) = none →
          ∃ (c : State) (z : Tile), sameButHome t c ∧ c.tiles = t.tiles ++ [z] ∧ z.part = part ∧
          z.base = lines.headD 0 ∧ z.lines = lines ∧ z.slot < 16384 ∧
          (∀ y ∈ t.tiles, homeOfLine y.base = slice → y.slot ≠ z.slot) ∧ ends (.tdecl px sp w1) c 0)))

/-- R219, R220, R258: CLWB leaves no copy of the line dirty, CLINV no cluster copy, CLFL no copy in a cluster, a host or the
L2; a remote window address has no line to act on. While hosts owe answers for the line the operation is left to its home, which asks
them, and the core goes on (R220, R253). -/
def Sys2Proof.Claims.lineMaintenance : Prop :=
  ∀ (px : List Prefix) (sp : BitVec 6) (w1 : W1) (s t : State) (va leaf : Word) (pa cl off : Nat),
    let at' := fun (i : Instr) (x : Spot) => Clean i s ∧ address (work i s) px sp = .ok va ∧
      (work i s).resolve .leaf va 1 = (t, .ok x)
    let ends := fun (i : Instr) (c : State) => exec i s = .next (done i s (c.post (work i s) (specSteps sp)))
    let l := pa / 128
    let line := fun (i : Instr) => at' i (.phys pa leaf) ∧ t.home.wf = true ∧ t.tileAt l = none ∧
      t.hostBlock (if i = .clfl px sp w1 then [(l, true)] else t.unitStops l) = none
    (line (.clwb px sp w1) → ∃ c, sameButHome t c ∧ cleaned t c l ∧ ends (.clwb px sp w1) c) ∧
    (line (.clinv px sp w1) → ∃ c, sameButHome t c ∧ cleaned t c l ∧ (∀ k, c.l1At k l = none) ∧ ends (.clinv px sp w1) c) ∧
    (line (.clfl px sp w1) → ∃ c, sameButHome t c ∧ cleaned t c l ∧ (∀ k, c.l1At k l = none) ∧ c.hostHas l = false ∧
      c.tagOf l = none ∧ ends (.clfl px sp w1) c) ∧
    (∀ e ∈ [(Instr.clwb px sp w1, 0), (.clinv px sp w1, 1), (.clfl px sp w1, 2)], at' e.1 (.phys pa leaf) →
      (t.hostBlock (if e.2 = 2 then (t.unitOf l).map fun x => (x, true) else t.unitStops l)).isSome = true →
      ∃ asked : List Snoop, ends e.1 { t with snoops := asked, lineOps := t.lineOps ++ [⟨e.2, l, t.focus⟩] }) ∧
    ∀ i ∈ [Instr.clwb px sp w1, .clinv px sp w1, .clfl px sp w1], at' i (.rem cl off) → ends i t

/-- The tile instructions and line maintenance: `tileInstructions` and `lineMaintenance`.
Model's choices: log 35, 36. -/
def Obligations.TilesAndLines : Prop := tileInstructions ∧ lineMaintenance


/-- R221 to R223, R225: SBUF and SGO queue their captured descriptor or records in the stream engine's two-entry queue and
raise OPND 0x24 and 0x23 for bits that must be zero; SPEEK gives the core's next slot or 0 and sets Z where it has none;
SFREE passes `n` slots to the engine's side, pending the channel where the core still holds some; SCNT reads a buffer's
or the engine's status. With two commands queued SBUF and SGO hold their captured entry and wait. -/
def Obligations.StreamInstructions : Prop :=
  ∀ (px : List Prefix) (sp : BitVec 6) (w1 : W1) (s t : State) (v : Word) (ea : Nat) (rec sh : List Word) (q : SeCmd) (g : SgoCmd),
    let b := w1.aux.extractLsb' 0 3
    let ctx : OpCtx := ctxLong px sp
    let buf := fun (w : State) => w.core.se.bufs[b.toNat]'b.isLt
    let own := fun (f : SBuf) => if f.dir then f.free else f.filled
    let queue := fun (w : State) (q : SeCmd) =>
      ({ w with core := { w.core with se := { w.core.se with queue := w.core.se.queue ++ [q] } } } : State)
    (Clean (.sbuf px sp w1) s → let w := work (.sbuf px sp w1) s
      w.core.capt = none → w.readOp ctx sp = .ok v →
      let extent := 64 * ((v.extractLsb' 32 8).toNat + 1) * ((v.extractLsb' 40 8).toNat + 1)
      let base := (v.extractLsb' 0 24).toNat
      let zeros := v.extractLsb' 57 7 = 0 ∧ v.extractLsb' 24 8 = 0 ∧ (v.getLsbD 56 = false → v = 0)
      (¬ zeros → exec (.sbuf px sp w1) s = .next (faulted (.sbuf px sp w1) s (opnd 0x07 0x24 v))) ∧
      (zeros → v.getLsbD 56 = true → base % 64 ≠ 0 ∨ w.extentBad w.focus base extent ≠ none →
        exec (.sbuf px sp w1) s = .next (faulted (.sbuf px sp w1) s (opnd 0x20 0x0C v))) ∧
      (zeros → (v.getLsbD 56 = true → base % 64 = 0 ∧ w.extentBad w.focus base extent = none) →
        (w.core.se.queue.length < 2 →
          exec (.sbuf px sp w1) s = .next (done (.sbuf px sp w1) s ((queue w (.sbuf b v w.core.lid)).post w (specSteps sp)))) ∧
        (2 ≤ w.core.se.queue.length → exec (.sbuf px sp w1) s = .next { w with
          core := { w.core with capt := some (.se (.sbuf b v w.core.lid)) } }))) ∧
    (∀ i ∈ [Instr.sbuf px sp w1, .sgo px sp w1], Clean i s → (work i s).core.capt = some (.se q) →
      ((work i s).core.se.queue.length < 2 →
        exec i s = .next (done i s ((queue (work i s) q).post (work i s) (specSteps sp)))) ∧
      (2 ≤ (work i s).core.se.queue.length → exec i s = .next { work i s with
        core := { (work i s).core with capt := some (.se q) } })) ∧
    (Clean (.speek px sp w1) s → let w := work (.speek px sp w1) s
      let f := buf w
      w.writeOp ctx sp (if own f = 0 then 0 else BitVec.ofNat 64 (f.base + f.slotBytes * f.head)) = .ok t →
      exec (.speek px sp w1) s = .next (done (.speek px sp w1) s ((t.setZncv 8 (if own f = 0 then 8 else 0)).post w
        (specSteps sp)))) ∧
    (Clean (.sfree px sp w1) s → let w := work (.sfree px sp w1) s
      let f := buf w
      w.readOp ctx sp = .ok v →
      (v = 0 ∨ own f < v.toNat ∨ f.cfg = false →
        exec (.sfree px sp w1) s = .next (faulted (.sfree px sp w1) s (opnd 0x07 0x25 v))) ∧
      (v ≠ 0 → v.toNat ≤ own f → f.cfg = true → 0 < f.slots →
        let n := v.toNat
        let g := { f with head := (f.head + n) % f.slots
                          free := if f.dir then f.free - n else f.free + n
                          filled := if f.dir then f.filled + n else f.filled - n }
        let c := { w.core with se := { w.core.se with bufs := w.core.se.bufs.set b.toNat g b.isLt } }
        let c' := if n < own f ∧ f.en = true then
          { c with chans := c.chans.set f.ch.toNat { c.chan f.ch with bare := true } f.ch.isLt } else c
        exec (.sfree px sp w1) s = .next (done (.sfree px sp w1) s (({ w with core := c' } : State).post w (specSteps sp))))) ∧
    (Clean (.scnt px sp w1) s → w1.aux.extractLsb' 3 2 = 0 → let w := work (.scnt px sp w1) s
      let f := buf w
      w.writeOp ctx sp (BitVec.ofBool f.cfg ++ BitVec.ofBool f.dir ++ BitVec.ofBool f.en ++ f.ch ++ 0#7 ++
        BitVec.ofNat 8 f.head ++ BitVec.ofNat 8 f.tail ++ BitVec.ofNat 16 f.free ++ BitVec.ofNat 16 f.filled) = .ok t →
      exec (.scnt px sp w1) s = .next (done (.scnt px sp w1) s (t.post w (specSteps sp)))) ∧
    (Clean (.scnt px sp w1) s → w1.aux.extractLsb' 3 2 ≠ 0 → let w := work (.scnt px sp w1) s
      let e := w.core.se
      let waiting := BitVec.ofNat 2 (min 3 e.queue.length)
      (e.cur = none ∧ w.writeOp ctx sp (0#62 ++ waiting) = .ok t) ∨
      (e.cur = some g ∧ w.writeOp ctx sp (0#40 ++ (dw g.record 0).extractLsb' 48 16 ++ (dw g.record 0).extractLsb' 32 3 ++
        (dw g.record 0).extractLsb' 35 1 ++ BitVec.ofBool e.susp ++ 1#1 ++ waiting) = .ok t) →
      exec (.scnt px sp w1) s = .next (done (.scnt px sp w1) s (t.post w (specSteps sp)))) ∧
    (Clean (.sgo px sp w1) s → let w := work (.sgo px sp w1) s
      let cmd : SeCmd := .sgo ⟨rec, sh, w.core.lid, 0, (Instr.sgo px sp w1).siteWords⟩
      w.core.capt = none → w.recordAt px sp = .ok ea → w.recordDws ea = .ok rec → w.shapeDws rec = .ok (some sh) →
      (w.sgoCheck rec sh true (BitVec.ofNat 64 ea) = .ok () → w.core.se.queue.length < 2 →
        exec (.sgo px sp w1) s = .next (done (.sgo px sp w1) s ((queue w cmd).post w
          (specSteps sp)))) ∧
      (w.sgoCheck rec sh true (BitVec.ofNat 64 ea) = .ok () → 2 ≤ w.core.se.queue.length →
        exec (.sgo px sp w1) s = .next { w with
          core := { w.core with capt := some (.se cmd) } }) ∧
      ((dw rec 0).extractLsb' 0 32 ≠ 0 ∨ (dw sh 7) ≠ 0 →
        exec (.sgo px sp w1) s = .next (faulted (.sgo px sp w1) s (opnd 0x07 0x23 (BitVec.ofNat 64 ea)))))

/-- R228, R229, R231: CPGO queues its record at dike die DK under the next ticket of the die and partition, 0 skipped, and
returns the ticket with Z clear, a DK of 15 naming the home of the first destination byte; with sixteen commands of the partition waiting there it returns 0 with Z set. CPST reads a
ticket's state: accepted, under way, done or ended, with the bytes written; one that names no kept command is unknown. The last 256
tickets are kept, 0 not counted, and a sequence number that comes round again names the newer command. -/
def Obligations.BulkCopyInstructions : Prop :=
  ∀ (px : List Prefix) (sp : BitVec 6) (w1 : W1) (s t u : State) (v : Word) (ea dk : Nat) (ws : List Word) (b : Bulk)
    (ph : Phys),
    (Clean (.cpgo px sp w1) s → let w := work (.cpgo px sp w1) s
      let named := bits (dw ws 0) 35 32
      let dst := bits (dw ws 2) 47 0
      w.recordAt px sp = .ok ea → w.recordDws ea = .ok ws → w.cpCheck ws (BitVec.ofNat 64 ea) = .ok () →
      (named ≠ 15 ∧ u = w ∧ dk = named) ∨
      (named = 15 ∧ 0x7E0000000000 ≤ dst ∧ dst < 0x7E1000000000 ∧ u = w ∧ dk = 3 * dieOf (dst / 16777216 % 4096)) ∨
      (named = 15 ∧ (dst < 0x7E0000000000 ∨ 0x800000000000 ≤ dst) ∧ w.translate w.focus dst .write = (u, .ok ph) ∧
        pteHp ph.leaf ≠ 4 ∧ dk = homeOfLine (ph.pa / 128)) →
      let p := u.partOf u.focus
      let waiting := (u.bulks.filter fun b => decide (b.dk = dk ∧ b.part = p ∧ b.taken = false ∧ b.status = none)).length
      let last := getAt 0 u.tickets (dk * 128 + p)
      let n : BitVec 32 := if last = -1 then 1 else last + 1
      (16 ≤ waiting → exec (.cpgo px sp w1) s = .next (done (.cpgo px sp w1) s (((u.setA 0).setZncv 8 8).post w
        (specSteps sp)))) ∧
      (waiting < 16 → exec (.cpgo px sp w1) s = .next (done (.cpgo px sp w1) s (((({ u with
          tickets := setAt u.tickets (dk * 128 + p) n
          bulks := u.bulks.filter (fun b => !(decide (b.dk = dk ∧ b.part = p ∧ b.seq = n.toNat) && b.status.isSome)) ++
            [⟨dk, p, n.toNat, u.focus, u.core.lid, ws, false, false, [], 0, none, (Instr.cpgo px sp w1).siteWords, false, []⟩] } :
            State).setA
            (BitVec.ofNat 64 (dk * 2 ^ 48 + p * 2 ^ 41 + n.toNat))).setZncv 8 0).post w (specSteps sp))))) ∧
    (Clean (.cpst px sp w1) s → let w := work (.cpst px sp w1) s
      let p := w.partOf w.focus
      let last := getAt 0 w.tickets (bits v 51 48 * 128 + p)
      let kept := (last - v.extractLsb' 0 32).toNat < if last.toNat < bits v 31 0 then 257 else 256
      let found := w.bulks.reverse.find? fun b => decide (b.dk = bits v 51 48 ∧ b.part = p ∧ b.seq = bits v 31 0)
      let answers := fun (r : Word) => ∀ t, result w px sp r = .ok t →
        exec (.cpst px sp w1) s = .next (done (.cpst px sp w1) s (t.post w (stepsSD px sp)))
      w.readOp (ctxS px sp 8) sp = .ok v →
      (bits v 63 52 ≠ 0 ∨ bits v 40 32 ≠ 0 ∨ bits v 47 41 ≠ p ∨ ¬ kept ∨ found = none → answers 0x0400000000000000) ∧
      (bits v 63 52 = 0 → bits v 40 32 = 0 → bits v 47 41 = p → kept → found = some b →
        (b.status = none → answers (BitVec.ofNat 64 ((if b.taken then 1 else 0) * 2 ^ 56 + b.written % 2 ^ 40))) ∧
        (b.status = some 0 → answers (BitVec.ofNat 64 (2 * 2 ^ 56 + b.written % 2 ^ 40))) ∧
        (∀ x : BitVec 8, b.status = some x → x ≠ 0 →
          answers (BitVec.ofNat 64 (3 * 2 ^ 56 + x.toNat * 2 ^ 48 + b.written % 2 ^ 40)))))

/-! ### Engine commands, barriers, messages, launches -/

/-- R122, R140 to R146: the matrix instructions. MXGO and MXST queue their checked record with its captured slots, MXWR, MXCFG and
MXMSK their captured operands, where the queue has room, and hold the captured entry and wait where it has none; MXRD reads an element and the tile's step count at once, POISON where a byte of it is poisoned (R415); MXABT marks
the running command on a selected tile and removes the queued ones, each with a completion of status 0x01. -/
def Obligations.MatrixInstructions : Prop :=
  ∀ (px : List Prefix) (sp : BitVec 6) (w1 : W1) (s u : State) (v : Word) (ea : Nat) (ws : List Word) (x : LongWrite) (r : MxRun)
    (e : MxEntry),
    let ends := fun (i : Instr) (t : State) => exec i s = .next (done i s (t.post (work i s) (specSteps sp)))
    let queue := fun (w : State) (e : MxEntry) =>
      ({ w with core := { w.core with mx := { w.core.mx with queue := w.core.mx.queue ++ [e] } } } : State)
    let slots := fun (w : State) (src : Word) => (List.range (if src.extractLsb' 12 4 = 0 then 8 else 2)).map fun i =>
      w.core.r.m.toList.getD ((src.extractLsb' 0 5).toNat + i) 0
    let cmd := fun (i : Instr) (w : State) (st : Bool) => (⟨st, ws, slots w (dw ws 2), slots w (dw ws 3), w.core.lid,
      w.core.pc + BitVec.ofNat 64 (2 * px.length) - BitVec.ofNat 64 w.codeRegion.1, w.core.ctl.xseed, i.siteWords⟩ : MxCmd)
    let stalls := fun (i : Instr) (e : MxEntry) =>
      exec i s = .next { work i s with core := { (work i s).core with capt := some (.mx e) } }
    let takes := fun (i : Instr) (e : MxEntry) => let w := work i s
      (w.core.mx.queue.length < 2 → ends i (queue w e)) ∧ (2 ≤ w.core.mx.queue.length → stalls i e)
    let selects := fun (cfg : BitVec 2) (a : Word) => a.extractLsb' 17 47 = 0 ∧ (a.extractLsb' 14 2).toNat < 2 ^ cfg.toNat ∧
      (a.extractLsb' 0 7).toNat * (if a.getLsbD 16 then 8 else 4) < 512 / 2 ^ cfg.toNat
    (∀ i ∈ [(Instr.mxgo px sp w1, false), (.mxst px sp w1, true)], Clean i.1 s → let w := work i.1 s
      w.core.capt = none → w.recordAt px sp = .ok ea → w.recordDws ea = .ok ws →
      (w.mxCheck (cmd i.1 w i.2) (BitVec.ofNat 64 ea) = .ok () → takes i.1 (.cmd (cmd i.1 w i.2))) ∧
      ((dw ws 0).extractLsb' 0 5 ≠ 0 ∨ dw ws 7 ≠ 0 →
        exec i.1 s = .next (faulted i.1 s (opnd 0x07 0x10 (BitVec.ofNat 64 ea))))) ∧
    (Clean (.mxrd px sp w1) s → let w := work (.mxrd px sp w1) s
      let m := w.core.mx
      let a := w.core.r.a
      let t := (a.extractLsb' 14 2).toNat
      let n := if a.getLsbD 16 then 8 else 4
      let at' := t * (65536 / 2 ^ m.cfg.toNat) + (a.extractLsb' 7 7).toNat * (512 / 2 ^ m.cfg.toNat) + (a.extractLsb' 0 7).toNat * n
      let bad := m.bad.any fun k => decide (at' ≤ k ∧ k < at' + n)
      (selects m.cfg a → bad = true → exec (.mxrd px sp w1) s = .next (faulted (.mxrd px sp w1) s (opnd 0x11 0x01 0))) ∧
      (selects m.cfg a → bad = false → w.writeTarget (ctxLong px sp) sp (BitVec.ofNat 64 (m.acc.readLE at' n)) = .ok x →
        w.addLong ⟨w1.la.toNat, [x, ⟨.m (w1.aux.extractLsb' 0 5), 0xFF, (m.steps.toList.getD t 0).setWidth 512⟩], 0, 0, 0, []⟩ = .ok u →
        ends (.mxrd px sp w1) u) ∧
      (¬ selects m.cfg a → exec (.mxrd px sp w1) s = .next (faulted (.mxrd px sp w1) s (opnd 0x07 0x12 a)))) ∧
    (Clean (.mxwr px sp w1) s → let w := work (.mxwr px sp w1) s
      let a := w.core.r.a
      w.core.capt = none → w.readOp (ctxLong px sp) sp = .ok v →
      (selects w.core.mx.cfgAhead a → takes (.mxwr px sp w1) (.wr (a.extractLsb' 14 2).toNat
        (a.extractLsb' 7 7).toNat (a.extractLsb' 0 7).toNat (a.getLsbD 16) v)) ∧
      (¬ selects w.core.mx.cfgAhead a →
        exec (.mxwr px sp w1) s = .next (faulted (.mxwr px sp w1) s (opnd 0x07 0x12 a)))) ∧
    (Clean (.mxcfg px sp w1) s → let w := work (.mxcfg px sp w1) s
      w.core.capt = none → w.readOp (ctxLong px sp) sp = .ok v →
      (v.toNat ≤ 2 → takes (.mxcfg px sp w1) (.cfg (v.extractLsb' 0 2))) ∧
      (2 < v.toNat → exec (.mxcfg px sp w1) s = .next (faulted (.mxcfg px sp w1) s (opnd 0x07 0x14 v)))) ∧
    (Clean (.mxmsk px sp w1) s → sp.toNat ≤ 28 → let w := work (.mxmsk px sp w1) s
      let m := fun k => w.core.r.m.toList.getD (sp.toNat + k) 0
      let q := MxEntry.msk (w1.aux.extractLsb' 0 2) (m 1 ++ m 0) (m 3 ++ m 2)
      w.core.capt = none →
      (w.core.mx.queue.length < 2 → exec (.mxmsk px sp w1) s = .next (done (.mxmsk px sp w1) s (queue w q))) ∧
      (2 ≤ w.core.mx.queue.length → stalls (.mxmsk px sp w1) q)) ∧
    (∀ i ∈ [Instr.mxgo px sp w1, .mxst px sp w1, .mxwr px sp w1, .mxcfg px sp w1], Clean i s →
      (work i s).core.capt = some (.mx e) → takes i e) ∧
    (Clean (.mxabt px sp w1) s → let w := work (.mxabt px sp w1) s
      let hit := fun (e : MxEntry) => match e with | .cmd c => v.getLsbD ((dw c.dws 0).extractLsb' 34 2).toNat | _ => false
      w.readOp (ctxLong px sp) sp = .ok v →
      (15 < v.toNat → exec (.mxabt px sp w1) s = .next (faulted (.mxabt px sp w1) s (opnd 0x07 0x14 v))) ∧
      (v.toNat ≤ 15 → w.core.mx.run = none → ∃ (c : State) (sent : List Wire),
        ends (.mxabt px sp w1) c ∧ { c with core := w.core, wire := w.wire, freeCtr := w.freeCtr } = w ∧
        c.core = { w.core with mx := { w.core.mx with queue := w.core.mx.queue.filter fun e => !hit e } } ∧
        c.wire = w.wire ++ sent ∧
        sent.map (·.payload) = (w.core.mx.queue.filter hit).filterMap fun e => match e with
          | .cmd k => if (dw k.dws 0).getLsbD 41 then none
            else some [BitVec.ofNat 64 ((bits (dw k.dws 0) 63 48) * 2 ^ 48 + 2 ^ 40),
              BitVec.ofNat 64 ((if k.st then 8 else 0) + bits (dw k.dws 0) 35 34)]
          | _ => none) ∧
      (v.toNat ≤ 15 → w.core.mx.run = some r → v.getLsbD ((dw r.cmd.dws 0).extractLsb' 34 2).toNat = true →
        r.ended = none → r.forming = false → r.susp = false → w.formOf .mx w.focus = none → w.core.mx.queue = [] →
        ends (.mxabt px sp w1) { w with core := { w.core with mx := { w.core.mx with run := some { r with abort := true } } } }))

/-- A gang of 2^gwl by 2^ghl cores is legal for a member of a launch (R133, R261). -/
def Sys2Proof.Claims.gangFits (x : Seat) (gwl ghl : Nat) : Prop :=
  gwl ≤ 5 ∧ ghl ≤ 5 ∧ x.rx.toNat / 2 ^ gwl * 2 ^ gwl + 2 ^ gwl ≤ x.w1.toNat + 1 ∧
    x.ry.toNat / 2 ^ ghl * 2 ^ ghl + 2 ^ ghl ≤ x.h1.toNat + 1

/-- The formations of `t` with a core joined: to the open formation of its gang (origin `o`) with that rectangle and
shape, whose members' records disagree from then on where its own differs; else to a new one that starts now (R134). -/
def Sys2Proof.Claims.joined (t : State) (sid : Nat) (k : FormKind) (o gwl ghl : Nat) (rec : List Nat) : List Form :=
  let p := t.partOf sid
  let takes := fun (f : Form) => decide (f.kind = k ∧ f.part = p ∧ f.origin = o ∧ f.gwl = gwl ∧ f.ghl = ghl) &&
    !f.formed && !f.broken && decide (t.formAge f < 1048576)
  match t.forms.find? takes with
  | some f => if f.members.contains sid then t.forms else t.forms.map fun g =>
      if g = f then { f with members := f.members ++ [sid], broken := decide (rec ≠ f.agree) } else g
  | none => t.forms ++ [⟨k, p, o, gwl, ghl, [sid], rec, false, 0, t.runTime p, false, []⟩]

/-- R152 to R156, R316, R319: GRED, VMAXX and BAR check their operands against the region in progress, and then commit and queue
their command as one step; one that finds two commands waiting holds its captured entry and waits. A BAR or VMAXX at the head
of its queue joins its formation, or opens one. Bits that must be zero raise OPND before the commit. HINT sends the vector's
interrupt to the port that holds the partition's lease, or leaves it pending where no port does or the vector is masked, as
one that no host has written is (log 18).
Model's choices: log 10, 18. -/
def Obligations.GangInstructions : Prop :=
  ∀ (px : List Prefix) (sp : BitVec 6) (w1 : W1) (s : State) (v : Word) (ea : Nat) (ws : List Word) (x : Seat) (p : Parts)
    (q : VuCmd) (z : BarCmd),
    let b := s.boundary
    let ends := fun (i : Instr) (t : State) => exec i s = .next (done i s (t.post (work i s) (specSteps sp)))
    let refuses := fun (i : Instr) (k d : BitVec 8) (m : Word) => i.parts = some p →
      exec i s = .next (b.takeFault (b.site p) (opnd k d m))
    let stalls := fun (i : Instr) (c : Captured) => exec i s = .next { b with core := { b.core with capt := some c } }
    let low := fun (v : Word) => v.extractLsb' 32 32 = 0 ∧ v.extractLsb' 8 8 = 0
    let mayName := fun (c : BitVec 6) => c ≠ 56 ∧ (c.toNat < 58 ∨ b.priv = true)
    let origin := fun (w : State) (gwl ghl : Nat) =>
      w.relSid w.focus x (x.rx.toNat / 2 ^ gwl * 2 ^ gwl) (x.ry.toNat / 2 ^ ghl * 2 ^ ghl)
    (Clean (.gred px sp w1) s → let w := work (.gred px sp w1) s
      let queued := fun (e : VuCmd) => ends (.gred px sp w1) { w with core := { w.core with
        vu := { w.core.vu with queue := w.core.vu.queue ++ [e] } } }
      (b.core.capt = none → b.recordAt px sp = .ok ea → b.recordDws ea = .ok ws →
        (b.gredCheck ws (BitVec.ofNat 64 ea) = .ok () →
          (b.core.vu.queue.length < 2 → queued (.gred ws w.core.lid)) ∧
          (2 ≤ b.core.vu.queue.length → stalls (.gred px sp w1) (.vu (.gred ws b.core.lid)))) ∧
        ((dw ws 0).extractLsb' 0 19 ≠ 0 → refuses (.gred px sp w1) 0x07 0x19 (BitVec.ofNat 64 ea))) ∧
      (b.core.capt = some (.vu (.gred ws w.core.lid)) →
        (b.core.vu.queue.length < 2 → queued (.gred ws w.core.lid)) ∧
        (2 ≤ b.core.vu.queue.length → stalls (.gred px sp w1) (.vu (.gred ws w.core.lid))))) ∧
    (Clean (.vmaxx px sp w1) s → let w := work (.vmaxx px sp w1) s
      let f := fmtOf (v.extractLsb' 2 2)
      let vec := b.core.r.vec (v.extractLsb' 0 2)
      let best := (List.range (512 / f.bits)).foldl (fun m j =>
        if !pageXe px || (b.core.r.mask (pageXk px)).getLsbD j
          then (fMinMax f true false m (lane vec f.bits j % 2 ^ (f.bits - 1))).1 else m) 0
      let e := VuCmd.vmaxx (v.extractLsb' 16 16) (v.extractLsb' 4 4) (v.extractLsb' 2 2) (BitVec.ofNat 64 best) w1.aux b.core.lid
      b.core.capt = none → b.readOp (ctxLong px sp) sp = .ok v →
      (low v → mayName w1.aux → b.core.seat = some x → gangFits x (bits v 7 4) 0 →
        (b.core.vu.queue.length < 2 → ends (.vmaxx px sp w1) { w with
          forms := if w.core.vu.queue = [] then joined w w.focus .vmaxx (origin w (bits v 7 4) 0) (bits v 7 4) 0
            [1, bits v 31 16, bits v 3 2, bits v 7 4] else w.forms
          core := { w.core with vu := { w.core.vu with queue := w.core.vu.queue ++ [e] } } }) ∧
        (2 ≤ b.core.vu.queue.length → stalls (.vmaxx px sp w1) (.vu e))) ∧
      (¬ low v → refuses (.vmaxx px sp w1) 0x07 0x18 v)) ∧
    (Clean (.vmaxx px sp w1) s → let w := work (.vmaxx px sp w1) s
      b.core.capt = some (.vu q) →
      (b.core.vu.queue.length < 2 → w.core.vu.queue ≠ [] → ends (.vmaxx px sp w1) { w with core := { w.core with
        vu := { w.core.vu with queue := w.core.vu.queue ++ [q] } } }) ∧
      (2 ≤ b.core.vu.queue.length → stalls (.vmaxx px sp w1) (.vu q))) ∧
    (Clean (.bar px sp w1) s → let w := work (.bar px sp w1) s
      let e : BarCmd := ⟨v.extractLsb' 16 16, v.extractLsb' 4 4, v.extractLsb' 0 4, w1.aux, b.core.lid⟩
      b.core.capt = none → b.readOp (ctxLong px sp) sp = .ok v →
      (low v → mayName w1.aux → b.core.seat = some x → gangFits x (bits v 7 4) (bits v 3 0) →
        (b.core.bars.length < 2 → ends (.bar px sp w1) { w with
          forms := if w.core.bars = [] then joined w w.focus .bar (origin w (bits v 7 4) (bits v 3 0)) (bits v 7 4) (bits v 3 0)
            [bits v 31 16, bits v 7 4, bits v 3 0] else w.forms
          core := { w.core with bars := w.core.bars ++ [e] } }) ∧
        (2 ≤ b.core.bars.length → stalls (.bar px sp w1) (.bar e))) ∧
      (¬ low v → refuses (.bar px sp w1) 0x07 0x45 v)) ∧
    (Clean (.bar px sp w1) s → let w := work (.bar px sp w1) s
      b.core.capt = some (.bar z) →
      (b.core.bars.length < 2 → w.core.bars ≠ [] → ends (.bar px sp w1) { w with core := { w.core with
        bars := w.core.bars ++ [z] } }) ∧
      (2 ≤ b.core.bars.length → stalls (.bar px sp w1) (.bar z))) ∧
    (Clean (.hint px sp w1) s → let w := work (.hint px sp w1) s
      let part := w.partOf w.focus
      let hold := ((w.part part).lease.extractLsb' 62 2).toNat
      let key := fun port => (port * 128 + part) * 2048 + v.toNat
      let masked := fun port => match findAt w.sluice.msix (key port) with | some e => e.2.getLsbD 32 | none => true
      let pend := fun ks => ({ w with sluice := { w.sluice with pba := (w.sluice.pba ++ ks).eraseDups } } : State)
      b.readOp (ctxLong px sp) sp = .ok v →
      (2048 ≤ v.toNat → refuses (.hint px sp w1) 0x07 0x40 v) ∧
      (v.toNat < 2048 → hold ≠ 1 → hold ≠ 2 → ends (.hint px sp w1) (pend [key 0, key 1])) ∧
      (v.toNat < 2048 → ∀ port ∈ [0, 1], hold = port + 1 →
        (masked port = false →
          ends (.hint px sp w1) { w with sluice := { w.sluice with msi := w.sluice.msi ++ [(port, key port)] } }) ∧
        (masked port = true → ends (.hint px sp w1) (pend [key port]))))

/-- R305 to R312, R417: SEND, BCAST, WRS and PSEND put one entry with its receivers, channel, class and captured payload into the
region buffer, where fewer than 32 are taken; nothing leaves before the commit, which sends each receiver its copy. Bits that
must be zero raise OPND 0x40, a length past eight or past M31 0x41, a class not enabled 0x42, a gang that is none EGANG,
channels 56 to 63 outside the privileged state PRIV 0x10, a receiver of another partition, or on side 1 of a pair, MEMB; an
invalid peer route MEMB 0x01. The first of these that holds, in this order, decides. -/
def Sys2Proof.Claims.messageInstructions : Prop :=
  ∀ (px : List Prefix) (sp : BitVec 6) (w1 : W1) (s : State) (v y : Word) (x : Seat) (e : MsgEntry) (d : Nat),
    let ends := fun (i : Instr) (e : MsgEntry) (steps : List (BitVec 3)) => exec i s = .next (done i s
      (({ work i s with core := { (work i s).core with buf := (work i s).core.buf ++ [.msg e] } } : State).post (work i s) steps))
    let reads := fun (i : Instr) => Clean i s ∧ (work i s).readOp (ctxLong px sp) sp = .ok v
    let free := fun (w : State) => w.core.msgUsed < 32
    let ch := v.extractLsb' 46 6
    let cls := v.extractLsb' 43 3
    let len := bits v 42 39
    let fs := bits v 38 34
    let payload := fun (w : State) => (w.core.r.m.toList.drop fs).take len
    let fits := len ≤ 8 ∧ fs + len ≤ 32
    let open' := fun (w : State) => ch.toNat < 56 ∨ w.priv = true
    let to' := if v.getLsbD 33 then svcOf (bits v 58 52) else bits v 63 52
    let side1 := fun (w : State) => w.paired (w.partOf w.focus) = true ∧ v.getLsbD 33 = false ∧ (to' % 64) % 2 = 1
    let member := fun (w : State) => w.partOfTile (tileOf to') = w.partOfTile (tileOf w.focus)
    let toOk := v.getLsbD 33 = true → bits v 63 59 = 0
    let faults := fun (i : Instr) (c d : BitVec 8) => exec i s = .next (faulted i s (opnd c d v))
    let apart := fun (w : State) (i : Instr) => (¬ member w → faults i 0x0C 0x00) ∧ (member w → side1 w → faults i 0x0C 0x03)
    (reads (.send px sp w1) → let w := work (.send px sp w1) s
      let classOk := cls = 0 ∨ 4 ≤ cls.toNat ∧
        ((w.part (w.partOf w.focus)).rcls.toList.getD (cls.toNat - 4) 0).getLsbD 8 = true
      let i := Instr.send px sp w1
      (toOk → bits v 32 0 = 0 → fits → classOk → open' w → member w → ¬ side1 w → free w →
        ends i ⟨.send, [to'], ch, cls, payload w, v⟩ (specSteps sp)) ∧
      (¬ toOk ∨ bits v 32 0 ≠ 0 → faults i 0x07 0x40) ∧
      (toOk → bits v 32 0 = 0 → ¬ fits → faults i 0x07 0x41) ∧
      (toOk → bits v 32 0 = 0 → fits → ¬ classOk → faults i 0x07 0x42) ∧
      (toOk → bits v 32 0 = 0 → fits → classOk → ¬ open' w → faults i 0x03 0x10) ∧
      (toOk → bits v 32 0 = 0 → fits → classOk → open' w → apart w i)) ∧
    (reads (.bcast px sp w1) → let w := work (.bcast px sp w1) s
      let gw := bits v 63 60
      let gh := bits v 59 56
      let span := bits v 55 54
      let i := Instr.bcast px sp w1
      let zeros := v.getLsbD 52 = false ∧ cls = 0 ∧ bits v 33 0 = 0 ∧ span ≠ 3
      let wide := if w.paired (w.partOf w.focus) = true then 2 else 1
      (zeros → fits → w.core.seat = some x → gangFits x gw gh → open' w → free w →
        ∃ ds : List Nat, (∀ c, c ∈ ds ↔ ∃ i j, i < 2 ^ gw ∧ j < 2 ^ gh ∧
            let rx := x.rx.toNat / 2 ^ gw * 2 ^ gw + i
            let ry := x.ry.toNat / 2 ^ gh * 2 ^ gh + j
            (span = 0 → ry = x.ry.toNat) ∧ (span = 1 → rx = x.rx.toNat) ∧
            (rx = x.rx.toNat → ry = x.ry.toNat → v.getLsbD 53 = true) ∧
            c = coreId (dieOf w.focus) (x.x0.toNat + rx * wide) (x.y0.toNat + ry)) ∧
          ends i ⟨.bcast, ds, ch, BitVec.ofNat 3 (span + 1), payload w, v⟩ (specSteps sp)) ∧
      (¬ zeros → faults i 0x07 0x40) ∧
      (zeros → ¬ fits → faults i 0x07 0x41) ∧
      (zeros → fits → 5 < gw ∨ 5 < gh → faults i 0x21 0x01) ∧
      (zeros → fits → gw ≤ 5 → gh ≤ 5 → w.core.seat = none ∨ (w.core.seat = some x ∧ ¬ gangFits x gw gh) → faults i 0x21 0x02) ∧
      (zeros → fits → w.core.seat = some x → gangFits x gw gh → ¬ open' w → faults i 0x03 0x10)) ∧
    (reads (.wrs px sp w1) → let w := work (.wrs px sp w1) s
      let i := Instr.wrs px sp w1
      let zeros := toOk ∧ bits v 48 34 = 0 ∧ bits v 32 0 = 0
      first w px sp = .ok y →
      (zeros → member w → ¬ side1 w → free w → ends i ⟨.wrs, [to'], 0, 0, [y], v⟩ (stepsSD px sp)) ∧
      (¬ zeros → faults i 0x07 0x40) ∧ (zeros → apart w i)) ∧
    (reads (.psend px sp w1) → let w := work (.psend px sp w1) s
      let i := Instr.psend px sp w1
      let route := getAt 0 w.sluice.proutes (w.partOf w.focus * 64 + bits v 51 46)
      let zeros := cls = 0 ∧ bits v 33 0 = 0
      (zeros → fits → route.getLsbD 63 = true → free w →
        ends i ⟨.psend, [bits v 63 52], 59, 0, payload w, v⟩ (specSteps sp)) ∧
      (¬ zeros → faults i 0x07 0x40) ∧ (zeros → ¬ fits → faults i 0x07 0x41) ∧
      (zeros → fits → route.getLsbD 63 = false → faults i 0x0C 0x01)) ∧
    (s.core.long = [] → s.core.buf = [.msg e] → e.kind = .send → e.dests = [d] → e.cls.toNat < 4 →
      s.commit.core.held = s.core.held ++ [(s.core.nextEntry, 1)] ∧
      ∃ seq : BitVec 16, s.commit.wire = s.wire ++ [⟨.msg, s.focus, d, e.ch,
        mkHdr (srcId s.focus) (s.partOf s.focus) e.ch e.cls e.payload.length s.core.lid seq, e.payload, e.word,
        some s.core.nextEntry, 0, 0, .direct⟩])

/-- R266, R267, R314, R315: LAUNCH offers a checked record and image to the die's sequencer: 2 where the partition has a launch
of that LID, 1 where sixteen of its launches wait, else 0 with the launch waiting under the next number; the response goes
to A or DST and Z is set for 0. TRIG marks a launch's core as triggered and does nothing elsewhere. -/
def Sys2Proof.Claims.launchInstructions : Prop :=
  ∀ (px : List Prefix) (sp : BitVec 6) (w1 : W1) (s t u : State) (ea : Nat) (ws image : List Word),
    (Clean (.launch px sp w1) s → let w := work (.launch px sp w1) s
      let lid := (dw ws 0).extractLsb' 48 16
      w.recordAt px sp = .ok ea → w.recordDws ea = .ok ws → w.recordCheck ws (BitVec.ofNat 64 ea) = .ok () →
      w.readImage (bits (dw ws 2) 47 0) (64 + bits (dw ws 6) 15 12) = .ok (t, image) → imageBad ws image = false →
      let part := t.partOf t.focus
      let answers := fun (c : State) (n : Nat) => result c px sp (BitVec.ofNat 64 n) = .ok u →
        exec (.launch px sp w1) s = .next (done (.launch px sp w1) s ((u.setZncv 8 (if n = 0 then 8 else 0)).post w (stepsSD px sp)))
      let same := ∃ l ∈ t.launches, l.part = part ∧ l.lid = lid
      let waiting := (t.launches.filter fun l => decide (l.part = part ∧ l.running = false)).length
      (same → answers t 2) ∧
      (¬ same → 16 ≤ waiting → answers t 1) ∧
      (¬ same → waiting < 16 → ∃ l : Launch, l.num = t.nextLaunch ∧ l.part = part ∧ l.lid = lid ∧ l.dws = ws ∧
        l.die = dieOf t.focus ∧ l.issuer = t.focus ∧ l.running = false ∧ l.placed = 0 ∧ l.image = image ∧
        l.words = (Instr.launch px sp w1).siteWords ∧
        answers { t with nextLaunch := t.nextLaunch + 1, launches := t.launches ++ [l] } 0)) ∧
    (Clean (.trig px sp w1) s → let w := work (.trig px sp w1) s
      (w.svc = false → w.core.seat.isSome = true → exec (.trig px sp w1) s = .next (done (.trig px sp w1) s
        { w with core := { w.core with triggered := true } })) ∧
      (w.svc = true ∨ w.core.seat = none → exec (.trig px sp w1) s = .next (done (.trig px sp w1) s w)))

/-- Messages and launches: `messageInstructions` and `launchInstructions`. -/
def Obligations.MessagesAndLaunches : Prop := messageInstructions ∧ launchInstructions

/-! ### Translation and the privileged instructions -/

/-- R361 to R367, R370: with nothing cached, an access to a page that four valid tables map in the global pool reaches the page's
physical address and offset where its leaf permits it; otherwise the first of U, the kind and OWN that fails decides the
fault. An invalid root raises ADDR detail 0x03, an invalid entry PAGE detail 0x01, a table line held exclusive by a host
makes the access wait. -/
def Obligations.TranslationWalk : Prop :=
  ∀ (s : State) (sid va : Nat) (need : Need) (e2 e1 e0 e : Word), s.stage ≠ .b1 → va < 2 ^ 48 →
    let root := (s.part (s.partOf sid)).ptroot
    let page := fun (x : Word) => (x.extractLsb' 12 40).toNat * 4096
    let pool := fun (x : Word) => page x + 4096 ≤ 0x6000000000
    let entry := fun (x : Word) (n : Nat) => s.mem.read64 (page x + 8 * (va / 2 ^ (12 + 9 * n) % 512))
    let pointer := fun (x : Word) => x &&& ~~~0x000FFFFFFFFFF000#64 = 1 ∧ pool x
    let at' := fun (x : Word) (n : Nat) => page x + 8 * (va / 2 ^ (12 + 9 * n) % 512)
    let held := fun (x : Word) (n : Nat) => s.hostStop (at' x n / 128) false
    let bad := fun (x : Word) (n : Nat) => held x n || s.meetsPoison none (at' x n) 8
    let empty := tlbFind (s.coreAt sid).itlb (s.partOf sid) va = none ∧ tlbFind (s.coreAt sid).dtlb (s.partOf sid) va = none ∧
      keyed s.stlb (tileOf sid) = [] ∧ keyed s.wcache (tileOf sid) = []
    let answers := fun (r : Except XFault Phys) => ∃ t, s.translate sid va need = (t, r) ∧ t.mem = s.mem ∧ t.parts = s.parts
    let u := isSvc sid || e.getLsbD 9
    let r := e.getLsbD 6
    let w := e.getLsbD 7
    let x := e.getLsbD 8
    empty →
    (root.getLsbD 0 = false → answers (.error ⟨0x0A, 0x03, 3, none⟩)) ∧
    (root.getLsbD 0 = true → pool root → held root 3 = true → answers (.error ⟨0, 0, 3, some (at' root 3 / 128)⟩)) ∧
    (root.getLsbD 0 = true → pool root → bad root 3 = false → (entry root 3).getLsbD 0 = false →
      answers (.error ⟨0x08, 0x01, 3, none⟩)) ∧
    (root.getLsbD 0 = true → pool root → entry root 3 = e2 → pointer e2 → entry e2 2 = e1 → pointer e1 → entry e1 1 = e0 →
      pointer e0 → entry e0 0 = e → bad root 3 = false → bad e2 2 = false → bad e1 1 = false → bad e0 0 = false →
      e.getLsbD 0 = true → e.getLsbD 1 = true → e.extractLsb' 2 4 = 0 → (e.extractLsb' 10 2).toNat ≤ 1 →
      e.extractLsb' 52 2 = 0 → e.extractLsb' 56 8 = 0 → pool e →
      answers (if u = false then .error ⟨0x09, 0x04, 0, none⟩
        else if (need = .read ∨ need = .rmw) ∧ r = false then .error ⟨0x09, 0x01, 0, none⟩
        else if (need = .write ∨ need = .rmw) ∧ w = false then .error ⟨0x09, 0x02, 0, none⟩
        else if need = .exec ∧ x = false then .error ⟨0x09, 0x03, 0, none⟩
        else if e.getLsbD 54 = false then .error ⟨0x08, 0x04, 0, none⟩
        else .ok ⟨page e + va % 4096, e, 0⟩))

/-- R374 to R376: TLBI of an address, a range or all removes every translation of the partition that covers it from each agent's
structures, its own among them, and from the shared ones, with the walk-cache entries and instruction cache lines of its pages;
it discards the running regions that stored through a named page, and counts as issued until TLBSYNC. A[63:20] of a range must
be zero, else OPND detail 0x50, and an address below 2^48, else ADDR. TLBSYNC waits while writes of the partition's bulk copies have not
been performed (R180). PROBE walks the tables and answers the leaf of an
address as a word, with Z set, or the fault it would meet, with Z clear; its walk waits for a host that holds a table line
exclusive.
Model's choices: log 37. -/
def Obligations.TranslationInstructions : Prop :=
  ∀ (px : List Prefix) (sp : BitVec 6) (w1 : W1) (s t u : State) (va : Word) (x : Leaf) (f : XFault) (line : Nat),
    let gone := fun (c w : State) (hit : Nat → Nat → Prop) => c.mem = w.mem ∧ c.parts = w.parts ∧
      let p := w.partOf w.focus
      (∀ e ∈ c.stlb, e.2.part = p → ¬ hit e.2.va (e.2.va + e.2.size)) ∧
      (∀ e ∈ c.btlb, e.2.part = p → ¬ hit e.2.va (e.2.va + e.2.size)) ∧
      (∀ e ∈ c.wcache, e.2.part = p → ¬ hit e.2.va (e.2.va + 2 ^ (12 + 9 * e.2.level))) ∧
      ∀ a ∈ w.partAgents p, let k := c.coreAt a
        (∀ e ∈ k.itlb ++ k.dtlb ++ k.mtlb ++ k.setlb, ¬ hit e.va (e.va + e.size)) ∧
        (∀ l ∈ k.icache, ¬ hit (l.line * 128) (l.line * 128 + 128)) ∧
        ((w.coreAt a).act ≠ none → (∃ g pa, BufEntry.glob g ∈ (w.coreAt a).buf ∧ g.place = .phys pa ∧
          ∃ y ∈ g.vas, hit y.toNat (y.toNat + 1)) → k.buf = [])
    let issued := fun (i : Instr) (steps : List (BitVec 3)) (hit : Nat → Nat → Prop) => ∃ c, gone c (work i s) hit ∧
      exec i s = .next (done i s (({ c with core := { c.core with tlbi := c.core.tlbi ++ [c.core.tlbi.length] } } : State).post
        (work i s) steps))
    let i := Instr.tlbi px sp w1
    let a := (work i s).core.r.a
    let beyond := exec i s = .next (faulted i s (opnd 0x0A 0x01 va))
    (Clean i s → w1.aux.extractLsb' 0 2 = 1 → issued i [] fun _ _ => True) ∧
    (Clean i s → w1.aux.extractLsb' 0 2 = 0 → address (work i s) px sp = .ok va →
      (va.toNat < 2 ^ 48 → issued i (specSteps sp) fun lo hi => lo ≤ va.toNat ∧ va.toNat < hi) ∧
      (2 ^ 48 ≤ va.toNat → beyond)) ∧
    (Clean i s → w1.aux.extractLsb' 0 2 = 2 → address (work i s) px sp = .ok va →
      (a.toNat < 2 ^ 20 → va.toNat < 2 ^ 48 → issued i (specSteps sp) fun lo hi =>
        lo < va.toNat / 4096 * 4096 + (a.toNat + 1) * 4096 ∧ va.toNat / 4096 * 4096 < hi) ∧
      (a.toNat < 2 ^ 20 → 2 ^ 48 ≤ va.toNat → beyond) ∧
      (2 ^ 20 ≤ a.toNat → exec i s = .next (faulted i s (opnd 0x07 0x50 a)))) ∧
    (Clean (.tlbsync px sp w1) s → (work (.tlbsync px sp w1) s).core.tlbi ≠ [] →
      (work (.tlbsync px sp w1) s).lateWrites ((work (.tlbsync px sp w1) s).partOf (work (.tlbsync px sp w1) s).focus) = true →
      exec (.tlbsync px sp w1) s = .next (Claims.base (.tlbsync px sp w1) s)) ∧
    (Clean (.tlbsync px sp w1) s → let w := work (.tlbsync px sp w1) s
      w.core.tlbi = [] ∨ w.lateWrites (w.partOf w.focus) = false →
      exec (.tlbsync px sp w1) s = .next (done (.tlbsync px sp w1) s { w with core := { w.core with tlbi := [] } })) ∧
    (Clean (.probe px sp w1) s → let j := Instr.probe px sp w1
      let w := work j s
      let acc := w1.aux.extractLsb' 0 2
      let need := if acc = 1 then Need.read else if acc = 2 then .write else .exec
      let checked := if acc = 0 then none else permFault (!w1.aux.getLsbD 2) need x.leaf
      let ends := fun (r : Word) (z : Bool) => result t px sp r = .ok u →
        exec j s = .next (done j s ((u.setZncv 8 (if z then 8 else 0)).post w (stepsSD px sp)))
      let refused := fun (c d : BitVec 8) (n : Nat) =>
        ends (1#1 ++ 0#23 ++ c ++ d ++ 0#22 ++ BitVec.ofNat 2 n) false
      let walks := fun (y : Except XFault Leaf) => w.stage ≠ .b1 ∧
        w.walkFill w.focus (w.partOf w.focus) va.toNat (if acc = 3 then .insn else .data) = (t, y)
      let base := (x.leaf.extractLsb' 12 40).toNat * 4096
      let first := if x.leaf.getLsbD 56 then base / 65536 * 65536 else base
      address w px sp = .ok va → va.toNat < 2 ^ 48 →
      (walks (.error f) → f.wait = none → refused f.cause f.detail f.level) ∧
      (walks (.error f) → f.wait = some line →
        exec j s = .next ((Claims.base j s).startSnoop line false (.core (Claims.base j s).focus))) ∧
      (walks (.ok x) →
        (checked = none → ends (x.leaf.extractLsb' 52 12 ++ BitVec.ofNat 40 ((first + (va.toNat - x.va)) / 4096) ++
            x.leaf.extractLsb' 6 6 ++ BitVec.ofNat 4 (if x.size = 4096 then 0 else if x.size = 65536 then 1
              else if x.size = 2097152 then 2 else 3) ++ x.leaf.extractLsb' 0 2) true) ∧
        (∀ c d, checked = some (c, d) →
          refused c d (if x.size = 1073741824 then 2 else if x.size = 2097152 then 1 else 0))))

/-- R392, R410: PSTOP, PGO and SCRUB start their action on a partition that is valid and the issuer's own, or any for the
management core: PSTOP unless it is halted (1), PGO and SCRUB where it is halted (else 2); under way already the asker joins
(1), and another action under way answers 2. CSWAP exchanges at once, spills or fills under the same rule: 3 where the shadow
bank is not in the state it needs, 4 where the area is not mapped, 5 where the layout is too large. Fields that must be zero
raise OPND 0x60 (CSWAP 0x61), an invalid partition OPND 0x60, channel 56 OPND 0x47, another's partition MEMB detail 0x02.
Model's choices: log 30. -/
def Obligations.PartitionInstructions : Prop :=
  ∀ (px : List Prefix) (sp : BitVec 6) (w1 : W1) (s : State) (v : Word) (q : Nat) (fs : List Nat) (other : Action),
    let three : List (Instr × Action) := [(.pstop px sp w1, .pstop), (.pgo px sp w1, .pgo), (.scrub px sp w1, .scrub)]
    let reads := fun (i : Instr) => Clean i s ∧ (work i s).readOp (ctxLong px sp) sp = .ok v
    let valid := fun (w : State) => (w.part q).pmap.getLsbD 63 = true
    let own := fun (w : State) => w.focus = svcOf 0 ∨ w.partOfTile (tileOf w.focus) = some q
    let mine := fun (w : State) => valid w ∧ own w ∧ w1.aux ≠ 56
    let faults := fun (i : Instr) (c d : BitVec 8) => exec i s = .next (faulted i s (opnd c d v))
    let turned := fun (i : Instr) (w : State) => (¬ valid w → faults i 0x07 0x60) ∧
      (valid w → ¬ own w → faults i 0x0C 0x02) ∧ (valid w → own w → w1.aux = 56 → faults i 0x07 0x47)
    let ends := fun (i : Instr) (c : State) (n : Nat) => exec i s = .next (done i s ((status c n).post (work i s) (specSteps sp)))
    let starts := fun (i : Instr) (act : Action) => ∃ c, ends i c 0 ∧ { c with parts := (work i s).parts } = work i s ∧
      (c.part q).action = some act ∧ (c.part q).askers = [((work i s).focus, w1.aux)] ∧
      (∀ k, k ≠ q → c.part k = (work i s).part k) ∧ ((c.part q).stopping = true ∨ act ≠ .pstop)
    let joins := fun (i : Instr) => ∃ c, ends i c 1 ∧ { c with parts := (work i s).parts } = work i s ∧
      (c.part q).askers = ((work i s).part q).askers ++ [((work i s).focus, w1.aux)] ∧
      (∀ k, k ≠ q → c.part k = (work i s).part k)
    (∀ i ∈ three, reads i.1 → v.toNat = q → q < 128 → mine (work i.1 s) → let x := (work i.1 s).part q
      (i.2 = .pstop → x.halted = true → ends i.1 (work i.1 s) 1) ∧
      (i.2 ≠ .pstop ∨ x.halted = false →
        (x.action = none → x.halted = true ∨ i.2 = .pstop → starts i.1 i.2) ∧
        (x.action = none → x.halted = false → i.2 ≠ .pstop → ends i.1 (work i.1 s) 2) ∧
        (x.action = some i.2 → joins i.1) ∧
        (x.action = some other → other ≠ i.2 → ends i.1 (work i.1 s) 2))) ∧
    (∀ i ∈ three, reads i.1 → (128 ≤ v.toNat → faults i.1 0x07 0x60) ∧
      (v.toNat = q → q < 128 → turned i.1 (work i.1 s))) ∧
    (reads (.cswap px sp w1) → let w := work (.cswap px sp w1) s
      let i := Instr.cswap px sp w1
      let x := w.part q
      let mode := bits v 9 8
      let zeros := bits v 63 48 = 0 ∧ bits v 15 10 = 0 ∧ v.getLsbD 7 = false ∧ mode ≠ 3 ∧ (mode = 0 → bits v 47 16 = 0)
      let area := w.areaFrames q (bits v 47 16 * 65536) (w.areaPages q)
      (¬ zeros → faults i 0x07 0x61) ∧
      (zeros → bits v 6 0 = q → turned i w) ∧
      (zeros → bits v 6 0 = q → mine w → w.hostBlock (w.cswapStops v) = none →
        (mode = 0 → x.action ≠ none ∨ x.halted = false → ends i w 2) ∧
        (mode = 0 → x.action = none → x.halted = true → w.tooLarge q = true → ends i w 5) ∧
        (mode = 0 → x.action = none → x.halted = true → w.tooLarge q = false →
          ∃ c, ends i c 0 ∧ (c.part q).shadow = some (w.context q) ∧ ∃ n : Wire,
            c.wire = (w.wire.filter fun y => !w.keptWire q y) ++ (w.banked q).wire ++ [n] ∧ n.kind = .note ∧
            n.dst = w.focus ∧ n.ch = (if w1.aux = 0 then 57 else w1.aux) ∧
            n.payload = [BitVec.ofNat 64 (0x33 * 2 ^ 56 + q)]) ∧
        (mode ≠ 0 → x.action = none → x.halted = false → ends i w 2) ∧
        (mode = 1 → x.action = none → x.halted = true → x.shadow = none → ends i w 3) ∧
        (mode = 2 → x.action = none → x.halted = true → x.shadow ≠ none → ends i w 3) ∧
        (mode = (if x.shadow = none then 2 else 1) → x.action = none → x.halted = true → area = none → ends i w 4) ∧
        (mode = 1 → x.action = none → x.halted = true → x.shadow ≠ none → area = some fs → starts i (.spill fs)) ∧
        (mode = 2 → x.action = none → x.halted = true → x.shadow = none → area = some fs →
          (w.tooLarge q = true → ends i w 5) ∧ (w.tooLarge q = false → starts i (.fill fs))) ∧
        (mode = 1 → x.action = some (.spill fs) → joins i) ∧ (mode = 2 → x.action = some (.fill fs) → joins i) ∧
        (mode ≠ 0 → x.action = some other → (∀ l, other ≠ (if mode = 1 then .spill l else .fill l)) → ends i w 2)))

/-! ### Events of the cores: selection, results, errors, replies -/

/-- What an event of one agent does: the agent, taken as the one in focus, becomes as `f` leaves it; the focus stays. -/
def Sys2Proof.Claims.onAgent (s t : State) (sid : Nat) (f : State → State) : Prop :=
  let u := f (s.focusOn sid)
  t.focus = s.focus ∧ t.coreAt sid = u.core ∧ (∀ k, k ≠ sid → t.coreAt k = u.coreAt k) ∧
  { t with core := s.core, focus := s.focus, others := s.others } = { u with core := s.core, focus := s.focus, others := s.others }

/-- R16, R17, R264, R275, R277, R279, R293: the core that runs nothing selects, among the eligible channels, one of highest EPRI
that comes first from RR on; with none it idles. The selected channel's resumed region restarts from its checkpoint, as the region
that it was (R415, R419); else its oldest eligible message starts an activation with M0 to M7 the payload and M8 the header; else its
bare pend does. Poisoned bytes of its pointers, or a message that a shadow bank damaged, raise POISON before its first instruction
(R413, R415). RR passes the channel, its EPRI and PASS are reset, and every other eligible channel ages. -/
def Sys2Proof.Claims.selects : Prop :=
  ∀ (s : State) (n : BitVec 6) (m : Msg) (slot : BitVec 2),
    let c := s.core
    let stopped := (s.part (s.partOf s.focus)).stopped
    let runs := c.act = none ∧ c.inter = none ∧ c.stopped = false ∧
      (if s.svc then (s.part (s.partOf s.focus)).reset = .none else stopped = false) ∧ s.dieRuns (dieOf s.focus) = true
    let waits := fun (p : Park) => p.st = .parked ∨ p.st = .migrated ∨ p.st = .waiting
    let clear := fun (x : Msg) => c.ctl.cmask.getLsbD (bits x.hdr 38 36) = false
    let first := runs ∧ c.eligible n = true ∧ ∀ e, c.eligible e = true → e ≠ n → (c.chan e).epri < (c.chan n).epri ∨
      (c.chan e).epri = (c.chan n).epri ∧ n - c.rr < e - c.rr
    let preset := (c.chan n).preset.toNat
    let sound := s.svc = true ∨ s.storeBad (clusterOf s.focus * 16777216 + preset) 64 = false
    let resumed := ∃ p ∈ c.parks.toList, p.st = .resumed ∧ p.chan = n
    let chosen := fun (t : State) => t.core.act = some n ∧ t.core.rr = n + 1 ∧
      (t.core.chan n).epri = (c.chan n).pri ∧ (t.core.chan n).pass = 0 ∧ t.core.buf = [] ∧ t.core.long = [] ∧
      t.core.ck.a = t.core.r.a ∧ t.core.ck.pc = t.core.pc ∧
      ∀ e, e ≠ n → (c.eligible e = false → t.core.chan e = c.chan e) ∧
        (c.eligible e = true → (c.chan e).pass.toNat < 254 → (t.core.chan e).pass = (c.chan e).pass + 1 ∧
          (t.core.chan e).epri = (c.chan e).epri) ∧
        (c.eligible e = true → (c.chan e).pass = 254 → (t.core.chan e).pass = 0 ∧
          (t.core.chan e).epri.toNat = min 7 ((c.chan e).epri.toNat + 1))
    let starts := fun (t : State) (payload : Nat → Word) (hdr : Word) => chosen t ∧ t.core.r.a = 0 ∧
      t.core.r.flg = BitVec.ofNat 64 (bits c.ctl.rmode 3 3 * 2 ^ 15 + bits c.ctl.rmode 2 0 * 2 ^ 12) ∧
      t.core.pc = BitVec.ofNat 64 (s.codeRegion.1 + (c.chan n).entry.toNat) ∧
      (∀ i, i < 8 → t.core.r.slot (BitVec.ofNat 5 i) = payload i) ∧ t.core.r.slot 8 = hdr ∧
      (∀ i, 9 ≤ i → i < 24 → t.core.r.slot (BitVec.ofNat 5 i) = 0) ∧
      (∀ i, 24 ≤ i → i < 32 → t.core.r.slot (BitVec.ofNat 5 i) = c.r.slot (BitVec.ofNat 5 i)) ∧
      t.core.r.pres = (c.r.pres &&& 0xFF000000 ||| 0x000001FF) ∧ (∀ k, t.core.r.mask k = 0) ∧ (∀ k, t.core.r.vec k = 0)
    ((∀ x ∈ (c.chan n).queue, x.bound = false) → (c.eligible n = true ↔ n ≠ 56 ∧ c.ctl.chen.getLsbD n.toNat = true ∧
      (∀ p ∈ c.parks.toList, p.chan = n → ¬ waits p) ∧
      (resumed ∨ (∃ p ∈ c.parks.toList, p.st = .free) ∧ ((c.chan n).bare = true ∨ ∃ x ∈ (c.chan n).queue, clear x)))) ∧
    (runs → (∀ e, c.eligible e = false) → exec .selection s = .next s) ∧
    (c.act ≠ none → exec .selection s = .next s) ∧
    let poisoned := fun (t : State) (m1 : Word) => t.takeFault ⟨0, 0, t.core.pc⟩ ⟨0x11, 0x01, none, m1, 0, 0⟩
    (first → (c.park slot).st = .resumed → (c.park slot).chan = n → (∀ k, k ≠ slot → (c.park k).st ≠ .resumed) →
      ∃ t, exec .selection s = .next t ∧ chosen t ∧ (t.core.park slot).st = .free ∧ t.core.r.a = (c.park slot).ck.a ∧
        t.core.pc = (c.park slot).ck.pc ∧ t.core.rep = (c.park slot).ck.rep ∧ t.core.r.p = (c.park slot).ck.p ∧
        t.core.rerun = (c.park slot).rerun ∧ t.core.mismOnce = (c.park slot).mismOnce) ∧
    (first → ¬ resumed → (∀ x ∈ (c.chan n).queue, x.bound = false) → c.ordHeld = [] →
      (c.chan n).queue.find? (fun x => !c.ctl.cmask.getLsbD (bits x.hdr 38 36)) = some m →
      ∃ t, starts t (fun i => m.payload.getD i 0) m.hdr ∧ (t.core.chan n).queue = (c.chan n).queue.erase m ∧
        (t.core.chan n).bare = (c.chan n).bare ∧ t.core.rerun = false ∧ t.core.mismOnce = false ∧
        (m.bad = false → sound → exec .selection s = .next t) ∧
        (m.bad = true → exec .selection s = .next (poisoned t 0)) ∧
        (m.bad = false → ¬ sound → exec .selection s = .next (poisoned t (BitVec.ofNat 64 preset)))) ∧
    (first → ¬ resumed → (∀ x ∈ (c.chan n).queue, x.bound = false) → (∀ x ∈ (c.chan n).queue, ¬ clear x) →
      ∃ t, starts t (fun _ => 0) (mkHdr (srcId s.focus) (s.partOf s.focus) n 0 0 c.lid 0) ∧ (t.core.chan n).bare = false ∧
        (t.core.chan n).queue = (c.chan n).queue ∧ (sound → exec .selection s = .next t) ∧
        (¬ sound → exec .selection s = .next (poisoned t (BitVec.ofNat 64 preset))))

/-- R46, R52, R138, R202, R413 to R416, R419: a due result lands, a full region commits once no host keeps it waiting; a corrected
error changes nothing. An uncorrectable error in a region makes it run again, and faults with ECC the second time; in an
accumulator it faults the MXRD that reads it (at once: log 64); in a checkpoint it ends the activation with a notice; in a shadow bank's
bytes or in memory it poisons the line; a published store's is reported. Where a pair compares, a run that agrees goes on; a mismatch
counts and makes the region run again, and the second in one region raises PAIR. -/
def Sys2Proof.Claims.coreEvents : Prop :=
  ∀ (s : State) (sid line : Nat) (effect : Bool) (detail : BitVec 8) (other : Word),
    let c := s.coreAt sid
    let compares := if effect then (s.focusOn sid).comparesEffect else (s.focusOn sid).comparesPrint
    let agrees := other = (if effect then 0 else c.fingerprint)
    let acts := fun (i : Instr) (f : State → State) => ∃ t, exec i s = .next t ∧ onAgent s t sid f
    ((∃ l ∈ c.long, l.left = 0) → acts (.longResult sid) State.landDue) ∧
    (c.act ≠ none → 65536 ≤ c.icount → (s.focusOn sid).commitBlock = none → acts (.instructionLimit sid) State.commit) ∧
    exec .patrolScrub s = .next s ∧
    (c.act ≠ none → 1 ≤ detail.toNat → detail.toNat ≤ 4 →
      (c.rerun = false → acts (.uncorrectableError (.core sid detail none)) fun u =>
        { u.discard with core := { u.discard.core with rerun := true } }) ∧
      (c.rerun = true → acts (.uncorrectableError (.core sid detail none)) fun u =>
        u.takeFault u.siteNow ⟨0x10, detail, none, 0, 0, 0⟩)) ∧
    (c.act ≠ none → (s.focusOn sid).readsAccum = true → acts (.uncorrectableError (.core sid 5 none)) fun u =>
      u.takeFault u.siteNow ⟨0x10, 5, none, 0, 0, 0⟩) ∧
    (c.act ≠ none → ∃ t, exec (.uncorrectableError (.checkpoint sid)) s = .next t ∧ (t.coreAt sid).act = none ∧
      t.mem = s.mem ∧ ∃ m, t.wire = s.wire ++ [m] ∧ m.kind = .fault ∧ m.src = sid ∧
        (m.payload.getD 0 0).extractLsb' 48 16 = 0x1001) ∧
    (∀ x a n, (s.part sid).shadow = some x → (∃ e ∈ x.clusters, a / 16777216 = e.1 ∧ a % 16777216 + n ≤ e.2.persEnd) →
      exec (.uncorrectableError (.shadowBytes sid a n)) s = .next (s.setPart sid { s.part sid with
        shadow := some { x with bad := x.bad ++ (List.range n).map fun i => a + i } })) ∧
    (∃ t, exec (.uncorrectableError (.memory line)) s = .next t ∧ t.mem = s.mem ∧ t.core = s.core ∧
      ∀ i, line * 128 ≤ i → i < line * 128 + 128 → t.poisoned i 1 = true) ∧
    (∃ t, exec (.uncorrectableError (.published sid line)) s = .next t ∧ ∃ m, t.wire = s.wire ++ [m] ∧
      m.dst = svcOf (tileOf sid) ∧ m.ch = 59 ∧ m.payload.getD 1 0 = BitVec.ofNat 64 (line * 128) ∧
      (m.payload.getD 0 0).extractLsb' 48 16 = 0x1080) ∧
    (s.paired (s.partOf sid) = true → isSvc sid = false → sideOne sid = false → c.act ≠ none → compares = true →
      (agrees → exec (.fingerprintCompare sid other effect) s = .next s) ∧
      (¬ agrees → c.mismOnce = false → acts (.fingerprintCompare sid other effect) fun u =>
        { u.discard with core := { u.discard.core with
          mismOnce := true, ctl := { u.discard.core.ctl with
            mism := if c.ctl.mism = 0xFFFF then 0xFFFF else c.ctl.mism + 1 } } }) ∧
      (¬ agrees → c.mismOnce = true → ∃ t, exec (.fingerprintCompare sid other effect) s = .next t ∧
        (t.coreAt sid).act = none ∧ (t.coreAt sid).ctl.fcode.extractLsb' 16 16 = (if effect then 0x1202 else 0x1201)))

/-- A fault notice of an agent went out, with this cause and detail (R398, R416). -/
def Sys2Proof.Claims.notified (s t : State) (sid : Nat) (code : BitVec 16) : Prop :=
  ∃ m, t.wire = s.wire ++ [m] ∧ m.kind = .fault ∧ m.src = sid ∧ m.dst = svcOf (tileOf sid) ∧ m.ch = 59 ∧
    (m.payload.getD 0 0).extractLsb' 48 16 = code

/-- R138, R413 to R416, R230, R248, R338, R421: an uncorrectable error of a park slot, or of a region that a shadow bank holds, loses
that region with a notice; in a shadow bank's accumulator image or queued message it poisons what it hits; a matrix, stream, bulk copy
or GRED command that consumes one ends with status 0x10, at every member of its gang (log 64); a clean L2 entry goes, a dirty one is
poisoned; a flit is dropped, with its packet where no copy is retained; die-wide state resets its die. -/
def Sys2Proof.Claims.siteErrors : Prop :=
  ∀ (s : State) (sid p addr n k : Nat) (q : BitVec 2) (slot : Option (BitVec 2)) (ch : BitVec 6) (x : Ctx) (e : Core)
    (r : MxRun) (g : SgoCmd) (b : Bulk) (ws : List Word) (lid : BitVec 16) (pk : Pkt) (f : Flit),
    let c := s.coreAt sid
    let hits := fun (site : ErrSite) (t : State) => exec (.uncorrectableError site) s = .next t
    let holds := (s.part p).shadow = some x ∧ findAt x.cores sid = some e
    let holdsNow := fun (t : State) (e' : Core) => ∃ y, (t.part p).shadow = some y ∧ findAt y.cores sid = some e' ∧
      y.clusters = x.clusters ∧ ∀ j, j ≠ sid → findAt y.cores j = findAt x.cores j
    let gang := fun (kind : FormKind) => match s.formOf kind sid with | some y => y.members | none => [sid]
    ((c.park q).st ≠ .free → ∃ t, hits (.park sid q) t ∧ notified s t sid 0x1001 ∧ ((t.coreAt sid).park q).st = .free ∧
      (∀ j, j ≠ q → (t.coreAt sid).park j = c.park j) ∧ (t.coreAt sid).act = c.act) ∧
    (holds → e.hasRegion slot = true → ∃ t e', hits (.shadow p sid slot) t ∧ notified s t sid 0x1006 ∧ holdsNow t e' ∧
      e'.hasRegion slot = false ∧ ∀ j, j ≠ slot → e'.hasRegion j = e.hasRegion j) ∧
    (holds → addr + n ≤ 65536 → ∃ t, hits (.shadowAccum p sid addr n) t ∧
      holdsNow t { e with mx := { e.mx with bad := e.mx.bad ++ (List.range n).map (addr + ·) } }) ∧
    (holds → n < (e.chan ch).queue.length → ∃ t e', hits (.shadowQueue p sid ch n) t ∧ holdsNow t e' ∧
      (e'.chan ch).queue.map (·.bad) = ((e.chan ch).queue.map (·.bad)).set n true ∧
      (e'.chan ch).queue.map (·.payload) = (e.chan ch).queue.map (·.payload) ∧ ∀ j, j ≠ ch → e'.chan j = e.chan j) ∧
    (c.mx.run ≠ none → ∃ t, hits (.accum sid) t ∧ ∀ m ∈ gang .mx, (s.coreAt m).mx.run = some r → r.ended = none →
      ∃ r', (t.coreAt m).mx.run = some r' ∧ r'.ended = some 0x10) ∧
    (c.se.cur = some g → let d := dw g.record 0; ∃ t, hits (.stream sid) t ∧ (t.coreAt sid).se.cur = none ∧
      (d.getLsbD 41 = true → t.wire = s.wire) ∧
      (d.getLsbD 41 = false → ∃ m, t.wire = s.wire ++ [m] ∧ m.kind = .note ∧ m.dst = sid ∧
        m.payload = [BitVec.ofNat 64 (bits d 63 48 * 2 ^ 48 + 0x10 * 2 ^ 40 + g.done % 2 ^ 32)])) ∧
    ((∃ v l, s.vuHead sid = some (.gred v l)) → ∃ t, hits (.gred sid) t ∧ ∀ m ∈ gang .gred, s.vuHead m = some (.gred ws lid) →
      (dw ws 0).getLsbD 41 = false → ∃ y ∈ t.wire, y.kind = .note ∧ y.dst = m ∧
        y.payload = [BitVec.ofNat 64 (bits (dw ws 0) 63 48 * 2 ^ 48 + 0x10 * 2 ^ 40)]) ∧
    (s.bulkAt k p n = some b → b.taken = true → b.status = none → b.away = false → (s.part b.part).stopped = false →
      let d := dw b.dws 0
      ∃ t, hits (.bulk k p n) t ∧ t.bulkAt k p n = some { b with status := some 0x10, paused := false } ∧
        (d.getLsbD 41 = true → t.wire = s.wire) ∧
        (d.getLsbD 41 = false → ∃ m, t.wire = s.wire ++ [m] ∧ m.kind = .note ∧ m.dst = b.sid ∧
          dw m.payload 0 = BitVec.ofNat 64 (bits d 63 48 * 2 ^ 48 + 0x10 * 2 ^ 40 + b.written % 2 ^ 40))) ∧
    ((∃ y ∈ s.l2.ents, y.slice = k ∧ y.id = n) →
      ((∀ y ∈ s.l2.tags, y.ent = some n → y.dirty = false) → s.hostBlock (s.l2Stops n) = none →
        ∃ t, hits (.l2 k n) t ∧ ∀ y ∈ s.l2.tags, y.ent = some n → t.tagOf y.line = none) ∧
      ((∃ y ∈ s.l2.tags, y.ent = some n ∧ y.dirty = true) → hits (.l2 k n) { s with l2 := { s.l2 with
        tags := s.l2.tags.map fun y => if y.ent = some n then { y with bad := true } else y } })) ∧
    (f ∈ s.net.flits → s.net.pkt f.pkt = some pk → ∃ t, hits (.flit f.pkt f.idx) t ∧
      (pk.retained = true → t.net.pkts = s.net.pkts ∧ f ∉ t.net.flits ∧
        ∀ y ∈ s.net.flits, (y.pkt ≠ f.pkt ∨ y.idx ≠ f.idx) → y ∈ t.net.flits) ∧
      (pk.retained = false → t.net.pkt f.pkt = none)) ∧
    (k < 4 → s.dieRuns k = true → ∃ t, hits (.die k) t ∧ ∀ j, dieOf j = k → t.coreAt j = Core.zero)

/-- R372, R399, R400, R403, R406: a region reply resumes the parked region its TOKEN names, ends it, or sends it on to migrate: into
a free frame, with a message of the frame's address, or to wait for one. A return gives a migrated region the frame's fields and
resumes it, or ends it; a reply to a suspended matrix or stream engine lets it go on. A reply that names nothing, or a command that
has been aborted or has ended, changes nothing but that it is taken. A fault message is offered again until the queue takes it, and a waiting migration
until a frame is free. -/
def Sys2Proof.Claims.replies : Prop :=
  ∀ (s : State) (n d : Nat) (w : Wire) (token : BitVec 8) (r : MxRun),
    let t := s.takeWire n w
    let c := s.coreAt d
    let k := token.extractLsb' 6 2
    let gen := (c.park k).gen = token.extractLsb' 0 6
    let m0 := dw w.payload 0
    let to' := s.wire[n]? = some w ∧ w.dst = d ∧ (s.part (s.partOf d)).reset = .none ∧ w.trip.ready = true
    let v := s.coreAt (svcOf (tileOf d))
    let waits := fun (u t : State) => u.wire = t.wire ∧ ((u.coreAt d).park k).st = .waiting
    let goes := fun (u t : State) (f : Nat) => ((u.coreAt d).park k).st = .migrated ∧
      (u.coreAt (svcOf (tileOf d))).ctl.migbusy = v.ctl.migbusy ||| BitVec.ofNat 64 (2 ^ f) ∧
      ∃ m, u.wire = t.wire ++ [m] ∧ m.kind = .fault ∧ m.dst = svcOf (tileOf d) ∧ dw m.payload 1 = BitVec.ofNat 64
        (frameAddr v.ctl.migcfg f)
    let park := fun (p : Park) => ({ c with parks := c.parks.set k.toNat p k.isLt } : Core)
    let region := to' ∧ w.kind = .msg ∧ w.ch = 56 ∧ m0 = BitVec.ofNat 64 (bits m0 59 56 * 2 ^ 56 + token.toNat * 2 ^ 48) ∧
      w.payload ≠ []
    let engine := to' ∧ w.kind = .msg ∧ w.ch = 56 ∧ m0.extractLsb' 0 56 = 0 ∧ bits m0 63 60 = 2
    let stream := to' ∧ w.kind = .msg ∧ w.ch = 56 ∧ m0.extractLsb' 0 56 = 0 ∧ bits m0 63 60 = 3
    (region → (c.park k).st = .parked → gen → bits m0 59 56 = 0 →
      exec (.regionReply n) s = .next (t.setCore d (park { c.park k with st := .resumed }))) ∧
    (region → (c.park k).st = .parked → gen → bits m0 59 56 = 1 →
      exec (.regionReply n) s = .next (t.setCore d (park { c.park k with st := .free }))) ∧
    (region → (c.park k).st = .parked → gen → bits m0 59 56 = 2 → ∃ u, exec (.regionReply n) s = .next u ∧
      (freeFrame v.ctl.migcfg v.ctl.migbusy = none → waits u t) ∧
      ∀ f, freeFrame v.ctl.migcfg v.ctl.migbusy = some f → goes u t f) ∧
    (region → ((c.park k).st ≠ .parked ∨ ¬ gen) → exec (.regionReply n) s = .next t) ∧
    (to' → w.kind = .ret token → (c.park k).st = .migrated → gen → bits m0 1 0 = 0 →
      ∃ q : Ckpt, exec (.frameReturn n) s = .next (t.setCore d (park { c.park k with st := .resumed, ck := q })) ∧
        q.pc = dw w.payload 1 ∧ q.a = dw w.payload 4 ∧ q.flg = dw w.payload 5 ∧ q.pres = (dw w.payload 6).extractLsb' 0 24 ∧
        q.rep.act = (dw w.payload 2).getLsbD 0 ∧ q.rep.left = (dw w.payload 2).extractLsb' 24 40 ∧ q.rep.addr = dw w.payload 3 ∧
        (∀ (i : Nat) (h : i < 8), q.p[i] = dw w.payload (7 + i)) ∧ ∀ (i : Nat) (h : i < 24), q.m[i] = dw w.payload (15 + i)) ∧
    (to' → w.kind = .ret token → (c.park k).st = .migrated → gen → bits m0 1 0 = 1 →
      exec (.frameReturn n) s = .next (t.setCore d (park { c.park k with st := .free }))) ∧
    (engine → bits m0 59 56 = 0 → c.mx.run = some r → r.susp = true → r.abort = false → r.ended = none →
      c.awaits 2 (dw w.payload 1) = true →
      exec (.agentReply n) s = .next (t.setCore d { c with mx := { c.mx with run := some { r with susp := false } } })) ∧
    (engine → (c.mx.run = none ∨ c.mx.run = some r ∧ (r.abort = true ∨ r.ended ≠ none)) → exec (.agentReply n) s = .next t) ∧
    (stream → bits m0 59 56 = 0 → c.se.cur ≠ none → c.se.susp = true → c.awaits 3 (dw w.payload 1) = true →
      exec (.agentReply n) s = .next (t.setCore d { c with se := { c.se with susp := false } })) ∧
    (stream → c.se.cur = none → exec (.agentReply n) s = .next t) ∧
    (to' → w.trip = .direct → w.kind = .fault → w.tries ≠ 0 → w.next ≤ s.now → s.accepts d = true →
      ((c.chan w.ch).queue.length < s.queueDepth d w.ch → exec (.faultMessageRetry n) s = .next (t.setCore d { c with
        chans := c.chans.set w.ch.toNat { c.chan w.ch with queue := (c.chan w.ch).queue ++ [⟨w.hdr, w.payload, w.src, false, false⟩] }
          w.ch.isLt })) ∧
      (s.queueDepth d w.ch ≤ (c.chan w.ch).queue.length → exec (.faultMessageRetry n) s =
        .next { s with wire := s.wire.set n { w with tries := w.tries + 1, next := s.now + 64 } })) ∧
    ((c.park k).st = .waiting → ∃ u, exec (.migrationRetry d k) s = .next u ∧
      (freeFrame v.ctl.migcfg v.ctl.migbusy = none → waits u s) ∧
      ∀ f, freeFrame v.ctl.migcfg v.ctl.migbusy = some f → goes u s f)

/-- The events of the cores (R275, R279, R372, R399, R400, R406, R414 to R419).
Model's choices: log 38, 45. -/
def Obligations.CoreEvents : Prop := selects ∧ coreEvents ∧ siteErrors ∧ replies

/-! ### Deliveries and acknowledgements -/

/-- R18, R177, R273, R281, R284, R311 to R313, R330, R338, R346, R480: a message with room on its channel's queue is queued there,
counted in Rv, its entry and its packet acknowledged; refused it waits 64 cycles more, and at its 64th refusal a SEND, or a PSEND, is
dropped with a QFULL notice to the service core of its sender's tile, LINK where a PSEND's route is down. On an ordered channel a
message whose turn has come is queued and passes the turn on, and one ahead of its turn is held, up to 16. A message of classes 4
to 7 arrives on the channel that the offset in force then gives. A delivery to an agent of a partition being reset is discarded
unless R480 holds it or its limit binds. A deposit sets its receive slot and its presence, and stands through a discard; it lands after the receiver's turn of the cycle (R19). An acknowledged PSEND counts in S and in Rv. A peer's message is
taken on channel 59 where there is room, and is left with its sender where there is none. An acknowledgement frees an entry
that owes no other.
Model's choices: log 29, 39. -/
def Obligations.Deliveries : Prop :=
  ∀ (s : State) (n sid : Nat) (a : Ack) (w : Wire) (down : Bool) (t3 : BitVec 3) (pkg part : Nat) (dst src : BitVec 12)
    (seq : BitVec 16) (payload : List Word),
    let c := s.coreAt w.dst
    let x := c.chan w.ch
    let room := x.queue.length < s.queueDepth w.dst w.ch
    let lid := w.hdr.extractLsb' 16 16
    let gone : State := { s with
      wire := s.wire.eraseIdx n
      acks := if w.entry.isSome || w.trip.pkt.isSome then s.acks ++ [⟨w.src, w.entry, w.dst, w.ch, w.trip.pkt, none,
        (match w.kind with | .wrs _ => 0 | _ => w.hdr), w.word⟩] else s.acks }
    let counted := fun (k : Nat) (f : Counts → Counts) => if lid = 0 then gone else
      ({ gone with counts := setAt s.counts k (f (getAt ⟨0, 0, 0⟩ s.counts k)) } : State)
    let rv := fun (y : Counts) => ({ y with rv := y.rv + 1 } : Counts)
    let both := fun (y : Counts) => ({ y with s := y.s + 1, rv := y.rv + 1 } : Counts)
    let got := if w.kind = .msg ∨ w.kind = .initial then counted (countKey (ifaceOf w.dst) (bits w.hdr 51 45) lid) rv else gone
    let runs := fun (t : State) => (w.tries = 0 → exec (.messageArrival n down) s = .next t) ∧
      (w.tries ≠ 0 → w.next ≤ s.now → w.kind ≠ .fault → exec (.messageRetry n down) s = .next t)
    let here := s.wire[n]? = some w ∧ w.trip.ready = true ∧ w.trip.raw = none
    let joins := fun (k : Core) (b : Bool) => ({ k with
      chans := k.chans.set w.ch.toNat { x with queue := x.queue ++ [⟨w.hdr, w.payload, w.src, b, false⟩] } w.ch.isLt } : Core)
    let queued := here ∧ x.ord = false ∧
      ((w.kind = .msg ∧ w.ch ≠ 56) ∨ w.kind = .initial ∨ w.kind = .note ∨ w.kind = .fault)
    let open' := (s.part (s.partOf w.dst)).reset = .none
    let bound := here ∧ w.kind = .msg ∧ w.ch ≠ 56 ∧ s.bound w = true ∧ s.accepts w.dst = true ∧ s.unacked n w < 16
    let turn := w.hdr.extractLsb' 0 16 = c.turn w.src w.ch
    let waits : State := { s with
      wire := s.wire.set n { w with tries := w.tries + 1, next := s.now + 64, trip := .direct }
      net := match w.trip.pkt with | some id => s.net.dropPkt id | none => s.net }
    let limited := w.kind = .msg ∨ (∃ k, w.kind = .wrs k) ∨ ∃ a b, w.kind = .psend a b
    let p := dst.toNat
    let peer := s.coreAt p
    (∀ d, s.accepts d = true ↔ s.dieRuns (dieOf d) = true ∧ (s.part (s.partOf d)).reset = .none ∧ (isSvc d = true ∨ (s.coreAt d).seat.isSome = true)) ∧
    (queued → s.accepts w.dst = true → room → runs (got.setCore w.dst (joins c false))) ∧
    (bound → turn → room → c.ordHeld = [] → runs (got.setCore w.dst ((joins c true).nextTurn w.src w.ch))) ∧
    (bound → ¬ turn → c.ordHeld.length < 16 →
      runs (got.setCore w.dst { c with ordHeld := c.ordHeld ++ [(w.ch, ⟨w.hdr, w.payload, w.src, true, false⟩)] })) ∧
    (s.wire[n]? = some w → w.trip.ready = true → w.tries = 0 →
      exec (.messageArrival n down) s = exec (.messageArrival n down) { s with wire := s.wire.set n (s.fixChannel w) } ∧
      (w.trip.raw = none → s.fixChannel w = w) ∧
      ∀ raw, w.trip.raw = some raw → (s.fixChannel w).ch = (s.fixChannel w).hdr.extractLsb' 39 6 ∧
        ((w.hdr.extractLsb' 36 3).toNat < 4 ∨ 56 ≤ raw.toNat → (s.fixChannel w).ch = raw) ∧
        (4 ≤ (w.hdr.extractLsb' 36 3).toNat → raw.toNat < 56 → (s.fixChannel w).ch = BitVec.ofNat 6 ((raw.toNat +
          ((s.part (s.partOf w.src)).rcls.toList.getD ((w.hdr.extractLsb' 36 3).toNat - 4) 0).toNat % 64) % 56))) ∧
    (queued → open' → (s.accepts w.dst = false ∨ ¬ room) → (limited → w.tries < 63) → runs waits) ∧
    (open' → (queued ∧ w.kind = .msg ∧ (s.accepts w.dst = false ∨ ¬ room) ∨ here ∧ x.ord = false ∧ w.kind = .psend pkg part) →
      63 ≤ w.tries →
      ∃ t m, runs t ∧ t.wire = s.wire.eraseIdx n ++ [m] ∧ t.mem = s.mem ∧ t.acks = gone.acks ∧ t.counts = got.counts ∧
        m.dst = svcOf (tileOf w.src) ∧ m.ch = 59 ∧ m.kind = .fault ∧
        (m.payload.getD 0 0).extractLsb' 32 32 = (if w.kind ≠ .msg ∧ down = true then 0x13010000 else 0x0D000000 ||| w.ch.setWidth 32) ∧
        m.payload.getD 1 0 = w.hdr ∧ m.payload.getD 2 0 = w.word) ∧
    (here → ¬ open' → (w.kind = .note ∧ w.src ≠ 8448 ∨ w.kind = .initial ∨ w.kind = .fault) → runs gone) ∧
    (here → w.kind = .wrs t3 → s.accepts w.dst = true → (w.tries = 0 ∨ w.next ≤ s.now) →
      ∃ d : Core, exec (.wrsDeposit n) s =
          .next { (counted (countKey (ifaceOf w.dst) (bits w.hdr 51 45) lid) rv).setCore w.dst d with
            deposited := s.deposited ++ [w.dst] } ∧
        d.r.slot (24 + t3.setWidth 5) = dw w.payload 0 ∧ d.r.pres.getLsbD (24 + t3.toNat) = true ∧
        (∀ k, k ≠ 24 + t3.setWidth 5 → d.r.slot k = c.r.slot k) ∧
        (∀ k, k ≠ 24 + t3.toNat → d.r.pres.getLsbD k = c.r.pres.getLsbD k) ∧
        (∀ z ∈ d.rsave, z.n = 24 + t3.setWidth 5 → z.value = dw w.payload 0 ∧ z.pres = true) ∧
        d.r.a = c.r.a ∧ d.r.flg = c.r.flg ∧ d.pc = c.pc ∧ d.act = c.act ∧ d.chans = c.chans ∧ d.buf = c.buf) ∧
    (here → w.kind = .wrs t3 → s.accepts w.dst = false → w.tries < 63 → runs waits) ∧
    (here → w.kind = .psend pkg part → w.next ≤ s.now →
      exec (.psendAck n) s = .next (counted (countKey (ifaceOf w.src) part lid) both)) ∧
    (here → w.kind = .psend pkg part → w.tries < 63 → runs waits) ∧
    (s.acks.find? (fun a => decide (a.sid = sid ∧ a.entry.isSome ∧ a.via.isNone)) = some a →
      ∃ t, exec (.messageAck sid) s = .next t ∧ t.acks = s.acks.erase a ∧ t.wire = s.wire ∧ t.mem = s.mem ∧
        (∀ id, a.pkt = some id → t.net = s.net.dropPkt id) ∧
        ∀ e, a.entry = some e → ((s.coreAt sid).held = [(e, 1)] → (t.coreAt sid).held = []) ∧
          ∀ k, (s.coreAt sid).held = [(e, k + 2)] → (t.coreAt sid).held = [(e, k + 1)]) ∧
    (payload.length ≤ 8 →
      (s.accepts p = true → (peer.chan 59).queue.length < s.queueDepth p 59 → ∃ t, exec (.peerArrival dst src seq payload) s = .next t ∧
        ((t.coreAt p).chan 59).queue = (peer.chan 59).queue ++
          [⟨mkHdr src.toNat (s.partOf p) 59 0 payload.length peer.lid seq, payload, 16384 + src.toNat, false, false⟩] ∧
        t.wire = s.wire ∧ (peer.lid = 0 → t.counts = s.counts) ∧
        (peer.lid ≠ 0 → t.counts = setAt s.counts (countKey (ifaceOf p) (s.partOf p) peer.lid)
          (both (getAt ⟨0, 0, 0⟩ s.counts (countKey (ifaceOf p) (s.partOf p) peer.lid))))) ∧
      ((s.accepts p = false ∨ s.queueDepth p 59 ≤ (peer.chan 59).queue.length) →
        exec (.peerArrival dst src seq payload) s = .next s))

/-! ### Launches, host-channel windows, boot tables -/

/-- R268, R270, R271, R284 to R287, R482. A startable launch runs: its clusters are its own, laid out as its image says, and each
of its cores gets its seat, its channels from the handler entries with empty queues, cleared receive slots, engines and park
slots, and keeps its other slots and its accumulator; no scratchpad byte changes. Its initial messages go out one by one, each
counted in S. A sweep whose two phases find it quiet with equal sums, no line operation of its cores left and no write of its bulk
copies unperformed (R179), ends it: its clusters and seats are given up, its counts
go, and its completion carries the LID and ΣN. A host-channel write of 64 bytes by the holder's port is queued where there is
room, another is dropped and counted; the oldest entry goes to the partition's scheduling core on channel 60 + w. A write of
LOAD by the holder of MSEM gives a service core the handler table its image holds, queued messages staying, or ST 4 where the tile
is in no valid partition, the image is bad or its read faults; another agent's is dropped and counted.
Model's choices: log 20, 75 (DROPS written in another size).
Model's choices: log 20. -/
def Obligations.Launches : Prop :=
  ∀ (s s1 : State) (l : Launch) (num port part w len : Nat) (p m ws image : List Word) (q : List (List Word)) (agent tile : Nat),
    let known := s.launchNo num = some l
    let halted := (s.part l.part).stopped = true
    let settled := l.running = true ∧ ¬ halted ∧ (l.noMore = true ∨ s.initialCount l ≤ l.placed)
    let quiet := (∀ d ∈ s.launchCores l, (s.coreAt d).idle = true ∧ s.outstanding d = false) ∧ (s.sums l).1 = (s.sums l).2.1
    let put := fun (x : Launch) => ({ s with launches := s.launches.map fun y => if y.num = x.num then x else y } : State)
    let places := l.running = true ∧ l.paused = false ∧ l.noMore = false ∧ l.placed < s.initialCount l ∧ ¬ halted ∧
      s.maxDamp l.part < 12
    let dest := coreId l.die (lcX0 l.dws + l.placed % (lcW l.dws / (if s.paired l.part then 2 else 1)) *
      (if s.paired l.part then 2 else 1)) (lcY0 l.dws + l.placed / (lcW l.dws / (if s.paired l.part then 2 else 1)) % lcH l.dws)
    let placed := fun (t : State) (pay : List Word) => t.launches = (put { l with placed := l.placed + 1 }).launches ∧
      t.wire = s.wire ++ [⟨.initial, 8192 + l.die, dest,
        0, mkHdr (srcId l.issuer) l.part 0 0 pay.length l.lid (BitVec.ofNat 16 l.placed), pay, 0, none, 0, 0, .direct⟩] ∧
      (let k := countKey (2048 + l.die) l.part l.lid
       l.lid ≠ 0 → (getAt ⟨0, 0, 0⟩ t.counts k).s = (getAt ⟨0, 0, 0⟩ s.counts k).s + 1)
    let mine := fun (e : Nat × Counts) => e.1 % 8388608 = l.part * 65536 + l.lid.toNat
    let win := winKey port part w
    let x := s.win win
    let mapped := s.sluice.up.toList.getD port false = true ∧ part < 128 ∧ w < 4 ∧ s.stage = .b3 ∧
      (s.part part).pmap.getLsbD 63 = true
    let setWin := fun (y : HWin) => ({ s with sluice := { s.sluice with wins := setAt s.sluice.wins win y } } : State)
    let sched := if (s.part part).pmap.getLsbD 52 then svcOf (bits (s.part part).pmap 46 40) else bits (s.part part).pmap 51 40
    let ch := BitVec.ofNat 6 (60 + w)
    let room := s.accepts sched = true ∧ ((s.coreAt sched).chan ch).queue.length < s.queueDepth sched ch
    let valid := ∃ v, s.partOfTile tile = some v ∧ (s.part v).pmap.getLsbD 63 = true
    (known → s.canStart l = true → s.hostBlock (s.startStops l) = none → ∃ t, exec (.launchStart num) s = .next t ∧ t.spad = s.spad ∧ t.wire = s.wire ∧
      t.launches = (put { l with running := true }).launches ∧
      (∀ c ∈ l.clusters, (t.cluster c).owner = some (l.part, l.lid) ∧ (t.cluster c).spsz = lcSpsz l.dws ∧
        (t.cluster c).regions = l.regions ∧ (t.cluster c).qd = some (lcQd l.dws)) ∧
      ∀ d ∈ s.launchCores l, let c := s.coreAt d; let u := t.coreAt d
        u.seat = some (s.seatOf l d) ∧ u.r.a = c.r.a ∧ u.r.p = c.r.p ∧ (∀ i, i < 24 → u.r.slot (BitVec.ofNat 5 i) = c.r.slot (BitVec.ofNat 5 i)) ∧
        (∀ i, 24 ≤ i → i < 32 → u.r.slot (BitVec.ofNat 5 i) = 0 ∧ u.r.pres.getLsbD i = false) ∧
        u.ctl.cmask = 0 ∧ u.ctl.xseed = 0 ∧ u.ctl.fcode = 0 ∧ u.ctl.mism = 0 ∧ u.mx = Mx.zero ∧ u.se = Se.zero ∧
        u.parks = Vector.replicate 4 Park.none ∧
        ∀ n : BitVec 6, let e := dw l.image n.toNat; let y := u.chan n
          y.pri = e.extractLsb' 29 3 ∧ y.epri = y.pri ∧ y.ord = e.getLsbD 26 ∧ y.preset = e.extractLsb' 0 24 ∧ y.queue = [] ∧
          (n ≠ 56 → y.entry = e.extractLsb' 36 28 ∧ y.bare = e.getLsbD 27 ∧ u.ctl.chen.getLsbD n.toNat = e.getLsbD 28) ∧
          (n = 56 → y.bare = false ∧ u.ctl.chen.getLsbD 56 = false)) ∧
    (known → places → lcNinit l.dws = 0 → ∃ t, exec (.initialMessagePlacement num) s = .next t ∧ placed t []) ∧
    (known → places → lcNinit l.dws ≠ 0 →
      s.readPayload l (lcPld l.dws + 64 * l.placed) (lcIml l.dws) = (s1, .ok p) →
      ∃ t, exec (.initialMessagePlacement num) s = .next t ∧ placed t p) ∧
    (∀ d, s.outstanding d = false → (∀ op ∈ s.lineOps, op.sid ≠ d) ∧ ∀ b ∈ s.bulks, b.sid = d → b.away = false → b.late = []) ∧
    (known → settled → ¬ quiet → exec (.quiescenceSweep num) s = .next (put { l with sweep := none })) ∧
    (known → settled → quiet → l.sweep = none → exec (.quiescenceSweep num) s = .next (put { l with sweep := some (s.sums l) })) ∧
    (known → settled → quiet → l.sweep = some (s.sums l) → ∃ t, exec (.quiescenceSweep num) s = .next t ∧
      t.launches = s.launches.filter (fun y => decide (y.num ≠ l.num)) ∧ (∀ e ∈ t.counts, ¬ mine e) ∧
      (∀ c ∈ l.clusters, (t.cluster c).owner = none) ∧ (∀ d ∈ s.launchCores l, (t.coreAt d).seat = none) ∧
      (lcNocmp l.dws = true → t.wire = s.wire) ∧
      (lcNocmp l.dws = false → ∃ y, t.wire = s.wire ++ [y] ∧ y.kind = .note ∧ y.dst = lcDest l.dws ∧
        y.ch = (if lcCch l.dws = 0 then 57 else lcCch l.dws) ∧ y.payload = [l.lid.setWidth 64, BitVec.ofNat 64 (s.sums l).2.2])) ∧
    (mapped →
      (s.leasePort part = some port → x.fifo.length < 16 → exec (.hostChannelWrite port part w 0 64 ws) s =
        .next (setWin { x with fifo := x.fifo ++ [(List.range 8).map fun i => ws.getD i 0] })) ∧
      ((s.leasePort part ≠ some port ∨ 16 ≤ x.fifo.length) → exec (.hostChannelWrite port part w 0 64 ws) s =
        .next (setWin { x with drops := if x.drops = 0xFFFFFFFF then x.drops else x.drops + 1 })) ∧
      (len ≠ 64 → exec (.hostChannelWrite port part w 0 len ws) s =
        .next (setWin { x with drops := if x.drops = 0xFFFFFFFF then x.drops else x.drops + 1 })) ∧
      (len ≠ 8 → exec (.hostChannelWrite port part w 0x48 len ws) s = .next s) ∧
      exec (.hostChannelWrite port part w 0x48 8 ws) s = .next (setWin { x with drops := x.drops &&& ~~~((ws.getD 0 0).extractLsb' 0 32) })) ∧
    (x.fifo = m :: q → room → ∃ t, exec (.hostChannelDelivery port part w) s = .next t ∧ (t.win win).fifo = q ∧
      (t.win win).drops = x.drops ∧ t.mem = s.mem ∧
      ∃ y, ((t.coreAt sched).chan ch).queue = ((s.coreAt sched).chan ch).queue ++ [y] ∧ y.payload = m ∧ y.hdr.extractLsb' 32 4 = 8) ∧
    (x.fifo = m :: q → ¬ room → exec (.hostChannelDelivery port part w) s = .next s) ∧
    (s.mgmtAgent agent = true → tile < 128 →
      (s.holdsMsem agent = false → exec (.load (128 * agent + tile)) s = .next { s with sluice := { s.sluice with
        deny := if s.sluice.deny = 0xFFFFFFFF then s.sluice.deny else s.sluice.deny + 1, mst := 1 } }) ∧
      (s.holdsMsem agent = true →
        (¬ valid → exec (.load (128 * agent + tile)) s = .next { s with sluice := { s.sluice with mst := 4 } }) ∧
        (valid → (s.loadTable tile = (s1, .ok none) ∨ ∃ va f, s.loadTable tile = (s1, .error (va, f)) ∧ f.wait = none) →
          exec (.load (128 * agent + tile)) s = .next { s1 with sluice := { s1.sluice with mst := 4 } }) ∧
        (valid → s.loadTable tile = (s1, .ok (some image)) → ∃ t, exec (.load (128 * agent + tile)) s = .next t ∧ t.sluice.mst = 0 ∧
          ∀ n : BitVec 6, n ≠ 56 → let u := (t.coreAt (svcOf tile)); let e := dw image n.toNat
            (u.chan n).entry = e.extractLsb' 36 28 ∧ (u.chan n).pri = e.extractLsb' 29 3 ∧
            u.ctl.chen.getLsbD n.toNat = e.getLsbD 28 ∧ (u.chan n).queue = ((s1.coreAt (svcOf tile)).chan n).queue)))

/-! ### The matrix engine at work -/

/-- R118 to R120, R130, R134 to R139, R141, R143 to R145. The engine takes the head of its queue while its core's partition runs:
an MXGO starts with its step count and, with ZERO, its enabled elements at zero, or joins its formation and waits for it; a full
formation whose records agree starts everywhere; one in which two records disagree, or whose time runs out before it is full, ends with EGANG at every
member that has joined. A step advances the count of the tile, frees the stream-buffer slots it used, and adds each enabled
element's update with the flags those raise, every other element of the tile staying; an MXST row is stored; MXWR, MXCFG and MXMSK
change just what they name; an ended command leaves the engine, its flags join MXSF, and its completion message goes out unless
NOMSG. A step that consumes a poisoned element ends its command with status 0x11 (R413, R415). A translation fault suspends the command with a message to the service core, or ends it with status 0x01 where an abort
waits for its boundary.
Model's choices: log 3. -/
def Obligations.MatrixWork : Prop :=
  ∀ (s s1 s2 : State) (sid tile i j va : Nat) (g : MxCmd) (r : MxRun) (cls : MxClass) (rest : List MxEntry) (wide : Bool)
    (v : Word) (code k : BitVec 2) (row col : BitVec 128) (f : Form) (a b : Panel) (x : XFault) (need : Need) (fl : Flags5)
    (st : BitVec 8) (o : Nat) (os : List Nat),
    let c := s.coreAt sid
    let m := c.mx
    let s3 := (s2.mxFreeSlot sid r.cmd false).mxFreeSlot sid r.cmd true
    let m2 := (s2.coreAt sid).mx
    let m3 := (s3.coreAt sid).mx
    let setMx := fun (y : Mx) => s.setCore sid { c with mx := y }
    let idle := s.engRuns sid = true ∧ m.run = none
    let w := fcBytes g.fc
    let steps := m.run = some r ∧ r.cmd.cls = some cls ∧ s.engRuns sid = true ∧ r.cmd.st = false ∧ r.forming = false ∧
      r.susp = false ∧ r.ended = none ∧ r.done < r.cmd.total
    let lone := steps ∧ r.cmd.gang = false ∧ s.mxSlotReady sid r.cmd false 0 = true ∧
      s.mxSlotReady sid r.cmd true r.cmd.skipB = true
    let width := fcBytes r.cmd.fc
    let upd := fun (z : Mx) (i j : Nat) => mxUpdate r.cmd cls (z.elem r.cmd.tile i j width)
      ((List.range (r.cmd.kIn r.done)).map fun n => (a.elems.getD (i * r.cmd.kIn r.done + n) 0, b.elems.getD (n * r.cmd.nl + j) 0))
      (a.scales.getD i 0) (b.scales.getD j 0)
    let stepped := fun (z y : Mx) => ∃ fl : Flags5, y.run = some { r with
        done := r.done + 1
        sticky := r.sticky ||| fl
        ended := if r.abort then some 0x01 else none } ∧
      (∀ h : r.cmd.tile < 4, y.steps[r.cmd.tile] = BitVec.ofNat 32 (r.done + 1)) ∧
      (r.cmd.ml ≤ 128 → r.cmd.nl * width ≤ 512 / 2 ^ z.cfg.toNat → z.acc.wf = true →
        (∀ i j, i < r.cmd.ml → j < r.cmd.nl → y.elem r.cmd.tile i j width =
          if z.on r.cmd.msk i j then (upd z i j).1 % 256 ^ width else z.elem r.cmd.tile i j width) ∧
        ∀ k < 5, fl.getLsbD k = true ↔
          ∃ i < r.cmd.ml, ∃ j < r.cmd.nl, z.on r.cmd.msk i j = true ∧ (upd z i j).2.getLsbD k = true)
    let formed := s.formOf .mx sid = some f ∧ f.formed = false
    let told := fun (t u : State) => ∃ y, u.wire = t.wire ++ [y] ∧ y.dst = svcOf (tileOf sid) ∧ y.ch = 59 ∧
      (y.payload.getD 1 0).extractLsb' 0 48 = BitVec.ofNat 48 va ∧ (y.payload.getD 0 0).extractLsb' 56 8 = x.cause ∧
      (y.payload.getD 0 0).extractLsb' 48 8 = x.detail ∧ (y.payload.getD 0 0).extractLsb' 30 2 = 2 ∧
      (y.payload.getD 0 0).extractLsb' 32 16 = r.cmd.words.extractLsb' 0 16 ∧ y.payload.getD 6 0 = r.cmd.words.setWidth 64
    let rowRun := s.mxstRun sid = some (s1, r) ∧ s.engRuns sid = true ∧ r.susp = false ∧ r.ended = none ∧ r.done < r.cmd.total
    let done' := m.run = some r ∧ s.engRuns sid = true ∧
      (r.ended = some st ∨ (r.ended = none ∧ r.forming = false ∧ r.susp = false ∧
        (r.cmd.total ≤ r.done ∧ st = 0 ∨ r.done < r.cmd.total ∧ r.abort = true ∧ st = 1)))
    (idle → m.queue = .cmd g :: rest → g.st = false → g.gang = false → ∃ t y, exec (.mxgoStart sid) s = .next t ∧
      t = s.setCore sid { c with mx := y, mtlb := [] } ∧ y.queue = rest ∧ y.run = some ⟨g, 0, 0, false, false, false, none⟩ ∧ y.cfg = m.cfg ∧ y.sf = m.sf ∧
      y.row = m.row ∧ y.col = m.col ∧ (∀ h : g.tile < 4, y.steps[g.tile] = 0) ∧ (g.zero = false → y.acc = m.acc) ∧
      (g.zero = true → m.acc.wf = true → ∀ i j, i < g.ml → j < g.nl → m.on g.msk i j = true → y.elem g.tile i j w = 0)) ∧
    (idle → m.queue = .cmd g :: rest → g.st = false → g.gang = true → s.gangOf sid g.gwl g.ghl = o :: os →
      ∃ t, exec (.mxgoStart sid) s = .next t ∧ (t.coreAt sid).mx = { m with
          queue := rest, run := some ⟨g, 0, 0, true, false, false, none⟩ } ∧
        t.forms = joined s sid .mx o g.gwl g.ghl g.shared) ∧
    (formed → s.formFull f = true → s.engRuns sid = true → f.broken = false →
      ∃ t, exec (.gangFormation sid) s = .next t ∧
        ∀ d ∈ f.members, ∀ y, s.mxRun d = some y → t.mxRun d = some { y with forming := false }) ∧
    (formed → s.engRuns sid = true → f.broken = true →
      ∃ t, exec (.gangFormation sid) s = .next t ∧ f ∉ t.forms ∧
        ∀ d ∈ f.members, ∀ y, s.mxRun d = some y → y.ended = none →
          t.mxRun d = some { y with ended := some 0x21, susp := false, forming := false }) ∧
    (formed → s.formLate f = true → s.formFull f = false → f.broken = false → ∃ t, exec (.gangTimeout sid) s = .next t ∧ f ∉ t.forms ∧
        ∀ d ∈ f.members, ∀ y, s.mxRun d = some y → y.ended = none →
          t.mxRun d = some { y with ended := some 0x21, susp := false, forming := false }) ∧
    (lone → s.mxPanel sid r.cmd false 0 r.done 0 = (s1, .ok a) → s1.mxPanel sid r.cmd true 0 r.done r.cmd.skipB = (s2, .ok b) →
      (m3.stepSour r.cmd = false → ∃ y, exec (.kStep sid) s = .next (s3.setCore sid { s3.coreAt sid with mx := y }) ∧ stepped m3 y) ∧
      (m3.stepSour r.cmd = true → m3.run = some r → ∃ t, exec (.kStep sid) s = .next t ∧ t.wire = s3.wire ∧
        t.mxRun sid = some { r with ended := some 0x11, susp := false, forming := false })) ∧
    ((m.stepSour g = true ↔ ∃ i < g.ml, ∃ j < g.nl, m.on g.msk i j = true ∧ ∃ z ∈ m.bad,
      g.tile * (65536 / 2 ^ m.cfg.toNat) + i * (512 / 2 ^ m.cfg.toNat) + j * w ≤ z ∧
      z < g.tile * (65536 / 2 ^ m.cfg.toNat) + i * (512 / 2 ^ m.cfg.toNat) + j * w + w)) ∧
    (lone → s.mxPanel sid r.cmd false 0 r.done 0 = (s1, .error (.pause x need va)) → (s1.coreAt sid).mx.run = some r →
      ∃ t, exec (.kStep sid) s = .next t ∧
        (r.abort = false → t.mxRun sid = some { r with susp := true } ∧ told s1 t) ∧
        (r.abort = true → t.mxRun sid = some { r with ended := some 0x01, susp := false, forming := false } ∧ t.wire = s1.wire)) ∧
    (steps → r.cmd.gang = true → s.formOf .mx sid = some f →
      f.panel false ((c.seat.getD ⟨0, 0, 0, 0, 0, 0, 0, 0, 0, 0⟩).ry.toNat % 2 ^ r.cmd.ghl) r.done = some a →
      f.panel true ((c.seat.getD ⟨0, 0, 0, 0, 0, 0, 0, 0, 0, 0⟩).rx.toNat % 2 ^ r.cmd.gwl) r.done = some b →
      (∀ d ∈ f.members, ∀ y, s.mxRun d = some y → r.done ≤ y.done + 1) → m.stepSour r.cmd = false →
      ∃ y, exec (.kStep sid) s = .next (setMx y) ∧ stepped m y) ∧
    (rowRun → s1.mxStoreRow sid r.cmd r.done (List.range r.cmd.nl) = (s2, .ok fl) →
      exec (.mxstPerform sid) s = .next (s2.setCore sid { s2.coreAt sid with mx := { m2 with run := some { r with
        done := r.done + 1
        sticky := r.sticky ||| fl
        ended := if r.abort then some 0x01 else none } } })) ∧
    (rowRun → s1.mxStoreRow sid r.cmd r.done (List.range r.cmd.nl) = (s2, .error (.pause x need va)) →
      (s1.coreAt sid).mx.run = some r → r.abort = false →
      ∃ t, exec (.mxstPerform sid) s = .next t ∧ t.mxRun sid = some { r with susp := true } ∧ told s1 t ∧
        t.mem = s1.mem ∧ t.spad = s1.spad) ∧
    (idle → m.queue = .wr tile i j wide v :: rest → exec (.mxwrPerform sid) s = .next (setMx { m with
      acc := m.acc.writeLE (tile * (65536 / 2 ^ m.cfg.toNat) + i * (512 / 2 ^ m.cfg.toNat) + j * (if wide then 8 else 4))
        (if wide then 8 else 4) v.toNat
      bad := m.bad.filter fun z => !decide (tile * (65536 / 2 ^ m.cfg.toNat) + i * (512 / 2 ^ m.cfg.toNat) + j * (if wide then 8 else 4) ≤ z ∧
        z < tile * (65536 / 2 ^ m.cfg.toNat) + i * (512 / 2 ^ m.cfg.toNat) + j * (if wide then 8 else 4) + (if wide then 8 else 4))
      queue := rest })) ∧
    (idle → m.queue = .cfg code :: rest → exec (.mxcfgPerform sid) s = .next (setMx { m with
      cfg := code, acc := [], bad := [], steps := Vector.replicate 4 0, sf := 0, queue := rest })) ∧
    (idle → m.queue = .msk k row col :: rest → exec (.mxmskPerform sid) s = .next (setMx { m with
      row := m.row.set k.toNat row k.isLt, col := m.col.set k.toNat col k.isLt, queue := rest })) ∧
    (done' → ∃ t, exec (.mxCompletion sid) s = .next t ∧
      (t.coreAt sid).mx = { m with run := none, sf := m.sf ||| r.sticky } ∧
      ((dw r.cmd.dws 0).getLsbD 41 = true → t.wire = s.wire) ∧
      ((dw r.cmd.dws 0).getLsbD 41 = false → ∃ y, t.wire = s.wire ++ [y] ∧ y.kind = .note ∧ y.dst = sid ∧
        y.ch = (if bits (dw r.cmd.dws 0) 47 42 = 0 then 57 else BitVec.ofNat 6 (bits (dw r.cmd.dws 0) 47 42)) ∧
        y.payload = [BitVec.ofNat 64 (r.cmd.tag * 2 ^ 48 + st.toNat * 2 ^ 40 + r.done % 2 ^ 32),
          BitVec.ofNat 64 (r.sticky.toNat * 16 + (if r.cmd.st then 8 else 0) + r.cmd.tile)]))

/-! ### Gangs, streams and bulk copies at work -/

/-- Each member of an ended formation has lost the head of its vector unit's queue, where the head is the formation's. -/
def Sys2Proof.Claims.popped (s t : State) (f : Form) (own : VuCmd → Bool) : Prop :=
  f.members.Nodup → ∀ d ∈ f.members, ∀ e rest, (s.coreAt d).vu.queue = e :: rest → own e = true → (t.coreAt d).vu.queue = rest

/-- A member of an ended formation gets its own message: on the channel it named, 57 for 0. -/
def Sys2Proof.Claims.toldOf (t : State) (f : Form) (sid : Nat) (cc : BitVec 6) (pay : List Word) : Prop :=
  f.members.Nodup → ∃ z ∈ t.wire, z.kind = .note ∧ z.src = sid ∧ z.dst = sid ∧ z.ch = (if cc = 0 then 57 else cc) ∧
    z.payload = pay

/-- A reduction has ended at every member: its head has left, and its message, unless NOMSG, gives tag, status and the flags
raised (R154). -/
def Sys2Proof.Claims.gredEnded (s t : State) (f : Form) (status : Nat) (fl : Flags5) : Prop :=
  popped s t f (fun e => match e with | .gred _ _ => true | .vmaxx _ _ _ _ _ _ => false) ∧
  ∀ d ∈ f.members, ∀ ws lid rest, (s.coreAt d).vu.queue = .gred ws lid :: rest → (dw ws 0).getLsbD 41 = false →
    toldOf t f d (BitVec.ofNat 6 (bits (dw ws 0) 47 42))
      [BitVec.ofNat 64 (bits (dw ws 0) 63 48 * 2 ^ 48 + status * 2 ^ 40 + fl.toNat * 16)]

/-- M1 of a row exchange's message: tag, status, and the four scales of the row maximum, 255 where it failed (R156, R157). -/
def Sys2Proof.Claims.vmaxxWord (tag : BitVec 16) (f : Fmt) (best : Option Nat) : Word :=
  let sc := fun (e : Int) => match best with | some q => scaleOf e (f.decode q) | none => 255
  BitVec.ofNat 64 (tag.toNat * 2 ^ 48 + (if best.isSome then 0 else 0x21) * 2 ^ 40 + sc 0 * 2 ^ 24 + sc 2 * 2 ^ 16 +
    sc 15 * 2 ^ 8 + sc 8)

/-- A row exchange has ended at every member, with the maximum or without. -/
def Sys2Proof.Claims.vmaxxEnded (s t : State) (f : Form) (best : Option Nat) : Prop :=
  popped s t f (fun e => match e with | .gred _ _ => false | .vmaxx _ _ _ _ _ _ => true) ∧
  ∀ d ∈ f.members, ∀ tag gwl prec m ch lid rest, (s.coreAt d).vu.queue = .vmaxx tag gwl prec m ch lid :: rest →
    toldOf t f d ch [BitVec.ofNat 64 (best.getD 0), vmaxxWord tag (fmtOf prec) best]

/-- R152 to R154, R308: the command at the head of a vector unit reads its contribution, not poisoned, and joins its formation; a formed reduction
writes its result at each member's DADR (rank 0's alone with R0), to those bytes only, and ends with status 0; two records that
disagree, a formation whose time runs out before it is full and an image with a reserved bit end it without a write. At every member that has joined the
queue loses its head and the message goes out. -/
def Sys2Proof.Claims.reductionWork : Prop :=
  ∀ (s : State) (sid o : Nat) (os : List Nat) (f : Form) (ws : List Word) (lid : BitVec 16) (rest : List VuCmd) (v : Nat)
    (fl : Flags5) (x y : Word),
    let c := s.coreAt sid
    let d := dw ws 0
    let reduces := s.formOf .gred sid = some f ∧ c.vu.queue = .gred ws lid :: rest
    let ready := s.formFull f = true ∧ s.engRuns sid = true ∧ f.broken = false
    let gang := s.gangOf f.origin f.gwl f.ghl
    let data := gang.filterMap fun m => (s.coreAt m).vu.started
    let spots := gang.filterMap fun m => match (s.coreAt m).vu.queue.head? with
      | some (.gred w _) => if (dw w 0).getLsbD 19 && decide (m ≠ f.origin) then none
          else some (clusterOf m * 16777216 + gredDst w, gredBytes w)
      | _ => none
    let apart := fun (a b : Nat × Nat) => a.1 + a.2 ≤ b.1 ∨ b.1 + b.2 ≤ a.1
    (c.vu.queue = .gred ws lid :: rest → c.vu.started = none → s.engRuns sid = true →
      s.storeBad (clusterOf sid * 16777216 + gredSrc ws) (gredBytes ws) = false →
      s.gangOf sid (bits d 31 28) (bits d 27 24) = o :: os → ∃ t, exec (.gredStart sid) s = .next t ∧
      (t.coreAt sid).vu.started = some (gredRead s.spad (clusterOf sid * 16777216 + gredSrc ws) (gredBytes ws)) ∧
      (t.coreAt sid).vu.queue = c.vu.queue ∧ t.spad = s.spad ∧ t.wire = s.wire ∧
      t.forms = joined s sid .gred o (bits d 31 28) (bits d 27 24)
        [0, bits d 63 48, gredOpc ws, bits d 23 20, bits d 31 28, bits d 27 24, bits d 19 19]) ∧
    (reduces → ready → gredResult ws data = some (v, fl) →
      ∃ t, exec (.gredCompletion sid) s = .next t ∧ gredEnded s t f 0 fl ∧ (s.spad.wf = true →
        (∀ a, (∀ p ∈ spots, a < p.1 ∨ p.1 + p.2 ≤ a) → t.spad.read a = s.spad.read a) ∧
        (spots.Pairwise apart → ∀ p ∈ spots, t.spad.readLE p.1 p.2 = v % 256 ^ p.2))) ∧
    (reduces → ready → gredResult ws data = none →
      ∃ t, exec (.gredCompletion sid) s = .next t ∧ gredEnded s t f 0x07 0 ∧ t.spad = s.spad) ∧
    (reduces → f.broken = true → s.engRuns sid = true →
      ∃ t, exec (.gredCompletion sid) s = .next t ∧ gredEnded s t f 0x21 0 ∧ t.spad = s.spad) ∧
    (reduces → s.formLate f = true → s.formFull f = false → f.broken = false →
      ∃ t, exec (.gredTimeout sid) s = .next t ∧ gredEnded s t f 0x21 0 ∧ t.spad = s.spad) ∧
    (bits (dw ws 0) 23 20 = 1 →
      (gredOpc ws = 0 → gredResult ws [[x], [y]] = some ((x + y).toNat, 0)) ∧
      (gredOpc ws = 1 → gredResult ws [[x], [y]] = some ((if y.slt x then y else x).toNat, 0)) ∧
      (gredOpc ws = 4 → gredResult ws [[x], [y]] = some ((if x.ult y then y else x).toNat, 0)))

/-- R156, R157: a full row exchange gives every member the largest of the members' maxima and its scales; one in which two members
disagree, or whose time runs out before it is full, ends with status 0x21 at every member that has joined. -/
def Sys2Proof.Claims.exchangeWork : Prop :=
  ∀ (s : State) (sid : Nat) (f : Form) (lid : BitVec 16) (rest : List VuCmd) (tag : BitVec 16) (gwl : BitVec 4)
    (prec : BitVec 2) (m : Word) (ch : BitVec 6),
    let exchanges := s.formOf .vmaxx sid = some f ∧ (s.coreAt sid).vu.queue = .vmaxx tag gwl prec m ch lid :: rest
    let brings := fun (d : Nat) => match (s.coreAt d).vu.queue.head? with
      | some (.vmaxx _ _ q z _ _) => some (q, z.toNat)
      | _ => none
    (exchanges → s.formFull f = true → s.engRuns sid = true → f.broken = false →
      ∃ t best, exec (.vmaxxCompletion sid) s = .next t ∧ vmaxxEnded s t f (some best) ∧
        ∀ q z l, f.members.filterMap brings = (q, z) :: l →
          best = l.foldl (fun a y => (fMinMax (fmtOf q) true false a y.2).1) z) ∧
    (exchanges → s.engRuns sid = true → f.broken = true →
      ∃ t, exec (.vmaxxCompletion sid) s = .next t ∧ vmaxxEnded s t f none) ∧
    (exchanges → s.formLate f = true → s.formFull f = false → f.broken = false → ∃ t, exec (.vmaxxTimeout sid) s = .next t ∧ vmaxxEnded s t f none)

/-- R316, R317: a full barrier whose tags agree ends with status 0, one in which two disagree, or whose time runs out first, with 0x21, at every
member that has joined: its entry leaves its queue and its message goes out. -/
def Sys2Proof.Claims.barrierWork : Prop :=
  ∀ (s : State) (sid : Nat) (f : Form),
    let ends := fun (t : State) (status : Nat) => ∀ d ∈ f.members, ∀ tag gwl ghl ch lid rest,
      (s.coreAt d).bars = ⟨tag, gwl, ghl, ch, lid⟩ :: rest →
      (f.members.Nodup → (t.coreAt d).bars = rest) ∧ toldOf t f d ch [BitVec.ofNat 64 (tag.toNat * 2 ^ 48 + status * 2 ^ 40)]
    (s.formOf .bar sid = some f → s.engRuns sid = true →
      (f.broken = false → s.formFull f = true → ∃ t, exec (.barrierCompletion sid) s = .next t ∧ ends t 0) ∧
      (f.broken = true → ∃ t, exec (.barrierCompletion sid) s = .next t ∧ ends t 0x21)) ∧
    (s.formOf .bar sid = some f → s.formLate f = true → s.formFull f = false → f.broken = false → ∃ t, exec (.barrierTimeout sid) s = .next t ∧ ends t 0x21)

/-- A stream buffer after the engine has filled or drained a slot (R224). -/
def Sys2Proof.Claims.slotMoved (f : SBuf) : SBuf :=
  { f with
    tail := (f.tail + 1) % max 1 f.slots
    filled := if f.dir then f.filled - 1 else f.filled + 1
    free := if f.dir then f.free + 1 else f.free - 1 }

/-- A stream command ended: the engine is free and, unless NOMSG, its message carries tag, status and slots (R226). -/
def Sys2Proof.Claims.sgoEnded (t u : State) (sid : Nat) (g : SgoCmd) (status done : Nat) : Prop :=
  let d := dw g.record 0
  (t.coreAt sid).se.cur = none ∧ (d.getLsbD 41 = true → t.wire = u.wire) ∧
  (d.getLsbD 41 = false → ∃ y, t.wire = u.wire ++ [y] ∧ y.kind = .note ∧ y.dst = sid ∧
    y.payload = [BitVec.ofNat 64 (bits d 63 48 * 2 ^ 48 + status * 2 ^ 40 + done % 2 ^ 32)])

/-- A slot of a stream command has been moved whole (R224): buffer, pend, progress or end. -/
def Sys2Proof.Claims.slotEnd (t u : State) (sid n : Nat) (f : SBuf) (g : SgoCmd) (last : Prop) : Prop :=
  (n < 8 → (t.coreAt sid).se.bufs.toList.getD n SBuf.zero = slotMoved f) ∧
  (f.en = true → (if f.dir then f.free = 0 else f.filled = 0) → ((t.coreAt sid).chan f.ch).bare = true) ∧
  (¬ last → (t.coreAt sid).se.cur = some { g with done := g.done + 1 } ∧ t.wire = u.wire) ∧
  (last → sgoEnded t u sid g 0 (g.done + 1))

/-- A stream buffer as a descriptor makes it (R222). -/
def Sys2Proof.Claims.bufferOf (y : SBuf) (d : Word) (lid : BitVec 16) : Prop :=
  (d.getLsbD 56 = false → y = SBuf.zero) ∧
  (d.getLsbD 56 = true → y.cfg = true ∧ y.dir = d.getLsbD 55 ∧ y.en = d.getLsbD 54 ∧ y.ch = d.extractLsb' 48 6 ∧
    y.slots = bits d 47 40 + 1 ∧ y.free = y.slots ∧ y.filled = 0 ∧ y.slotBytes = 64 * (bits d 39 32 + 1) ∧
    y.base = bits d 23 0 ∧ y.head = 0 ∧ y.tail = 0 ∧ y.lid = lid)

/-- R221 to R226: an SBUF takes its buffer, pending the channel of one that the core fills; an SGO starts; a slot is filled with
the elements of the walk, lowest first, or drained to them, its counts and the command's progress move on, the channel is pended
where the core had none to take, and the last slot ends the command with status 0. A translation fault suspends it before the
slot; another error ends it with its status, poison in a slot that it drains with 0x11. -/
def Sys2Proof.Claims.streamWork : Prop :=
  ∀ (s s1 : State) (sid v n at' cnt : Nat) (f : SBuf) (b : BitVec 3) (d : Word) (lid : BitVec 16) (g : SgoCmd)
    (rest : List SeCmd) (st : BitVec 8) (x : XFault) (need : Need) (va : Nat),
    let c := s.coreAt sid
    let idle := s.engRuns sid = true ∧ c.se.cur = none
    let per := f.slotBytes / shapeEsz g.shape
    let key := clusterOf sid * 16777216 + (f.base + f.slotBytes * f.tail)
    let last := shapeCount g.shape ≤ at' + per
    let slot := c.se.cur = some g ∧ s.engRuns sid = true ∧ c.se.susp = false ∧ n = bits (dw g.record 0) 34 32 ∧
      f = c.se.bufs.toList.getD n SBuf.zero ∧ f.cfg = true ∧ (if f.dir then 0 < f.filled else 0 < f.free) ∧
      at' = g.done * per ∧ at' < shapeCount g.shape ∧ cnt = min per (shapeCount g.shape - at')
    let bad := s.storeBad key (cnt * shapeEsz g.shape)
    let written := s.streamWrite sid g.shape at' (s.spad.readLE key (cnt * shapeEsz g.shape)) cnt
    let stops := fun (e : EStop) => f.dir = false ∧ s.streamRead sid g.shape at' cnt = (s1, .error e) ∨
      f.dir = true ∧ bad = false ∧ written = (s1, .error e)
    (idle → c.se.queue = .sbuf b d lid :: rest → ∃ t, exec (.sbufPerform sid) s = .next t ∧ t.spad = s.spad ∧ t.mem = s.mem ∧
      (t.coreAt sid).se.queue = rest ∧ (t.coreAt sid).se.cur = none ∧
      (∀ k, k < 8 → k ≠ b.toNat → (t.coreAt sid).se.bufs.toList[k]? = c.se.bufs.toList[k]?) ∧
      bufferOf ((t.coreAt sid).se.bufs.toList.getD b.toNat SBuf.zero) d lid ∧
      (d.getLsbD 56 = true → d.getLsbD 55 = true → d.getLsbD 54 = true → ((t.coreAt sid).chan (d.extractLsb' 48 6)).bare = true)) ∧
    (idle → c.se.queue = .sgo g :: rest → exec (.sgoStart sid) s = .next (s.setCore sid { c with
      se := { c.se with queue := rest, cur := some g, susp := false }, setlb := [] })) ∧
    (slot → f.dir = false → s.streamRead sid g.shape at' cnt = (s1, .ok v) →
      ∃ t, exec (.streamSlot sid) s = .next t ∧ slotEnd t s1 sid n f g last ∧ t.mem = s1.mem ∧
        t.spad = s1.spad.writeLE key f.slotBytes v) ∧
    (slot → f.dir = true → bad = true → ∃ t, exec (.streamSlot sid) s = .next t ∧ sgoEnded t s sid g 0x11 g.done ∧
      t.spad = s.spad ∧ t.mem = s.mem) ∧
    (slot → f.dir = true → bad = false → written = (s1, .ok ()) →
      ∃ t, exec (.streamSlot sid) s = .next t ∧ slotEnd t s1 sid n f g last ∧ t.mem = s1.mem ∧ t.spad = s1.spad) ∧
    (slot → stops (.ended st) → ∃ t, exec (.streamSlot sid) s = .next t ∧ sgoEnded t s1 sid g st.toNat g.done ∧
      t.spad = s1.spad ∧ t.mem = s1.mem) ∧
    (slot → stops (.pause x need va) →
      ∃ t y, exec (.streamSlot sid) s = .next t ∧ (t.coreAt sid).se.susp = true ∧ (t.coreAt sid).se.cur = (s1.coreAt sid).se.cur ∧
        t.wire = s1.wire ++ [y] ∧ y.dst = svcOf (tileOf sid) ∧ y.ch = 59 ∧ (y.payload.getD 0 0).extractLsb' 56 8 = x.cause ∧
        (y.payload.getD 0 0).extractLsb' 48 8 = x.detail ∧ (y.payload.getD 0 0).extractLsb' 32 16 = g.words.extractLsb' 0 16 ∧ y.payload.getD 6 0 = g.words.setWidth 64 ∧
        (y.payload.getD 1 0).extractLsb' 0 48 = BitVec.ofNat 48 va)

/-- The bulk commands with one replaced. -/
def Sys2Proof.Claims.bulksPut (t : State) (y : Bulk) : List Bulk :=
  t.bulks.map fun z => if z.dk = y.dk ∧ z.part = y.part ∧ z.seq = y.seq then y else z

/-- A bulk copy's completion message, unless NOMSG: tag, status, bytes written; the ticket (R231). -/
def Sys2Proof.Claims.bulkTold (t : State) (b : Bulk) (status : Nat) : Prop :=
  let d := dw b.dws 0
  d.getLsbD 41 = false → ∃ y ∈ t.wire, y.kind = .note ∧ y.dst = b.sid ∧ y.src = 8704 + b.dk ∧
    y.payload = [BitVec.ofNat 64 (bits d 63 48 * 2 ^ 48 + status * 2 ^ 40 + b.written % 2 ^ 40),
      BitVec.ofNat 64 (b.dk * 2 ^ 48 + b.part * 2 ^ 41 + b.seq % 2 ^ 32)]

/-- A piece is done: `one` is the command with it counted; the last one ends the command, one that met an error ends it with the
error's status. -/
def Sys2Proof.Claims.pieceEnd (t u : State) (one : Bulk) (bad : Option (BitVec 8)) : Prop :=
  let all := cpLen one.dws * cpRows one.dws
  t.mem = u.mem ∧ t.spad = u.spad ∧
  (bad = none → one.written ≠ all → t.bulks = bulksPut u one ∧ t.wire = u.wire) ∧
  (bad = none → one.written = all → t.bulks = bulksPut u { one with status := some 0 } ∧ bulkTold t one 0) ∧
  ∀ st, bad = some st → t.bulks = bulksPut u { one with status := some st } ∧ bulkTold t one st.toNat

/-- R230, R231: an engine of a dike die takes the oldest command that waits and whose partition runs; a piece of a command that
has it is translated, source before destination, and copied once no host keeps it waiting; a translation fault pauses the command
before the piece; the last piece ends the command with status 0, a part that meets poison with the status of its error, and the
completion carries the bytes written and the ticket. A zero-filling piece writes zeros to its bytes of memory and to no other. A command
whose completion is a release follows every write of its partition's commands; the writes to memory of any other are performed
when its piece is named again, in their order, its completion sent or not (R180: the model's choice, log 79). -/
def Sys2Proof.Claims.bulkWork : Prop :=
  ∀ (s s1 s2 u : State) (dk part ticket piece got : Nat) (pre post : List Bulk) (b : Bulk) (src dst : ESpot) (bad : Option (BitVec 8))
    (x : XFault) (need : Need) (va pa : Nat) (leaf : Word) (l : List LatePart) (z : LatePart),
    let live := fun (y : Bulk) => y.away = false ∧ (s.part y.part).stopped = false
    let waits := fun (y : Bulk) => y.dk = dk ∧ y.taken = false ∧ y.status = none ∧ live y
    let has := s.bulks.filter fun y => decide (y.dk = dk) && y.taken && y.status.isNone && s.bulkLive y
    let row := piece / 2 ^ 32
    let off := piece % 2 ^ 32
    let len := pieceLen b.dws row off
    let sva := cpSrc b.dws + row * cpSp b.dws + off
    let dva := cpDst b.dws + row * cpDp b.dws + off
    let turn := s.bulkAt dk part ticket = some b ∧ b ∈ has.take 4 ∧ b.paused = false ∧
      pieceStart b.dws row off = true ∧ piece ∉ b.pieces ∧ ∀ y ∈ b.late, y.piece ≠ piece
    let acq := (dw b.dws 0).getLsbD 40
    let rel := (dw b.dws 0).getLsbD 39
    let one : Bulk := { b with pieces := b.pieces ++ [piece], written := b.written + got, late := b.late ++ l }
    let late := if rel then none else some piece
    (has.length < 4 → s.bulks = pre ++ b :: post → waits b → (∀ y ∈ pre, ¬ waits y) →
      (rel = true → ∀ y ∈ s.bulks, y.part = b.part → y.late = []) →
      exec (.bulkCopyTake dk) s = .next { s with bulks := pre ++ { b with taken := true } :: post }) ∧
    (turn → cpZf b.dws = false → s.engSpot (.bulk b.dk) b.sid .read sva len = (s1, .ok src) →
      s1.engSpot (.bulk b.dk) b.sid .write dva len = (s2, .ok dst) →
      s2.hostBlock (s2.pieceStops (some src) dst len) = none →
      s2.copyParts (some src) dst acq late (len / 16) = (u, l, got, bad) → (rel = true → l = []) ∧
      ∃ t, exec (.bulkCopyPiece dk part ticket piece) s = .next t ∧ pieceEnd t u one bad) ∧
    (turn → cpZf b.dws = true → s.engSpot (.bulk b.dk) b.sid .write dva len = (s2, .ok dst) →
      s2.hostBlock (s2.pieceStops none dst len) = none → s2.copyParts none dst acq late (len / 16) = (u, l, got, bad) →
      ∃ t, exec (.bulkCopyPiece dk part ticket piece) s = .next t ∧ pieceEnd t u one bad ∧ bad = none ∧ got = len / 16 * 16 ∧
        (dst = .phys pa leaf → s2.mem.wf = true →
          (rel = true → ∀ a, t.mem.read a = if pa ≤ a ∧ a < pa + len / 16 * 16 then 0 else s2.mem.read a) ∧
          (rel = false → t.mem = s2.mem ∧ l = (List.range (len / 16)).map fun i => ⟨piece, pa + 16 * i, 0⟩))) ∧
    (s.bulkAt dk part ticket = some b → (b.late.filter fun y => decide (y.piece = piece)) = [z] → s.mem.wf = true →
      s.hostBlock (s.writeStops (z.addr / 128)) = none → ∃ t, exec (.bulkCopyPiece dk part ticket piece) s = .next t ∧
        t.bulks = bulksPut s { b with late := b.late.filter fun y => decide (y.piece ≠ piece) } ∧ t.wire = s.wire ∧
        t.mem.readLE z.addr 16 = z.value.toNat ∧ ∀ a, a < z.addr ∨ z.addr + 16 ≤ a → t.mem.read a = s.mem.read a) ∧
    (turn → cpZf b.dws = false → s.engSpot (.bulk b.dk) b.sid .read sva len = (s1, .error (.pause x need va)) →
      ∃ t y, exec (.bulkCopyPiece dk part ticket piece) s = .next t ∧ t.bulks = bulksPut s1 { b with paused := true } ∧
        t.mem = s1.mem ∧ t.wire = s1.wire ++ [y] ∧ y.dst = svcOf (tileOf b.sid) ∧ y.ch = 59 ∧
        (y.payload.getD 0 0).extractLsb' 32 16 = b.words.extractLsb' 0 16 ∧ y.payload.getD 6 0 = b.words.setWidth 64 ∧ y.payload.getD 3 0 = BitVec.ofNat 64 (b.dk * 2 ^ 48 + b.part * 2 ^ 41 + b.seq % 2 ^ 32))

/-- The events of gangs, stream engines and bulk copies (R152 to R157, R221 to R226, R230, R231, R316, R317).
Model's choices: log 46, 49. -/
def Obligations.EngineWork : Prop := reductionWork ∧ exchangeWork ∧ barrierWork ∧ streamWork ∧ bulkWork

/-! ### Coherence events -/

/-- No cache holds a copy of the line. -/
def Sys2Proof.Claims.noCopy (t : State) (line : Nat) : Prop := ∀ d, t.l1At d line = none

/-- A cache holds the line alone. -/
def Sys2Proof.Claims.holdsAlone (t : State) (cl line : Nat) (st : Moesi) : Prop :=
  t.l1At cl line = some st ∧ ∀ d, d ≠ cl → t.l1At d line = none

/-- A record that names an owner alone. -/
def Sys2Proof.Claims.ownedBy (r : DirRec) (cl : Nat) : Prop := r.st = .dx ∧ r.owner = dirName cl ∧ r.exact = [] ∧ r.coarse = none

/-- The home's bytes of the line are the coherent ones. -/
def Sys2Proof.Claims.cleanHome (t : State) (line : Nat) : Prop :=
  ∀ a, line * 128 ≤ a → a < line * 128 + 128 → t.home.read a = t.mem.read a

/-- Bytes written from an address on, and no other byte of memory. -/
def Sys2Proof.Claims.wrote (s t : State) (pa : Nat) (data : List Byte) : Prop :=
  s.mem.wf = true → ∀ a, t.mem.read a = if pa ≤ a ∧ a < pa + data.length then data.getD (a - pa) 0 else s.mem.read a

/-- A Back-Invalidate sent to the ports that cache a line, all but one that asks itself (R253); nothing else changes. -/
def Sys2Proof.Claims.asks (s t : State) (skip : Option Nat) (line : Nat) (inv : Bool) (who : Asker) : Prop :=
  ∃ x, t = { s with snoops := s.snoops ++ [x] } ∧ x.line = line ∧ x.inv = inv ∧ x.asker = who ∧ x.asked = x.ports ∧
    ∀ p, p ∈ x.ports ↔ p < 2 ∧ some p ≠ skip ∧ (s.dirRec line).hostBit p = true

/-- R233 to R238, R240, R241, R245, R253, R256: what a cache's requests, evictions and probes leave in the caches and at the home,
once no host keeps them waiting. A reader's copy is exclusive where the record named no copy, else shared, and an owner keeps its
dirty data as O; an owner's copy is the only one, dirty where dirty data passed to it; a cache takes no copy where the line has
no tag, where it would be a poisoned one (R248), where the cache is full (log 34), or where it is of another partition than the line's
tile. A tile moves as one. A home's recall leaves no copy, and asks
hosts that cache the line before it. A power-gated cluster is named nowhere. No such event changes a byte of memory. -/
def Sys2Proof.Claims.clusterEvents : Prop :=
  ∀ (s s1 : State) (cl line part n : Nat) (elig : Bool) (tile : Tile),
    let mine := s.l1At cl line
    let able := s.canCache cl = true
    let free := fun (l : List (Nat × Bool)) => s.hostBlock l = none
    let tagged := (s.tagOf line).isSome = true ∧ s.foreign cl line = false ∧ s.sourAt (some cl) line = false ∧
      (mine ≠ none ∨ (s.cacheLines cl).length + (s.unitOf line).length ≤ s.cacheRoom cl)
    let fills := free (s.fillStops cl line)
    let untiled := s.tileAt line = none
    let r := s.dirRec line
    let elsewhere := ∃ d, d ≠ cl ∧ (s.l1At d line = some .m ∨ s.l1At d line = some .o)
    let lowered := fun (t : State) => ∀ d, d ≠ cl → (s.l1At d line = some .m → t.l1At d line = some .o) ∧
      (s.l1At d line = some .e → t.l1At d line = some .s)
    let dirty := mine = some .m ∨ mine = some .o
    let kept := fun (t : State) => ∀ d, d ≠ cl → t.l1At d line = s.l1At d line ∨ (t.l1At d line = none ∧ t.tagOf line = none)
    (able → mine = none → free [(line, false)] → fills → ∃ t, exec (.readShared cl line) s = .next t ∧ t.mem = s.mem ∧
      (tagged → lowered t) ∧ (s.foreign cl line = true → t.l1At cl line = none) ∧
      (tagged → untiled → r.st = .di → s.hostHas line = false → s.mates cl line = [] → t.l1At cl line = some .e) ∧
      (tagged → untiled → (s.hostHas line = true ∨ r.st = .ds ∨ r.st = .dd ∨ (r.st = .dx ∧ r.owner ≠ dirName cl)) →
        t.l1At cl line = some .s)) ∧
    (able → mine = none → free (s.writeStops line) → fills → ∃ t, exec (.readForOwnership cl line) s = .next t ∧ t.mem = s.mem ∧
      (s.foreign cl line = true → noCopy t line) ∧
      (tagged → (elsewhere → holdsAlone t cl line .m) ∧ (¬ elsewhere → holdsAlone t cl line .e) ∧
        (untiled → ownedBy (t.dirRec line) cl))) ∧
    (able → mine = some .s ∨ mine = some .o → free (s.writeStops line) → ∃ t, exec (.upgrade cl line) s = .next t ∧
      t.mem = s.mem ∧ (tagged → (elsewhere ∨ mine = some .o → holdsAlone t cl line .m) ∧
        (¬ elsewhere → mine = some .s → holdsAlone t cl line .e) ∧ (untiled → ownedBy (t.dirRec line) cl))) ∧
    (dirty → free [(line, true)] → ∃ t, exec (.writeBack cl line) s = .next t ∧ t.mem = s.mem ∧ t.l1At cl line = none ∧
      (s.home.wf = true → cleanHome t line) ∧ kept t) ∧
    (mine = some .e ∨ mine = some .s → s.snooped line = false → ∃ t, exec (.cleanEvictionNotice cl line) s = .next t ∧
      t.mem = s.mem ∧ t.home = s.home ∧ t.l1At cl line = none ∧ ∀ d, d ≠ cl → t.l1At d line = s.l1At d line) ∧
    (mine = none → exec (.probeAnswer cl line elig) s = .next s) ∧
    (mine ≠ none → (dirty → free [(line, true)]) → ∃ t, exec (.probeAnswer cl line true) s = .next t ∧ t.mem = s.mem ∧
      t.l1At cl line = none ∧ kept t) ∧
    (∃ t, exec (.probeAnswer cl line false) s = .next t ∧ t.mem = s.mem ∧
      (mine = some .m → t.l1At cl line = some .o) ∧ (mine = some .e → t.l1At cl line = some .s) ∧
      (mine = some .o ∨ mine = some .s → t.l1At cl line = mine)) ∧
    (s.tileAt line = some tile → able → cl < 1024 → s.partOfTile (tileOfCluster cl) = some tile.part → fills →
      (free (s.writeStops line) → ∃ t, exec (.tileGranuleRequest cl line true) s = .next t ∧ t.mem = s.mem ∧
        (tagged → (∀ l ∈ tile.lines, ∀ d, d ≠ cl → t.l1At d l = none) ∧ ∃ y, t.tileAt line = some y ∧ ownedBy y.dir cl)) ∧
      (free [(line, false)] → ∃ t, exec (.tileGranuleRequest cl line false) s = .next t ∧ t.mem = s.mem ∧
        (tagged → t.l1At cl line ≠ none ∧ lowered t))) ∧
    (s.tileAt line = some tile → free (s.unitStops line) → ∃ t, exec (.lineGranuleWrite line) s = .next t ∧ t.mem = s.mem ∧
      (∀ l ∈ tile.lines, noCopy t l) ∧ ∃ y, t.tileAt line = some y ∧ y.dir.st = .di) ∧
    (free (s.writeStops line) → ∃ t, exec (.homeAtomic line) s = .next t ∧ t.mem = s.mem ∧ noCopy t line) ∧
    (s.hostHas line = true → s.snooped line = false →
      ∃ t, exec (.homeAtomic line) s = .next t ∧ asks s t none line true .other) ∧
    exec (.remoteWindowAccess n) s = .next s ∧
    (free (s.roomStops part line) → ∃ t, exec (.l2Fill line part elig) s = .next t ∧ t.mem = s.mem ∧
      ((s.tagOf line).isSome = true → t.home = s.home ∧ t.clusters = s.clusters ∧ t.dir = s.dir ∧ t.tagOf line = s.tagOf line) ∧
      (s.tagOf line = none → s.makeRoom (homeOfLine line) part line = some s1 → s1.homeLine line = 0 →
        ∃ z, t.tagOf line = some z ∧ z.ent = none ∧ z.part = part ∧ z.dirty = false)) ∧
    ((s.cluster cl).owner = none → free ((interfaceCaches cl).flatMap s.cacheStops) →
      ∃ t, exec (.powerGate cl) s = .next t ∧ t.mem = s.mem ∧ (t.cluster cl).gated = true ∧
        (∀ k ∈ interfaceCaches cl, ∀ l, t.l1At k l = none) ∧ (∀ l, cl < 1024 → s.home.wf = true →
          (s.l1At cl l = some .m ∨ s.l1At cl l = some .o) → cleanHome t l) ∧
        (∀ l, ¬ (((t.dirRec l).st = .dx ∨ (t.dirRec l).st = .dd) ∧ (t.dirRec l).owner = cl)) ∧
        ∀ y ∈ t.tiles, ¬ ((y.dir.st = .dx ∨ y.dir.st = .dd) ∧ y.dir.owner = cl))

/-- R187, R202, R212, R252 to R257: hosts, expanders and peers at the homes. A caching host read sets its port's bit in the line's
record, an exclusive one leaves no other copy and asks the other port first; a host's or a peer's write puts its bytes into memory
and into no other byte; while the way to the line's home is in reset the sluice die holds a request, and answers one whose completion
timeout passes with Completer Abort (R421). A BIRsp takes its port from the Back-Invalidate, and the last one closes it and clears the
bits of the hosts asked; the line operations that waited for it go on (R220); a crossing read is answered first. SnpInv and BISnp leave no copy of the line on this package, SnpData leaves only S. A host that does not
answer fails what waits, and memory and the line's record are as they were: a published store and a line operation are dropped and
reported, an engine's command ends with status 0x19, and an access faults with HTIME. -/
def Sys2Proof.Claims.hostEvents : Prop :=
  ∀ (s : State) (port line pa sid dk part seq : Nat) (data : List Byte) (x : Snoop) (excl : Bool) (va : Word) (r : MxRun)
    (g : SgoCmd) (b : Bulk) (op : LineOp),
    let calm := s.snooped line = false
    let way := hbmLine line = true ∧ s.hostPath line = true
    let shut := hbmLine line = true ∧ s.hostPath line = false
    let h := s.sluice
    let kept := ({ s with sluice := { h with hostHeld := h.hostHeld ++ [(port, line)] } } : State)
    let aborted := ({ s with sluice := { h with
      hostHeld := h.hostHeld.erase (port, line), hostAborts := h.hostAborts ++ [(port, line)] } } : State)
    let holds := fun (i : Instr) => ((port, line) ∉ h.hostHeld → exec i s = .next kept) ∧
      ((port, line) ∈ h.hostHeld → exec i s = .next aborted)
    let free := fun (l : List (Nat × Bool)) => s.hostBlock l = none
    let up := port < 2 ∧ s.stage = .b3 ∧ s.sluice.up.toList.getD port false = true
    let cxl := up ∧ s.ports.toList.getD port 0 = 2
    let bit := fun (t : State) (p : Nat) => (t.dirRec line).hostBit p = true
    let held := fun (t : State) => (t.tagOf line).isSome = true
    let readOnly := fun (t : State) => ∀ d, t.l1At d line ≠ some .m ∧ t.l1At d line ≠ some .e
    let y : Snoop := { x with ports := x.ports.filter (· ≠ port) }
    let swap := s.snoops.map fun z => if z = x then y else z
    let timedOut := s.snoops.find? (fun y => decide (y.line = line)) = some x
    let closed : State := { s with snoops := s.snoops.filter (· ≠ x) }
    let same := fun (t : State) => t.mem = s.mem ∧ t.dir = s.dir ∧ t.snoops = closed.snoops
    let hit := fun (o : LineOp) => ∃ z ∈ closed.opStops o ++ s.opStops o, z.1 = line
    let quiet := ∀ o ∈ s.lineOps, ¬ hit o
    (s.lineOps = [op] → s.hostBlock (s.opStops op) = none → s.retryOps = ({ s with lineOps := [] } : State).doOp op) ∧
    (cxl → shut → calm → holds (.cxlMemRead port line excl)) ∧
    (cxl → line = lineOf pa → shut → pa % 64 + data.length ≤ 64 → holds (.cxlMemWrite port pa data)) ∧
    (up → line = lineOf pa → shut → pa % 128 + data.length ≤ 128 →
      ((port, line) ∉ h.hostHeld → exec (.hostPostedWrite port pa data) s = .next kept) ∧
      ((port, line) ∈ h.hostHeld → exec (.hostPostedWrite port pa data) s = .next s)) ∧
    (cxl → way → calm →
      (s.otherMust port line excl = true → ∃ t, exec (.cxlMemRead port line excl) s = .next t ∧
        asks s t (some port) line excl .other) ∧
      (s.otherMust port line true = false → free (s.otherStops line) → free (s.hostFillStops line) →
        ∃ t, exec (.cxlMemRead port line true) s = .next t ∧
        t.mem = s.mem ∧ noCopy t line ∧ ¬ bit t (1 - port) ∧ (held t → bit t port ∧ (t.dirRec line).hx = true)) ∧
      (s.otherMust port line false = false → free (s.hostFillStops line) → ∃ t, exec (.cxlMemRead port line false) s = .next t ∧
        t.mem = s.mem ∧ readOnly t ∧
        (held t → bit t port ∧ (t.dirRec line).hx = false))) ∧
    (cxl → line = lineOf pa → way → pa % 64 + data.length ≤ 64 →
      (calm → s.otherMust port line true = true → ∃ t, exec (.cxlMemWrite port pa data) s = .next t ∧
        asks s t (some port) line true .other) ∧
      (free (s.otherStops line) → (calm ∧ s.otherMust port line true = false ∨ (s.snoopOf port line).isSome = true) →
        ∃ t, exec (.cxlMemWrite port pa data) s = .next t ∧ wrote s t pa data ∧ (data ≠ [] → noCopy t line))) ∧
    (s.snoopOf port line = some x → ∃ t, exec (.birsp port line) s = .next t ∧
      (y.ports ≠ [] → t = { s with snoops := swap }) ∧
      (y.ports = [] → t.mem = s.mem ∧ ∃ u, t = u.retryOps ∧ u.mem = s.mem ∧ u.snoops = closed.snoops ∧ u.lineOps = s.lineOps ∧
        (u.dirRec line).hx = false ∧
        ((∀ q ∈ x.asked, q < 2) → ∀ p < 2, bit u p ↔ bit s p ∧ ¬ (x.inv = true ∧ p ∈ x.asked)))) ∧
    (s.snoopOf port line = some x → (s.tagOf line).isSome = true →
      (∃ t u, exec (.biconflict port line false) s = .next t ∧ u.mem = s.mem ∧ readOnly u ∧ (port < 2 → bit u port) ∧
        (x.inv = true → u.snoops = s.snoops ∧ t = u) ∧ (x.inv = false → y.ports ≠ [] → u.snoops = swap ∧ t = u) ∧
        (x.inv = false → y.ports = [] → u.snoops = closed.snoops ∧ t = u.retryOps)) ∧
      (port < 2 → ¬ bit s (1 - port) → free (s.otherStops line) → ∃ t, exec (.biconflict port line true) s = .next t ∧
        t.mem = s.mem ∧ noCopy t line ∧ t.snoops = s.snoops ∧ (held t → bit t port ∧ (t.dirRec line).hx = true))) ∧
    (cxl → hostLine port line = true →
      (∃ t, exec (.snpinv port line) s = .next t ∧ t.mem = s.mem ∧ noCopy t line ∧ t.tagOf line = none ∧
        (s.home.wf = true → s.lineDirty line = true → cleanHome t line)) ∧
      (∃ t, exec (.snpdata port line) s = .next t ∧ t.mem = s.mem ∧ (∀ d, t.l1At d line = none ∨ t.l1At d line = some .s) ∧
        (s.home.wf = true → s.lineDirty line = true → cleanHome t line)) ∧
      exec (.snpcur port line) s = .next s) ∧
    (timedOut → x.asker = .other → (quiet → exec (.hostTimeout sid line) s = .next closed) ∧
      (s.lineOps = [op] → (∃ z ∈ closed.opStops op, z.1 = line) → ∃ t m, exec (.hostTimeout sid line) s = .next t ∧ same t ∧ t.lineOps = [] ∧
        t.wire = s.wire ++ [m] ∧ m.kind = .fault ∧ m.src = op.sid ∧ m.dst = svcOf (tileOf op.sid) ∧ m.ch = 59 ∧
        (m.payload.getD 0 0).extractLsb' 48 16 = 0x1980 ∧ m.payload.getD 1 0 = BitVec.ofNat 64 (op.line * 128))) ∧
    (timedOut → quiet → x.asker = .core dk → x.inv = true → (closed.focusOn dk).waiters line ≠ [] →
      ∃ t, exec (.hostTimeout sid line) s = .next t ∧ same t ∧ t.wire = s.wire ∧ (t.coreAt dk).act = (s.coreAt dk).act ∧
        (t.coreAt dk).doomed = (s.coreAt dk).doomed ++ ((closed.focusOn dk).waiters line).map fun l => (l, 0x19)) ∧
    (timedOut → quiet → x.asker = .core dk → (x.inv = false ∨ (closed.focusOn dk).waiters line = []) → (s.coreAt dk).act ≠ none →
      ∃ t, exec (.hostTimeout sid line) s = .next t ∧ (t.coreAt dk).act = none ∧
        (t.coreAt dk).ctl.fcode.extractLsb' 16 16 = 0x1900) ∧
    (timedOut → quiet → x.asker = .matrix dk → s.mxRun dk = some r → r.ended = none → s.formOf .mx dk = none →
      ∃ t, exec (.hostTimeout sid line) s = .next t ∧ same t ∧
        t.mxRun dk = some { r with ended := some 0x19, susp := false, forming := false }) ∧
    (timedOut → quiet → x.asker = .stream dk → (s.coreAt dk).se.cur = some g →
      ∃ t, exec (.hostTimeout sid line) s = .next t ∧ same t ∧ sgoEnded t s dk g 0x19 g.done) ∧
    (timedOut → quiet → x.asker = .bulk dk part seq → s.bulkAt dk part seq = some b → b.status = none → b.away = false →
      (s.part b.part).stopped = false →
      ∃ t, exec (.hostTimeout sid line) s = .next t ∧ same t ∧ t.bulks = bulksPut s { b with status := some 0x19, paused := false } ∧
        bulkTold t b 0x19) ∧
    (s.snoops.find? (fun y => decide (y.line = line)) = none → sid < 8192 → (s.coreAt sid).act ≠ none →
      (s.focusOn sid).hostAccess line = some (va, excl) → (s.focusOn sid).commitBlock = none →
      ∃ t, exec (.hostTimeout sid line) s = .next t ∧ (t.coreAt sid).act = none ∧
        (t.coreAt sid).ctl.fcode.extractLsb' 16 16 = 0x1900) ∧
    (s.snoops.find? (fun y => decide (y.line = line)) = none → sid < 8192 → (s.focusOn sid).hostAccess line = none →
      (s.focusOn sid).asksHost line = true → ∃ t, exec (.hostTimeout sid line) s = .next t ∧ t.mem = s.mem ∧ t.wire = s.wire ∧
        (t.coreAt sid).doomed = (s.coreAt sid).doomed ++ [(line, 0x19)] ∧ (t.coreAt sid).act = (s.coreAt sid).act) ∧
    (s.snoops.find? (fun y => decide (y.line = line)) = none → sid < 8192 → inHost (line * 128) 128 = true →
      s.mxRun sid = some r → r.forming = false → r.susp = false → r.ended = none → s.formOf .mx sid = none →
      ∃ t, exec (.hostTimeout (8192 + sid) line) s = .next t ∧ t.mem = s.mem ∧
        t.mxRun sid = some { r with ended := some 0x19, susp := false, forming := false }) ∧
    (up → line = lineOf pa → free (s.writeStops line) → pa % 128 + data.length ≤ 128 →
      (way ∨ hbmLine line = false ∧ hostLine port line = true) →
      ∃ t, exec (.hostPostedWrite port pa data) s = .next t ∧ wrote s t pa data) ∧
    (s.stage = .b3 → line = lineOf pa → pa % 128 + data.length ≤ 128 →
      (way ∨ s.inPeer (line * 128) 128 = true → free (s.writeStops line) → ∃ t, exec (.peerAccess pa true data) s = .next t ∧ wrote s t pa data) ∧
      (way → free [(line, false)] → ∃ t, exec (.peerAccess pa false data) s = .next t ∧ t.mem = s.mem ∧ readOnly t)) ∧
    (s.inExpander (line * 128) 128 = true → ∃ t, exec (.expanderBisnp line) s = .next t ∧ t.mem = s.mem ∧ noCopy t line ∧
      t.tagOf line = none)

/-- The events of coherence (R233 to R241, R245, R252 to R257).
Model's choices: log 26, 38. -/
def Obligations.CoherenceEvents : Prop := clusterEvents ∧ hostEvents

/-! ### The network and the links -/

/-- A new packet of a traffic: the record that its admission makes (R322, R323, R328). -/
def Sys2Proof.Claims.fresh (s : State) (src dst : Nat) (what : Traffic) (cls : BitVec 3) (len part charge : Nat) (y : Pkt) : Prop :=
  y.id = s.net.next ∧ y.load = what ∧ y.net = trafficNet what ∧ y.part = part ∧ y.home = charge ∧ y.cls = cls ∧ y.src = src ∧
  y.dst = dst ∧ y.srcVal = (s.sourceValue what src).2 ∧ y.seq = s.net.next ∧ y.len = len ∧ y.entered = 0 ∧ y.admitted = s.now ∧
  y.resends = 0 ∧ y.got = false ∧ y.copy = part ∧ y.sent = s.runTime part ∧ y.apart = false

/-- A packet that goes on by a link: it waits at the table of a shortest way whose links are up (R11, R340, R343). -/
def Sys2Proof.Claims.waitsFor (s t : State) (d : Nat) (p : Pkt) : Prop :=
  ∃ k n, (n, k) ∈ s.net.ways d (epDie p.dst) ∧ (∀ w ∈ s.net.ways d (epDie p.dst), n ≤ w.1) ∧ (k, p.home, p.id) ∈ t.net.gates ∧
    t.net.pkt p.id = some { p with leg := .port }

/-- A packet at its receiver (R328, R334, R338): a duplicate is acknowledged again; a message may be delivered; a resend request has come
to its source; another packet of which a copy is kept is acknowledged; the rest are done with. A request for a line is answered by the
line's data or by the answer to its probe. -/
def Sys2Proof.Claims.taken (s t : State) (p : Pkt) : Prop :=
  let kept := t.net.pkt p.id = some { p with got := true, leg := .done }
  let lone := (∀ k, p.load ≠ .ack k) ∧ (∀ k, p.load ≠ .message k) ∧ ∀ k, p.load ≠ .resend k
  (∀ l, p.load = .data l ∨ p.load = .probe l → t.net.reqs = s.net.reqs.erase (l, p.home, p.dst)) ∧
  (p.apart = true → t.net.pkt p.id = none) ∧
  (p.apart = false → p.got = true → kept ∧ ∀ a ∈ t.acks, a.pkt = some p.id → a.via = none) ∧
  (p.apart = false → p.got = false →
    (∀ k, p.load = .resend k → t.net.pkt p.id = none ∧ ∀ a ∈ s.net.asks, a.pkt = k → a.via = some p.id → p.id ≠ k →
      ({ a with came := true } : Ask) ∈ t.net.asks) ∧
    (∀ k, p.load = .message k → kept ∧ ∀ w ∈ t.wire, w.trip.pkt = some p.id → w.trip.came = true) ∧
    (lone → p.retained = true → kept ∧ t.acks = s.acks ++ [⟨0, none, 0, 0, some p.id, none, 0, 0⟩]) ∧
    ((∃ k, p.load = .ack k) ∨ lone ∧ p.retained = false → t.net.pkt p.id = none))

/-- R322, R323, R326, R328, R331 to R333, R340: admission. A packet for a tile of its partition on the die is addressed to its endpoint,
any other to the gate of its source's tile, which has a place for it; it is admitted while the partition's flits in flight, its
starvation mark, the damper, a halt and the die allow it. A service block's packet for elsewhere and one of a dike die or the sluice
die wait for the link of a way. A packet at its destination's gate enters the mesh there under that partition's id, and one that a halt
withdrew where its source is. Operand panels go between members of a formed gang, A east on class 1 and B north on class 2 (R135),
collectives between members of one gang on class 3. -/
def Sys2Proof.Claims.admissions : Prop :=
  ∀ (s : State) (src dst len charge part id : Nat) (what : Traffic) (cls : BitVec 3) (p : Pkt),
    let n := s.net
    let does := fun (t : State) => exec (.packetAdmission src dst what cls len charge) s = .next t
    let ends := (epOk dst = true ∨ epFar dst = true) ∧ src ≠ dst ∧ n.pkt n.next = none
    let fits := s.trafficOk what src dst = true ∧ s.lenOk what len = true ∧ s.clsOk what dst cls = true ∧
      s.chargeOk what src dst charge = true
    let own := epOk src = true ∧ s.partOfTile (epTile src) = some part
    let near := epOk dst = true ∧ epDie dst = epDie src ∧ s.partOfTile (epTile dst) = some part
    let runs := (s.part part).stopped = false ∧ s.dieRuns (epDie src) = true
    let room := fun (part net len : Nat) => n.inFlight part net + len ≤ 2 * s.netW part * s.netH part + 1 ∧
      (∀ e ∈ n.starve, ¬ (e.1 = part ∧ e.2.1 = net)) ∧ (∀ q ∈ n.pkts, q.part = part → q.net = net → s.starves q = false) ∧ s.now % 16 < 16 - (s.cluster (epCluster src)).damp.toNat ∧ runs
    let place := n.gatePlaces src (trafficNet what) < 8
    let made := fun (t : State) (y : Pkt) => does t ∧ t.net.pkts = n.pkts ++ [y] ∧ t.net.flits = n.flits ∧ t.mem = s.mem ∧
      (∀ k w, what = .message k → s.wireAt k = some w → ∃ x, t.wireAt k = some x ∧ x.trip.pkt = some n.next) ∧
      (∀ k a, what = .ack k → s.acks[k]? = some a → t.acks[k]? = some { a with via := some n.next }) ∧
      (∀ k l, what = .read k l ∨ what = .write k l → t.net.reqs = n.reqs ++ [(l, charge, src)]) ∧
      ∀ k, what = .resend k → ∀ a ∈ n.asks, a.pkt = k → ({ a with via := some n.next } : Ask) ∈ t.net.asks
    let goes := epFar src = true ∨ own ∧ ¬ near ∧ gateOf src = src ∧ place ∧ runs
    (maxLen 0 = 3 ∧ maxLen 1 = 5 ∧ maxLen 2 = 2) ∧
    (∀ sid, (s.clsOk (.collective sid) dst cls = true ↔ cls = 3) ∧
      (s.clsOk (.panel sid) dst cls = true → ∃ f, s.formOf .mx sid = some f ∧ f.formed = true ∧ ∃ m ∈ f.members, epOf m = dst ∧
        (cls = 1 ∧ yOf m = yOf sid ∧ xOf sid < xOf m ∨ cls = 2 ∧ xOf m = xOf sid ∧ yOf sid < yOf m)) ∧
      (s.trafficOk (.collective sid) src dst = true → src = epOf sid ∧ ∃ k f m, s.formOf k sid = some f ∧ m ≠ sid ∧
        m ∈ s.gangOf f.origin f.gwl f.ghl ∧ epOf m = dst)) ∧
    (∀ sid line, (s.chargeOk (.read sid line) src dst charge = true ↔ s.partOf (sid % 8192) = charge) ∧
      (s.chargeOk (.probe line) src dst charge = true ↔ ∃ e, (line, charge, e) ∈ n.reqs)) ∧
    (s.lenOk what len = true → 0 < len ∧ len ≤ maxLen (trafficNet what) ∧ (∀ l, what = .data l → len = 5) ∧
      ∀ k w, what = .message k → s.wireAt k = some w → len = (8 * w.payload.length + 39) / 32) ∧
    (ends → fits → own → near → room part (trafficNet what) len → ∃ t y, made t y ∧
      fresh s src dst what cls len part charge y ∧ y.ent = src ∧ y.hop = dst ∧ y.leg = .mesh) ∧
    (ends → fits → own → ¬ near → gateOf src ≠ src → place → room part (trafficNet what) len → ∃ t y, made t y ∧
      fresh s src dst what cls len part charge y ∧ y.ent = src ∧ y.hop = gateOf src ∧ y.leg = .mesh) ∧
    (ends → fits → goes → epDie dst ≠ epDie src → n.ways (epDie src) (epDie dst) ≠ [] →
      ∃ t y, made t y ∧ waitsFor s t (epDie src) y ∧
        fresh s src dst what cls len (if epFar src then charge else part) charge y) ∧
    (ends → fits → goes → epDie dst = epDie src → dst ≠ gateOf dst → ∃ t y, made t y ∧
      fresh s src dst what cls len part charge y ∧ y.ent = gateOf dst ∧ y.leg = .gate) ∧
    (n.pkt id = some p → p.leg = .gate → src = gateOf p.dst → s.partOfTile (epTile p.dst) = some part → room part p.net p.len →
      exec (.packetAdmission src p.dst (.forward id) cls len charge) s = .next { s with net := n.putPkt { p with
        part := part, ent := src, hop := p.dst, srcVal := svcOf (epTile src), entered := 0, admitted := s.now, leg := .mesh } }) ∧
    (n.pkt id = some p → p.leg = .out → src = p.ent → s.partOfTile (epTile p.hop) ≠ none → room p.part p.net p.len →
      part = p.part → exec (.packetAdmission src p.hop (.forward id) cls len charge) s = .next { s with net := n.putPkt { p with
        entered := 0, admitted := s.now, leg := .mesh } })

/-- R332 to R334, R337 to R340: marks, damper windows, resends and abandonment, the times those in which the partition runs. An entry
evicted for the oldest flit asks its packet's source for it again, and holds one of eight reservations. A packet abandoned as a load, a
returning atomic or a status request raises LINK in the activation that waits; a store is dropped when it would be published; an
engine's command ends with LINK; a message is dropped with LINK to its sender's service core, and one that has come without an
acknowledgement leaves its sender LINK too. -/
def Sys2Proof.Claims.packetTimes : Prop :=
  ∀ (s : State) (id ep time : Nat) (p : Pkt) (a v : Asm) (h : Hop) (cyc : BitVec 16) (k : Ack),
    let n := s.net
    let known := n.pkt id = some p
    let late := p.retained = true ∧ p.apart = false ∧ p.leg ≠ .out ∧
      p.sent + (s.boundQ p.copy + s.boundA p.copy + s.boundB p.copy) ≤ s.runTime p.copy
    let again := { p with sent := s.runTime p.copy, resends := p.resends + 1 }
    let left := (n.unroute id).putPkt { p with leg := .done }
    let room := fun (part : Nat) => left.inFlight part p.net + p.len ≤ 2 * s.netW part * s.netH part + 1
    let anew := { again with entered := 0, admitted := s.now, leg := .mesh }
    let resent := fun (t : State) (y : Pkt) => t.net.pkt id = some y ∧ (∀ f ∈ t.net.flits, f.pkt ≠ id) ∧
      (∀ x ∈ t.net.asks, x.pkt ≠ id) ∧ t.mem = s.mem ∧ t.wire = s.wire
    let near := epOk p.dst = true ∧ epDie p.dst = epDie p.src ∧ s.partOfTile (epTile p.dst) = some p.copy
    let fromSource := (p.leg = .done ∨ p.leg = .mesh ∧ p.ent ≠ p.src) ∧ epFar p.src = false ∧ room p.copy
    let gone : State := { s with net := n.dropPkt id }
    let lost := fun (t : State) => exec (.ackTimeout id) s = .next t
    let final := known ∧ late ∧ 4 ≤ p.resends
    let trap := fun (t : State) (sid : Nat) => (t.coreAt sid).act = none ∧ (t.coreAt sid).ctl.fcode.extractLsb' 16 16 = 0x1300
    (known → p.leg = .mesh → p.entered < p.len → p.admitted + 64 ≤ s.now → (s.part p.part).stopped = false →
      (p.part, p.net, p.id) ∉ n.starve → exec (.starvationMark id) s =
        .next { s with net := { n with starve := n.starve ++ [(p.part, p.net, p.id)] } }) ∧
    ((∃ e ∈ s.clusters, e.2.damp ≠ 0 ∨ e.2.routed ≠ 0) → n.window + 256 ≤ s.now → ∃ t, exec .damperWindow s = .next t ∧ t.net = { n with window := n.window + 256 } ∧
      t.clusters = s.clusters.map fun e => (e.1, { e.2 with damp := nextDamp e.2, routed := 0, deflected := 0 })) ∧
    (n.asmOf h.p.id = none → h.p.len ≠ 1 → n.entryFree h.p.hop h.p.net h.p.id = false →
      (∃ x ∈ n.asms, x.ep = h.p.hop ∧ x.net = h.p.net ∧ x.last = true) → n.victim cyc h.p.hop h.p.net = some v →
      ∃ m, n.eject cyc time h true = some m ∧ v ∉ m.asms ∧ (∃ x ∈ m.asms, x.pkt = h.p.id) ∧ (∃ x ∈ m.asks, x.pkt = v.pkt) ∧
        ((n.resv.filter fun r => decide (r.1 = v.ep ∧ r.2.1 = v.net)).length < 8 → m.reserved v.pkt = true)) ∧
    (known → (∃ x ∈ n.asks, x.pkt = id ∧ (x.via = none ∨ x.came = true)) → p.apart = false → p.leg = .mesh → room p.part →
      ∃ t, exec (.resendRequest id) s = .next t ∧ resent t anew) ∧
    (known → n.asmOf id = some a → a.ep = ep → a.first + s.boundF p.part ≤ s.runTime p.part →
      ∃ t, exec (.partialPacketTimeout ep id) s = .next t ∧ t.net.asms = n.asms.filter (· ≠ a) ∧ (∃ x ∈ t.net.asks, x.pkt = id) ∧
        t.net.resv = n.resv ∧ t.net.flits = n.flits ∧ t.net.pkts = n.pkts ∧ t.mem = s.mem ∧ t.wire = s.wire) ∧
    (known → late → p.resends < 4 →
      (p.leg = .mesh → p.ent = p.src → room p.part → ∃ t, lost t ∧ resent t anew) ∧
      (fromSource → near → p.dst ≠ p.src → ∃ t, lost t ∧ resent t { anew with part := p.copy, ent := p.src, hop := p.dst }) ∧
      (fromSource → ¬ near → gateOf p.src ≠ p.src → left.gatePlaces p.src p.net < 8 →
        ∃ t, lost t ∧ resent t { anew with part := p.copy, ent := p.src, hop := gateOf p.src }) ∧
      (p.leg = .gate ∨ p.leg = .port ∨ p.leg = .link → ∃ t, lost t ∧ t.net.pkt id = some again ∧ t.net.flits = n.flits ∧
        t.mem = s.mem ∧ t.wire = s.wire)) ∧
    (final → (∃ l, p.load = .message l) → (∀ w ∈ s.wire, w.trip.pkt ≠ some id) →
      s.acks.find? (fun x => decide (x.pkt = some id)) = some k → k.sid < 8192 →
      ∃ t m, lost t ∧ t.acks = s.acks.erase k ∧ t.mem = s.mem ∧ t.wire = s.wire ++ [m] ∧ m.dst = svcOf (tileOf k.sid) ∧ m.ch = 59 ∧
        m.kind = .fault ∧ (m.payload.getD 0 0).extractLsb' 48 16 = 0x1301 ∧ m.payload.getD 1 0 = k.hdr ∧ m.payload.getD 2 0 = k.word) ∧
    (final → (match p.load with
      | .read sid line =>
        (sid < 8192 → (s.coreAt sid).act = none → ∃ t, lost t ∧ t.net = gone.net ∧ t.wire = s.wire ∧ t.mem = s.mem ∧
          ∀ c, t.coreAt c = s.coreAt c) ∧
        (sid < 8192 → (s.coreAt sid).act ≠ none → (gone.focusOn sid).lineAccess line ≠ none → ∃ t, lost t ∧ trap t sid) ∧
        (8192 ≤ sid → ∀ u, gone.engineFail (sid % 8192) (sid / 8192) 0x13 = some u → lost u)
      | .status sid => (s.coreAt sid).act ≠ none → (gone.focusOn sid).asksStatus = true → ∃ t, lost t ∧ trap t sid
      | .write sid line => ∃ t, lost t ∧ t.net = gone.net ∧ t.mem = s.mem ∧
          (t.coreAt sid).doomed = (s.coreAt sid).doomed ++ [(line, 0x13)] ∧ (t.coreAt sid).act = (s.coreAt sid).act
      | .message _ => ∀ k w, (s.wire.findIdx? fun x => decide (x.trip.pkt = some p.id)) = some k → s.wireAt k = some w →
          ∃ t m, lost t ∧ t.net = gone.net ∧ t.mem = s.mem ∧ t.wire = s.wire.eraseIdx k ++ [m] ∧ m.dst = svcOf (tileOf w.src) ∧
            m.ch = 59 ∧ m.kind = .fault ∧ (m.payload.getD 0 0).extractLsb' 48 16 = 0x1301
      | _ => lost gone))

/-- R324 to R327, R332 to R334, R340: one router's cycle, at most once in a cycle, with at most one arriving flit. A one-flit packet at its
destination is received, and at a gate goes on from there; a passing flit takes an allowed port toward the end of its way where one
is free, and another one, counted as deflected, where none is; with a port left over the oldest waiting packet's next flit
enters and no longer keeps up its starvation mark; with nothing to do the router only counts as having run. -/
def Sys2Proof.Claims.routerEvents : Prop :=
  ∀ (s : State) (die net x y part k fx fy : Nat) (h : Hop) (p : Pkt),
    let n := s.net
    let cl := die * 256 + y * 16 + x
    let mine := (n.hops net).filter fun e => decide (epDie e.p.ent = die ∧ e.f.x = x ∧ e.f.y = y ∧ e.f.due = s.now)
    let here := epX h.p.hop = x ∧ epY h.p.hop = y
    let free := s.allowed die x y
    let good := productive (s.policy h.p.part h.p.cls) x y (epX h.p.hop) (epY h.p.hop)
    let idle := s.candidate die x y net = none
    let counts := fun (t : State) (sent defl : Nat) => (t.cluster cl).routed = (s.cluster cl).routed + sent ∧
      (t.cluster cl).deflected = (s.cluster cl).deflected + defl
    let calm := ∀ e ∈ s.clusters, e.2.damp = 0 ∧ e.2.routed = 0
    let runs := fun (ports : List Nat) (t : State) => exec (.flitArrival die net x y ports) s = .next t ∧ t.mem = s.mem ∧
      t.net.ranAt = s.now ∧ t.net.ran = (net * 1024 + cl) :: s.ranNow ∧
      (calm → t.net.window = s.now / 256 * 256) ∧ (¬ calm → t.net.window = n.window)
    let moved := fun (t : State) => t.net.flits = n.flits.filter (· ≠ h.f) ++ [{ h.f with x := fx, y := fy, due := s.now + 1 }]
    let now' := s.routerPart die x y = some part ∧ ¬ (n.ranAt = s.now ∧ net * 1024 + cl ∈ n.ran) ∧ (calm ∨ s.now < n.window + 256)
    let alone := mine = [h] ∧ idle ∧ here ∧ h.p.len = 1 ∧ n.asmOf h.p.id = none
    (s.routerPart die x y = some part → n.ranAt = s.now → net * 1024 + cl ∈ n.ran → ∀ ports,
      exec (.flitArrival die net x y ports) s = .refused (.notEnabled "FLIT_ARRIVAL")) ∧
    (now' →
      (mine = [] → idle → ∃ t, runs [] t ∧ counts t 0 0 ∧
        t.net = { n with ranAt := s.now, ran := (net * 1024 + cl) :: s.ranNow, window := t.net.window }) ∧
      (alone → h.p.hop = h.p.dst → ∃ t, runs [] t ∧ taken s t h.p ∧ counts t 0 0) ∧
      (alone → h.p.hop ≠ h.p.dst → epDie h.p.dst ≠ epDie h.p.hop → n.ways (epDie h.p.hop) (epDie h.p.dst) ≠ [] →
        ∃ t, runs [] t ∧ waitsFor s t (epDie h.p.hop) h.p ∧ counts t 0 0) ∧
      (mine = [h] → idle → ¬ here → k ∈ free h.p.part → k ∈ good → portTo x y k = some (fx, fy) →
        ∃ t, runs [k] t ∧ moved t ∧ t.net.pkts = n.pkts ∧ counts t 1 0) ∧
      (mine = [h] → idle → ¬ here → k ∈ free h.p.part → (∀ j ∈ good, j ∉ free h.p.part) → portTo x y k = some (fx, fy) →
        ∃ t, runs [k] t ∧ moved t ∧ t.net.pkts = n.pkts ∧ counts t 1 1) ∧
      (mine = [] → s.candidate die x y net = some p → n.pkt p.id = some p → k ∈ free p.part → portTo x y k = some (fx, fy) →
        ∃ t, runs [k] t ∧ t.net.pkt p.id = some { p with entered := p.entered + 1 } ∧ counts t 1 0 ∧
          (⟨p.id, p.entered, fx, fy, s.now + 1, s.cyc16 die⟩ : Flit) ∈ t.net.flits ∧
          ∀ e ∈ t.net.starve, e ≠ (p.part, p.net, p.id)))

/-- R11, R340, R342 to R345: a link's receiver takes flits in the order in which they were sent, but for those lost, asks for the one flit
it misses, takes each flit once, and its packets go on from there: to
the gate of their tile, to a dike die's arbiter, to the sluice die, or by the next link of their way. A retrain replays what is
not acknowledged in either direction in the order of its sequence; after a failed one the link stays stopped, and the third failure in
a row takes it down with empty windows, which the sluice die reports where no other route is left (log 74); in its slot a port
or arbiter serves one packet of the slot's owner, or, where that lends and has none, of the first partition after the slot that
has one waiting; a slot without one stays idle. -/
def Sys2Proof.Claims.linkEvents : Prop :=
  ∀ (s : State) (link table slot id i : Nat) (seq : BitVec 12) (p : Pkt),
    let n := s.net
    let l := n.link link
    let put := fun (y : Link) => ({ s with net := { n with links := setAt n.links link y } } : State)
    let mates := [2 * (link / 2), 2 * (link / 2) + 1]
    let up := ∀ j ∈ mates, (n.link j).down = false ∧ (n.link j).held = false
    let crosses := fun (t : State) => exec (.ucieFlitArrival link seq) s = .next t ∧ (t.net.link link).had seq = true
    let first := l.window.find? (fun e => e.1 == seq) = some (seq, [id]) ∧ l.down = false ∧ l.held = false ∧ l.fails = 0 ∧ seq ∈ l.flight ∧
      l.had seq = false ∧ n.pkt id = some p
    let owner := fun (k : Nat) => (n.slot table k).extractLsb' 0 7
    let has := fun (k : Nat) => (n.slot table k).getLsbD 7 = true
    let asks := fun (k : Nat) => n.waiting table (owner k).toNat
    let due := table < 48 ∧ s.now % 1024 / 8 = slot
    let after := fun (j : Nat) => (slot + 1 + j) % 128
    let lends := has slot ∧ asks slot = none ∧ (s.part (owner slot).toNat).pmap.getLsbD 61 = true
    let k := n.link table
    let serves := has slot ∧ asks slot = some id ∨
      lends ∧ i < 128 ∧ has (after i) ∧ asks (after i) = some id ∧ ∀ j, j < i → has (after j) → asks (after j) = none
    let blocked := k.down = true ∨ k.held = true ∨ k.fails ≠ 0 ∨ 64 ≤ k.window.length ∨
      ∃ d ∈ [tableFrom table, tableTo table], d < 4 ∧ s.dieRuns d = false
    let idles := exec (.timeSlot table slot) s = .next s
    ((∃ e ∈ l.window, e.1 = seq) → l.had seq = false → seq ∉ l.flight →
      (∃ e ∈ l.ahead, (e - seq).toNat < 2048 ∧ e ≠ seq) →
      exec (.sequenceGap link seq) s = .next (put { l with flight := l.flight ++ [seq] })) ∧
    (link < 36 → up →
      (∃ t, exec (.retrain link true) s = .next t ∧ t.net.pkts = n.pkts ∧ t.net.gates = n.gates ∧ t.mem = s.mem ∧
        ∀ j, t.net.link j = if j ∈ mates then { n.link j with fails := 0, flight := (n.link j).window.map (·.1) } else n.link j) ∧
      (l.fails < 2 → ∃ t, exec (.retrain link false) s = .next t ∧ t.net.pkts = n.pkts ∧ t.net.gates = n.gates ∧ t.mem = s.mem ∧
        ∀ j, t.net.link j = if j ∈ mates then { n.link j with fails := (n.link j).fails + 1, flight := [] } else n.link j) ∧
      (2 ≤ l.fails → ∃ t, exec (.retrain link false) s = .next t ∧
        (∀ j ∈ mates, (t.net.link j).down = true ∧ (t.net.link j).window = []) ∧
        (link / 2 < 12 ∨ 16 ≤ link / 2 → ∃ z ∈ t.wire, z.kind = .note ∧ z.src = 8448 ∧ z.dst = svcOf 0))) ∧
    ((∃ e ∈ l.window, e.1 = seq) → l.down = false → l.held = false → l.fails = 0 → seq ∈ l.flight → l.had seq = true →
      exec (.ucieFlitArrival link seq) s = .next (put { l with flight := l.after seq })) ∧
    ((∃ e ∈ l.window, e.1 = seq) → (l.fails ≠ 0 ∨ seq ∉ l.flight) →
      exec (.ucieFlitArrival link seq) s = .refused (.notEnabled "UCIE_FLIT_ARRIVAL")) ∧
    (first →
      (epDie p.dst = tableTo link → epDie p.dst < 4 → p.dst = gateOf p.dst → ∃ t, crosses t ∧ taken s t { p with ent := p.dst }) ∧
      (epDie p.dst = tableTo link → epDie p.dst < 4 → p.dst ≠ gateOf p.dst → ∃ t, crosses t ∧
        t.net.pkt id = some { p with leg := .gate, ent := gateOf p.dst }) ∧
      (epDie p.dst = tableTo link → 4 ≤ epDie p.dst → epDie p.dst < 16 → ∃ t, crosses t ∧ (32 + epDie p.dst, p.home, id) ∈ t.net.gates ∧
        t.net.pkt id = some { p with leg := .port, ent := p.dst }) ∧
      (epDie p.dst = tableTo link → epDie p.dst = 16 → ∃ t, crosses t ∧ taken s t { p with ent := p.dst }) ∧
      (epDie p.dst ≠ tableTo link → n.ways (tableTo link) (epDie p.dst) ≠ [] → ∃ t, crosses t ∧
        waitsFor s t (tableTo link) { p with ent := p.dst })) ∧
    (due →
      (¬ has slot → idles) ∧
      (has slot → asks slot = none → (s.part (owner slot).toNat).pmap.getLsbD 61 = false → idles) ∧
      (lends → (∀ j, j < 128 → has (after j) → asks (after j) = none) → idles) ∧
      (table < 36 → serves → blocked → idles) ∧
      (table < 36 → serves → ¬ blocked → n.pkt id = some p → ∃ t, exec (.timeSlot table slot) s = .next t ∧ t.mem = s.mem ∧
        t.net.link table = { k with
          tx := k.tx + 1, window := k.window ++ [(k.tx, [id])], flight := k.flight ++ [k.tx] } ∧
        t.net.pkt id = some { p with leg := .link } ∧ ∀ e ∈ t.net.gates, ¬ (e.1 = table ∧ e.2.2 = id)) ∧
      (36 ≤ table → serves → n.pkt id = some p → ∃ t, exec (.timeSlot table slot) s = .next t ∧ taken s t p ∧ t.mem = s.mem ∧
        ∀ e ∈ t.net.gates, ¬ (e.1 = table ∧ e.2.2 = id)))

/-- The events of the network (R322 to R345).
Model's choices: log 39. -/
def Obligations.NetworkEvents : Prop := admissions ∧ packetTimes ∧ routerEvents ∧ linkEvents

/-! ### The management space -/

/-- MSTAT.ST set. -/
def Sys2Proof.Claims.withSt (s : State) (st : BitVec 3) : State := { s with sluice := { s.sluice with mst := st } }

/-- A write that needs MSEM, by an agent that does not hold it: dropped and counted, ST 1 (R380, R386). -/
def Sys2Proof.Claims.denied (s : State) : State :=
  { s with sluice := { s.sluice with
    deny := if s.sluice.deny = 0xFFFFFFFF then s.sluice.deny else s.sluice.deny + 1
    mst := 1 } }

/-- An agent that reaches the management space: the management core, or a port whose link is up, from stage B1 on. -/
def Sys2Proof.Claims.reaches (s : State) (agent : Nat) : Prop :=
  (s.stage = .b1 ∨ s.stage = .b2 ∨ s.stage = .b3) ∧
  (agent = 2 ∨ agent < 2 ∧ s.sluice.up.toList.getD agent false = true)

/-- An agent that holds MSEM. -/
def Sys2Proof.Claims.holds (s : State) (agent : Nat) : Prop := s.sluice.busy = true ∧ s.sluice.holder.toNat = agent

/-- R380, R383 to R386, R390, R391, R403: a write of an RCLS register keeps an old field where the new one is reserved; PTROOT and MIGCFG
take their defined bits, MIGCFG not while a frame is in use or where the frames would not fit. MGD acts as an access at the
offset MGA holds. A host's write that is not an aligned doubleword of the space is dropped. PTROOT, QUOTA, a CAT entry and FNC
are written by the holder of MSEM, and another agent's write is dropped and counted in DENY with status 1. A read of a free
MSEM takes it, and the holder's write releases it. A host's write of a doubleword in the MSI-X table of a function stands, and
sends a pending vector that it unmasks; one of an absent function is dropped, and a read of one gives no register (R389). -/
def Sys2Proof.Claims.registerEvents : Prop :=
  ∀ (s : State) (agent part off z tile vec : Nat) (c : BitVec 2) (v : Word),
    let old := ((s.part part).rcls.toList.getD c.toNat 0)
    let sid := svcOf tile
    let v0 := s.coreAt (svcOf 0)
    let at' := bits v0.ctl.mga 19 3 * 8
    let can := reaches s agent
    let has := holds s agent
    let zone := s.zone z
    let m := v &&& 0x0000000080FFFE00
    let there := part < 128 ∧ (part = 0 ∨ (s.part part).pmap.getLsbD 63 = true)
    let k := vecKey agent part vec
    let entry := fun (t : State) => getAt ((0 : Word), (0x100000000 : Word)) t.sluice.msix k
    let sends := fun (t : State) => if k ∈ s.sluice.pba ∧ (entry t).2.getLsbD 32 = false
      then t.sluice.msi = s.sluice.msi ++ [(agent, k)] ∧ k ∉ t.sluice.pba
      else t.sluice.msi = s.sluice.msi ∧ t.sluice.pba = s.sluice.pba
    let lone := fun (w : Word) (o : Nat) (f : State → Prop) => ∃ t, exec (.registerWrite agent (1048576 + 65536 * part + o) w) s = .next t ∧
      t.mem = s.mem ∧ t.parts = s.parts ∧ f t
    (part < 128 → ∃ t, exec (.rclsWrite part c v) s = .next t ∧ t.mem = s.mem ∧
      let new := (t.part part).rcls.toList.getD c.toNat 0
      bits new 8 8 = bits v 8 8 ∧ bits new 7 6 = (if bits v 7 6 = 3 then bits old 7 6 else bits v 7 6) ∧
      bits new 5 0 = (if 55 < bits v 5 0 then bits old 5 0 else bits v 5 0) ∧ bits new 63 9 = 0) ∧
    (can → part < 128 → has → exec (.ptrootWrite (128 * agent + part) v) s =
      .next (withSt (s.setPart part { s.part part with ptroot := v &&& 0x000FFFFFFFFFF001 }) 0)) ∧
    (can → part < 128 → ¬ has → exec (.ptrootWrite (128 * agent + part) v) s = .next (denied s)) ∧
    (tile < 128 → ∃ t, exec (.migcfgWrite tile v) s = .next t ∧ (t.coreAt sid).r = (s.coreAt sid).r ∧
      (t.coreAt sid).ctl = { (s.coreAt sid).ctl with migcfg :=
        if (s.coreAt sid).ctl.migbusy ≠ 0 ∨ 512 < bits m 17 9 + (bits m 23 18 + 1) then (s.coreAt sid).ctl.migcfg else m }) ∧
    (s.dieRuns 0 = true → reaches s 2 → s.hostBlock (s.mgmtStops 2 at' v) = none → ∃ t, exec (.mgdAccess true v) s = .next t ∧
      exec (.registerWrite 2 at' v) s = .next t) ∧
    (s.dieRuns 0 = true → ∃ t, exec (.mgdAccess false v) s = .next t ∧ t.parts = s.parts ∧
      (part < 128 → at' = 0x1000 + 8 * part → (t.coreAt (svcOf 0)).r.a = (s.part part).pmap) ∧
      (part < 128 → at' = 0x2000 + 8 * part → (t.coreAt (svcOf 0)).r.a = (s.part part).lease) ∧
      (at' = 0 → (t.coreAt (svcOf 0)).r.a = BitVec.ofNat 64 (s.sluice.holder.toNat * 2 + (if s.sluice.busy then 1 else 0)) ∧
        t.sluice.busy = true ∧ (s.sluice.busy = false → t.sluice.holder = 2))) ∧
    (can → off % 8 ≠ 0 → off < 1048576 → exec (.registerWrite agent off v) s = .next s) ∧
    (can → part < 128 → has → exec (.registerWrite agent (0x4000 + 8 * part) v) s =
      .next (withSt (s.setPart part { s.part part with quota := v }) 0)) ∧
    (can → part < 128 → ¬ has → exec (.registerWrite agent (0x4000 + 8 * part) v) s = .next (denied s)) ∧
    (can → exec (.registerWrite agent 8 v) s =
      .next { s with sluice := { s.sluice with deny := s.sluice.deny &&& ~~~(v.extractLsb' 32 32) } }) ∧
    (can → z < 32 → ¬ has → exec (.catWrite agent z v) s = .next (denied s)) ∧
    (can → z < 32 → has → zone.spill = .none → v.getLsbD 18 = false → ∃ t, exec (.catWrite agent z v) s = .next t ∧
      t.sluice.mst = 0 ∧ let mask : Word := if s.zoneRuns z then 0x000BF807FFF80000 else 0x03FFFFFFFFF80000
      (t.zone z) = { zone with cat := (zone.cat &&& ~~~mask) ||| (v &&& mask) }) ∧
    (can → z < 32 → has → zone.spill = .none → zone.fnc = true → ∃ t, exec (.fncWrite agent z) s = .next t ∧
      t.sluice.mst = 0 ∧ t.zone z = { zone with fnc := false, st := 0 }) ∧
    (can → s.sluice.busy = false → exec (.msemRead agent) s =
      .next { s with sluice := { s.sluice with busy := true, holder := BitVec.ofNat 2 agent } }) ∧
    (can → s.sluice.busy = true → exec (.msemRead agent) s = .next s) ∧
    (can → has → exec (.msemRelease agent) s = .next { s with sluice := { s.sluice with busy := false } }) ∧
    (can → ¬ has → exec (.msemRelease agent) s = .next s) ∧
    (can → agent < 2 → there → vec < 2048 →
      lone v (0x8000 + 16 * vec) (fun t => entry t = (v, (entry s).2) ∧ sends t) ∧
      lone v (0x8000 + 16 * vec + 8) (fun t => entry t = ((entry s).1, v) ∧ sends t)) ∧
    (s.hostFuncRead agent part off = none ↔ ¬ there) ∧
    (can → agent < 2 → part < 128 → ¬ there → 0x4000 ≤ off → off < 65536 → exec (.registerWrite agent (1048576 + 65536 * part + off) v) s = .next s) ∧
    (can → agent < 2 → there → v.getLsbD 0 = true → exec (.registerWrite agent (1048576 + 65536 * part + 0x4000) v) s = exec (.renew agent part) s)

/-- R379 to R382, R387 to R389: a write of PMAP by the holder of MSEM is refused with status 4 for a malformed entry, 2 for an
overlap, 3 for a partition at work, and else maps the tiles, once the hosts have given back what the change takes; until then
the status is 7. A write of LEASE leaves a field whose new value is reserved (STBY, coded as HOLD, at 3: log 27), starts REM anew
and tells the scheduling and management cores when HOLD changes. RENEW by the holder's port starts REM anew, where the function
is there. A tick lowers REM, and a lease that reaches
0 passes to a standby port whose link is up, or ends, with a notice. -/
def Sys2Proof.Claims.partitionRegisters : Prop :=
  ∀ (s : State) (agent part port : Nat) (v : Word) (x : Nat × Bool),
    let can := reaches s agent ∧ part < 128
    let has := holds s agent
    let m := ((s.part part).pmap &&& ~~~0xFFFFFF00000003FF) ||| (v &&& 0xFFFFFF00000003FF)
    let l := (s.part part).lease
    let hold := bits l 63 62
    let stby := bits l 61 60
    let lease := fun (t : State) => (t.part part).lease
    let fields := fun (w : Word) (hold stby exp rem : Nat) =>
      bits w 63 62 = hold ∧ bits w 61 60 = stby ∧ bits w 59 50 = exp ∧ bits w 49 40 = rem
    let sched := s.schedOf part
    let told := fun (t : State) (code new : Nat) => ∃ a b, t.wire = s.wire ++ [a, b] ∧ a.dst = sched ∧ b.dst = svcOf 0 ∧
      a.ch = 58 ∧ b.ch = 58 ∧ a.payload = b.payload ∧
      a.payload = [BitVec.ofNat 64 (code * 2 ^ 56 + new * 2 ^ 54 + hold * 2 ^ 52 + part)]
    let expires := part ∈ s.sluice.expiring
    let taken := (stby = 1 ∨ stby = 2) ∧ stby ≠ hold ∧ s.sluice.up.toList.getD (stby - 1) false = true
    (can → ¬ has → exec (.pmapWrite agent part v) s = .next (denied s)) ∧
    (can → has →
      (pmapBad part m = true → exec (.pmapWrite agent part v) s = .next (withSt s 4)) ∧
      (pmapBad part m = false → s.pmapOverlap part m = true → exec (.pmapWrite agent part v) s = .next (withSt s 2)) ∧
      (pmapBad part m = false → s.pmapOverlap part m = false → s.pmapBusy part m = true →
        exec (.pmapWrite agent part v) s = .next (withSt s 3)) ∧
      (s.hostBlock (s.pmapStops part v) = some x → s.snooped x.1 = false →
        exec (.pmapWrite agent part v) s = .next ((withSt s 7).startSnoop x.1 x.2 .other)) ∧
      (pmapBad part m = false → s.pmapOverlap part m = false → s.pmapBusy part m = false → s.hostBlock (s.pmapStops part v) = none →
        ∃ t, exec (.pmapWrite agent part v) s = .next t ∧ t.sluice.mst = 0 ∧ (t.part part).pmap = m ∧
          ∀ k, t.partOfTile k = some part ↔ k ∈ pmapTiles part m)) ∧
    (can → ¬ has → v.getLsbD 0 = false → exec (.leaseWrite agent part v) s = .next (denied s)) ∧
    (can → has → v.getLsbD 0 = false →
      let newHold := if bits v 63 62 = 3 then hold else bits v 63 62
      let newStby := if bits v 61 60 = 3 then stby else bits v 61 60
      let newExp := if bits v 59 50 = 0 ∨ 1000 < bits v 59 50 then bits l 59 50 else bits v 59 50
      ∃ t, exec (.leaseWrite agent part v) s = .next t ∧ t.sluice.mst = 0 ∧
        (newHold = hold → fields (lease t) hold newStby newExp (bits l 49 40) ∧ t.wire = s.wire) ∧
        (newHold ≠ hold → fields (lease t) newHold newStby newExp newExp ∧ told t 0x22 newHold)) ∧
    (s.sluice.up.toList.getD port false = true → part < 128 →
      (hold = port + 1 → (part = 0 ∨ (s.part part).pmap.getLsbD 63 = true) → ∃ t, exec (.renew port part) s = .next t ∧ fields (lease t) hold stby (bits l 59 50) (bits l 59 50)) ∧
      (hold ≠ port + 1 ∨ part ≠ 0 ∧ (s.part part).pmap.getLsbD 63 = false → exec (.renew port part) s = .next s)) ∧
    (∃ t, exec .leaseTick s = .next t ∧ lease t = (if bits l 49 40 = 0 then l else l - 0x0000010000000000) ∧
      (∀ p, p ∈ t.sluice.expiring → ∃ e ∈ s.parts, e.1 = p ∧ bits e.2.lease 49 40 = 1) ∧
      ∀ e ∈ s.parts, bits e.2.lease 49 40 = 1 → ⟨0, .expiry e.1⟩ ∈ t.agenda) ∧
    (expires → taken → ∃ t, exec (.leaseExpiry part) s = .next t ∧ part ∉ t.sluice.expiring ∧
      fields (lease t) stby 0 (bits l 59 50) (bits l 59 50) ∧ told t 0x20 stby) ∧
    (expires → ¬ taken → ∃ t, exec (.leaseExpiry part) s = .next t ∧ part ∉ t.sluice.expiring ∧
      fields (lease t) 0 0 (bits l 59 50) (bits l 49 40) ∧ told t 0x21 0)

/-- The events of the management space (R379 to R388, R403).
Model's choices: log 27. -/
def Obligations.ManagementEvents : Prop := registerEvents ∧ partitionRegisters

/-! ### Coolant -/

/-- A sensor trap to the management core on channel 58: code, detail, zone, ST; M1 is ZSENS0 (R353). -/
def Sys2Proof.Claims.trapSent (t : State) (z code detail : Nat) (x : Zone) : Prop :=
  ∃ y ∈ t.wire, y.dst = svcOf 0 ∧ y.ch = 58 ∧ y.kind = .note ∧
    y.payload = [BitVec.ofNat 64 (code * 2 ^ 56 + detail * 2 ^ 48 + z * 2 ^ 40 + x.st.toNat * 2 ^ 37), x.sens0]

/-- R347 to R355, R426. A sample is recorded with its runs; flow below 30 % for 2 ms, a gas rise or two DRY samples start the spillway
sequence, which suspends the partitions of the zone; flow below 70 % for 1 ms or a hotspot at TJMAX makes a normal zone
flow-limited with its valve at VMAX, and 10 ms of recovery end that. CLOSE, PURGE and VERIFY follow at their times; after a good
VERIFY the partitions are restored, and run again when that is complete; a bad one purges again, and the third fences the zone,
whose launches end, those that a shadow bank keeps waiting included. A zone that primes badly is fenced; the last zone of a die that has
been reset lets the die run (R422).
Model's choices: log 40. -/
def Obligations.CoolantEvents : Prop :=
  ∀ (s : State) (z n at' : Nat) (v : BitVec 6) (s0 s1 : Word),
    let old := s.zone z
    let x := old.sampled (s.granted z) (s.judging z) s0 s1
    let primed := if s.stage = .b2 then s.sluice.priming else if s.stage = .b3 then findAt s.sluice.primes (z / 8) else none
    let full := s.stage = .b3 ∧ primed = none
    let judged := s.sluice.judged ++ [z]
    let last := s.stage = .b3 ∧ ∀ i, i < 8 → 8 * (z / 8) + i ∈ judged
    let flow := (s0.extractLsb' 48 16).toNat
    let granted := 4 * (30 + 15 * s.gcls z)
    let on := (s.stage = .b2 ∨ s.stage = .b3) ∧ z < 32
    let gas := gasRise s0 s1 old.past
    let trig := (if 20 ≤ x.low30 then 1 else 0) + (if gas then 2 else 0) + (if 2 ≤ x.dry then 4 else 0)
    let hot := ∃ i, i < 4 ∧ 16 * old.tjmax ≤ (s1.extractLsb' (16 * i) 16).toNat
    let put := fun (y : Zone) => s.setZone z y
    let fenced := fun (t : State) => (t.zone z).fnc = true ∧ (t.zone z).st = 3 ∧ (t.zone z).spill = .none ∧
      (∀ l ∈ t.launches, z ∉ l.zones) ∧ ∀ p c, (t.part p).shadow = some c → ∀ l ∈ c.launches, l.running = false → z ∉ l.zones
    let free' := fun (o : Option Nat) => s.hostBlock (s.coolStops o) = none
    let steady := (match old.spill with
      | .none => s.purgeNear z = true ∨ (if old.st = 1 then v = old.vmax else v.toNat ≤ old.vmax.toNat)
      | .verify _ => True
      | _ => False)
    (x.low30 = (if 10 * flow < 3 * granted then old.low30 + 1 else 0) ∧
      x.low70 = (if 10 * flow < 7 * granted then old.low70 + 1 else 0) ∧
      x.dry = (if s0.getLsbD 31 then old.dry + 1 else 0)) ∧
    (on → ∃ t, exec (.sensorSample z s0 s1) s = .next t ∧ (t.zone z).sens0 = s0 &&& 0xFFFFFFFF80000000 ∧ (t.zone z).sens1 = s1 ∧
      (full → old.spill = .none → trig ≠ 0 → (t.zone z).st = 2 ∧ (t.zone z).spill = .suspend ∧
        (t.zone z).since = s.now ∧ (∀ p ∈ s.zoneParts z, z ∈ (t.part p).cooled) ∧
        trapSent t z 0x10 trig { x with st := 2 }) ∧
      (full → (old.spill ≠ .none ∨ trig = 0) → old.st = 0 → (10 ≤ x.low70 ∨ hot) →
        (t.zone z).st = 1 ∧ (t.zone z).valve = old.vmax ∧ trapSent t z 0x01 (if 10 ≤ x.low70 then 1 else 2) { x with st := 1 }) ∧
      ((¬ full ∨ (old.spill ≠ .none ∨ trig = 0) ∧ (old.st ≠ 0 ∨ (x.low70 < 10 ∧ ¬ hot))) → t.zone z = x) ∧
      (x.hot = 100 → ∃ y ∈ t.wire, y.dst = svcOf 0 ∧ (y.payload.getD 0 0).extractLsb' 56 8 = 3)) ∧
    (on → primed = none → steady → exec (.valveAdjust z v) s = .next (put { old with valve := v })) ∧
    (old.st = 1 → 100 ≤ old.well → ∃ t, exec (.flowLimitedLeave z) s = .next t ∧ t.zone z = { old with st := 0 } ∧
      trapSent t z 0x02 0 { old with st := 0 }) ∧
    (old.spill = .suspend → exec (.close z) s = .next (put { old with spill := .close, valve := 0, since := s.now })) ∧
    (old.spill = .close → old.since + 12500000 ≤ s.now →
      exec (.purge z) s = .next (put { old with spill := .purge 1, valve := 63, since := s.now })) ∧
    (old.spill = .purge n → old.since + 250000000 ≤ s.now →
      exec (.verify z) s = .next (put { old with spill := .verify n, good := true, since := s.now })) ∧
    (old.spill = .verify n → old.since + 62500000 ≤ s.now →
      (old.good = true → exec (.verifyExpiry z) s = .next (put { old with spill := .restore n, since := s.now })) ∧
      (old.good = false → n < 3 → ∃ t, exec (.verifyExpiry z) s = .next t ∧
        t.zone z = { old with spill := .purge (n + 1), valve := 63, since := s.now } ∧ trapSent t z 0x12 n old) ∧
      (old.good = false → 3 ≤ n → free' (some z) → ∃ t, exec (.verifyExpiry z) s = .next t ∧ fenced t)) ∧
    (old.spill = .restore n → free' none → ∃ t, exec (.restoreComplete z) s = .next t ∧ (t.zone z).spill = .none ∧
      (t.zone z).st = 0 ∧ (∀ p, z ∉ (t.part p).cooled) ∧ ∃ y : Zone, y.st = 0 ∧ y.sens0 = old.sens0 ∧ trapSent t z 0x13 n y) ∧
    (primed = some at' → z < 32 → at' + 2562500000 ≤ s.now → z ∉ s.sluice.judged → ∃ t, exec (.coolantPriming z) s = .next t ∧
      t.sluice.judged = judged ∧ (last → findAt t.sluice.primes (z / 8) = none) ∧ (¬ last → t.sluice.primes = s.sluice.primes) ∧
      (old.good = true → t.zones = s.zones ∧ t.sluice.fail = s.sluice.fail ∧ t.core = s.core ∧ t.mem = s.mem) ∧
      (old.good = false → fenced t ∧ t.sluice.fail = 5))

/-! ### Partition actions, resets, bring-up -/

/-- The notice of a finished partition action goes to every agent that asked (R392). -/
def Sys2Proof.Claims.answered (s t : State) (part code st : Nat) : Prop :=
  (t.part part).action = none ∧ (t.part part).askers = [] ∧
  ∀ a ∈ (s.part part).askers, ∃ y ∈ t.wire, y.kind = .note ∧ y.dst = a.1 ∧ y.ch = (if a.2 = 0 then 57 else a.2) ∧
    y.payload = [BitVec.ofNat 64 (code * 2 ^ 56 + st * 2 ^ 48 + part)]

/-- R392, R407, R410, R412, R420: with its traffic drained a PSTOP ends with every activation interrupted at its checkpoint and no
translation kept, the writes of its bulk copies performed (R230: log 79); a PGO lets interrupted activations run again from it, takes up
the pending-write records of suspended MXSTs and sends withdrawn packets again as far as there is room; a SCRUB leaves cores at core
reset, stores zero, no launch and an empty shadow bank; SPILL empties the shadow bank, FILL loads what a SPILL of the same bytes put
there, or reports 1; a partition reset leaves its cores at core reset, and its service cores too, but for their counts of SEQ,
which start at die reset. Each takes place once the hosts have answered for the lines it needs. -/
def Sys2Proof.Claims.actionEvents : Prop :=
  ∀ (s : State) (part : Nat) (fs : List Nat) (x : Ctx) (e : Nat × Memory × Ctx),
    let p := s.part part
    let does := fun (a : Action) => p.action = some a
    let cores := s.partCores part
    let saved := s.spills.find? fun y => decide (y.1 = part ∧ y.2.1 = s.frameBytes 0 fs)
    let fills := (frameLines fs).map fun l => (l, false)
    let ready := fun (l : List (Nat × Bool)) => s.hostBlock l = none
    (does .pstop → s.net.inMesh part = false → (∀ b ∈ s.bulks, b.part = part → b.late = []) → ∃ t, exec (.partitionHalt part) s = .next t ∧ answered s t part 0x30 0 ∧ (t.part part).halted = true ∧
      (t.part part).stopping = false ∧ ∀ c ∈ cores, let u := t.coreAt c; u.act = none ∧ u.itlb = [] ∧ u.dtlb = [] ∧
        u.mtlb = [] ∧ u.setlb = [] ∧
        ∀ ch, (s.coreAt c).act = some ch → ∃ k, u.inter = some ⟨k, ch, (s.coreAt c).rerun, (s.coreAt c).mismOnce⟩ ∧
          k.pc = (s.coreAt c).ck.pc ∧ k.a = (s.coreAt c).ck.a) ∧
    (does .pgo → p.cooled = [] → p.stopping = false → ready (s.coolStops none) →
      (∀ l ∈ s.launches, l.part = part → (l.running = true ∨ p.arrived = true) → ∀ z ∈ l.zones, (s.zone z).fnc = false) →
      ∃ t, exec (.partitionResume part) s = .next t ∧ answered s t part 0x31 0 ∧ (t.part part).halted = false ∧
        ((s.net.pkts.map (·.id)).Nodup → ∀ k ∈ t.net.pkts, k.part = part → k.leg = .out →
          2 * s.netW part * s.netH part + 1 < t.net.inFlight part k.net + k.len) ∧
        (∀ c ∈ cores, ∀ r, (s.coreAt c).mx.run = some r → r.cmd.st = true → r.ended = none →
          (t.coreAt c).mx.run = some { r with susp := false }) ∧
        ∀ c ∈ cores, ∀ i, (s.coreAt c).inter = some i → let u := t.coreAt c
          u.act = some i.chan ∧ u.inter = none ∧ u.pc = i.ck.pc ∧ u.r.a = i.ck.a ∧ u.r.flg = i.ck.flg ∧ u.rerun = i.rerun ∧
            u.mismOnce = i.mismOnce) ∧
    (does .scrub → ready (s.tileStops (s.partTiles part)) → ∃ t, exec (.scrubComplete part) s = .next t ∧
      answered s t part 0x32 0 ∧ (t.part part).shadow = none ∧
      (∀ c ∈ cores, t.coreAt c = Core.zero) ∧ (∀ l ∈ t.launches, l.part ≠ part) ∧
      (∀ b ∈ t.spad, b.1 / 16777216 ∉ s.partClusters part) ∧ ∀ k ∈ t.badStore, k / 16777216 ∉ s.partClusters part) ∧
    (does (.spill fs) → p.shadow = some x → ready ((frameLines fs).flatMap s.writeStops) → ∃ t, exec (.spill part) s = .next t ∧ answered s t part 0x34 0 ∧
      (t.part part).shadow = none ∧ t.spills = (part, t.frameBytes 0 fs, x) :: s.spills) ∧
    (does (.fill fs) → saved = some e → ready fills → ∃ t, exec (.fill part) s = .next t ∧ answered s t part 0x35 0 ∧
      (t.part part).shadow = some e.2.2 ∧ (t.part part).arrived = true) ∧
    (does (.fill fs) → saved = none → ready fills → ∃ t, exec (.fill part) s = .next t ∧ answered s t part 0x35 1 ∧
      (t.part part).shadow = none) ∧
    (p.reset = .draining → findAt s.sluice.dieReset (part / 32) = none → ready (s.tileStops (s.partTiles part) ++ s.tagStops part) → ∃ t,
      exec (.partitionResetScrub part) s = .next t ∧ (t.part part).reset = .none ∧
      (t.part part).ptroot = 0 ∧ (t.part part).halted = false ∧ (∀ c ∈ cores, t.coreAt c = Core.zero) ∧
      (∀ k ∈ s.partTiles part, t.coreAt (svcOf k) = { Core.zero with seqCnt := (s.coreAt (svcOf k)).seqCnt }) ∧ (∀ l ∈ t.launches, l.part ≠ part) ∧
      ∀ y ∈ t.tiles, y.part ≠ part)

/-- R385, R393, R421, R422: a link that goes down releases its MSEM; a function's reset on the holder's port begins its partition's
reset, on another port it clears the function's windows alone; a die reset leaves its agents at core reset and ends once every
partner whose link is up has sent its DRAINACK: the links of those partners train, the others are held down, the partition resets that
wait for it end, and its zones are primed; a partner that has not within 10 ms keeps its link held down. -/
def Sys2Proof.Claims.resetEvents : Prop :=
  ∀ (s : State) (port part die link : Nat) (hot : Bool) (acks : List Nat),
    let up := s.sluice.up.toList.getD port false = true
    let there := port < 2 ∧ up ∧ part < 128 ∧ (part = 0 ∨ (s.part part).pmap.getLsbD 63 = true) ∧ (s.stage = .b1 ∨ s.stage = .b3)
    let waiting := findAt s.sluice.dieReset die = some acks
    let all := ∀ l ∈ dieLinks die, l ∈ acks ++ [link] ∨ s.net.linkUp l = false
    (port < 2 → up → ∃ t, exec (.hostLinkDown port hot) s = .next t ∧ t.sluice.up.toList.getD port false = hot ∧
      t.sluice.up.toList.getD (1 - port) false = s.sluice.up.toList.getD (1 - port) false ∧
      t.sluice.busy = (s.sluice.busy && decide (s.sluice.holder.toNat ≠ port)) ∧ t.mem = s.mem ∧ t.core = s.core) ∧
    (there → part ≠ 0 → s.leasePort part = some port → ∃ t, exec (.flr port part) s = .next t ∧
      (t.part part).reset = .draining ∧ ∀ c ∈ s.partAgents part, (t.coreAt c).act = none) ∧
    (there → part ≠ 0 → s.leasePort part ≠ some port → ∃ t, exec (.flr port part) s = .next t ∧
      t.parts = s.parts ∧ t.core = s.core ∧ t.mem = s.mem ∧
      (∀ e ∈ t.sluice.wins, e.1 / 4 ≠ port * 128 + part) ∧ ∀ k ∈ t.sluice.pba, k / 2048 ≠ port * 128 + part) ∧
    (there → part = 0 → ∃ t, exec (.flr port 0) s = .next t ∧ (s.leasePort 0 = some port → (t.part 0).reset = .draining) ∧
      ∀ e ∈ t.sluice.wins, e.1 / 4 < port * 128 ∨ port * 128 + 128 ≤ e.1 / 4) ∧
    ((s.coreAt (svcOf 0)).stopped = true → findAt s.sluice.dieReset 0 = none → ∃ t, exec (.dieReset 0) s = .next t ∧
      ∀ sid, dieOf sid = 0 → t.coreAt sid = Core.zero) ∧
    (waiting → link ∈ dieLinks die → s.net.linkUp link = true → link ∉ acks → ∃ t, exec (.drainack die link) s = .next t ∧
      (all → findAt t.sluice.dieReset die = none ∧
        (∀ l ∈ dieLinks die, (t.net.link (2 * l)).held = decide (l ∉ acks ++ [link]) ∧
          (t.net.link (2 * l + 1)).held = decide (l ∉ acks ++ [link])) ∧
        (∀ q, q / 32 = die → (s.part q).reset = .draining → (t.part q).reset = .none) ∧
        (s.stage = .b3 → findAt t.sluice.primes die = some s.now)) ∧ (¬ all → findAt t.sluice.dieReset die = some (acks ++ [link]))) ∧
    (findAt s.sluice.dieReset die = none → link ∈ dieLinks die → (s.net.link (2 * link)).held = true →
      ∃ t, exec (.drainack die link) s = .next t ∧ t.net.link (2 * link) = Link.zero ∧ t.net.link (2 * link + 1) = Link.zero) ∧
    (waiting → link ∈ dieLinks die → s.net.linkUp link = true → link ∉ acks →
      s.dieBase.toList.getD die 0 + 12500000 ≤ s.now → ∃ t, exec (.drainTimeout die link) s = .next t ∧
        (t.net.link (2 * link)).held = true ∧ (t.net.link (2 * link + 1)).held = true)

/-- R423 to R429: power, images, the stages of bring-up and the attestation's answers. Which image runs is the first accepted one;
it gives HOLD, which a host may write while the PF's capability answers; stage B1 serves die 0 as partition 0; B2 loads its tables, an entry that it does not
list standing at its reset value; B3 follows when every zone has been judged. -/
def Sys2Proof.Claims.bringup : Prop :=
  ∀ (s : State) (bytes : List (Nat × BitVec 8)) (at' port : Nat) (v : Word) (up0 up1 : Bool)
    (ports : BitVec 4) (exps : List (Nat × Nat)) (peers : BitVec 32) (req : List Byte),
    let tables := s.imageTables
    let a := imageOk s.sluice.flash 0
    let b := imageOk s.sluice.flash 0x2000000
    let seven : List (Instr × Nat) := [(.getVersion port req, 0x84), (.getCapabilities port req, 0xE1),
      (.negotiateAlgorithms port req, 0xE3), (.getDigests port req, 0x81), (.getCertificate port req, 0x82),
      (.challenge port req, 0x83), (.getMeasurements port req, 0xE0)]
    let asked := port < 2 ∧ s.sluice.up.toList.getD port false = true ∧ s.stage ≠ .off ∧ s.stage ≠ .b0
    (s.stage = .off → s.sluice.pwrOk = none → exec (.pwrOk bytes) s = .next { s with sluice := { s.sluice with
      pwrOk := some s.now, flash := bytes.foldl (fun m e => m.write e.1 e.2) [] } }) ∧
    (s.stage = .off → s.sluice.pwrOk = some at' → at' + 1250000 ≤ s.now → ∃ t, exec .sysResetN s = .next t ∧ t.stage = .b0 ∧
      (a = true → t.sluice.slot = false ∧ (t.sluice.fail = 0 ∨ t.sluice.fail = 3)) ∧
      (a = false → b = true → t.sluice.slot = true ∧ (t.sluice.fail = 1 ∨ t.sluice.fail = 3)) ∧
      (a = false → b = false → t.sluice.fail = 2 ∧ t.sluice.identity = false ∧ t.sluice.hold = false) ∧
      (a = true ∨ b = true → t.sluice.hold = Config.imageHold (imageBody s.sluice.flash (slotBase t.sluice.slot))) ∧
      (t.sluice.identity = true → t.sluice.fail ≠ 3)) ∧
    (s.stage = .b0 → s.sluice.fail ≠ 2 → ∃ t, exec (.stageB1 s.sluice.hold up0 up1) s = .next t ∧ t.stage = .b1 ∧
      t.sluice.hold = s.sluice.hold ∧ t.sluice.up.toList = [up0, up1] ∧ (t.part 0).pmap = 0x80100000000003E0 ∧
      (∀ k, k < 32 → t.partOfTile k = some 0) ∧ (∀ k, 32 ≤ k → t.partOfTile k = none) ∧ t.core = s.core) ∧
    (s.stage ≠ .off → (s.stage = .b0 → s.sluice.fail = 2) →
      exec .bstatHold s = .next { s with sluice := { s.sluice with hold := false } } ∧
      (port < 2 → (s.stage ≠ .b0 → s.sluice.up.toList.getD port false = true) → exec (.registerWrite port 0x1000008 v) s =
        .next { s with sluice := { s.sluice with hold := v.getLsbD 8 } })) ∧
    s.bstat = BitVec.ofNat 32 (256 * s.sluice.hold.toNat + 16 * s.sluice.fail.toNat + 8 * s.sluice.slot.toNat +
      (if s.stage = .b1 then 1 else if s.stage = .b2 then 2 else if s.stage = .b3 then 3 else 0)) ∧
    (s.stage = .b1 → s.sluice.hold = false → s.sluice.fail ≠ 4 →
      exec (.stageB2 tables false) s = .next { s with sluice := { s.sluice with fail := 4 } } ∧
      (∃ t, exec (.stageB2 tables true) s = .next t ∧ t.stage = .b2 ∧ t.dir = [] ∧ t.tiles = [] ∧ t.l2.tags = [] ∧ t.sluice.priming = some s.now ∧ t.sluice.judged = [] ∧
        ∀ z, z < 32 → (t.zone z).valve = 63 ∧ ((∀ e ∈ tables, e.1 / 8 ≠ 0x600 + z) → (t.zone z).cat = Zone.zero.cat))) ∧
    (s.stage = .b2 → (∀ z, z < 32 → z ∈ s.sluice.judged) → ∃ t, exec (.stageB3 ports exps peers) s = .next t ∧ t.stage = .b3 ∧
      t.sluice.priming = none ∧ t.expanders = exps ∧ t.peers = peers ∧ t.core = s.core ∧ t.mem = s.mem ∧
      t.ports.toList = [ports.extractLsb' 0 2, ports.extractLsb' 2 2]) ∧
    (∃ t, exec .powerDown s = .next t ∧ t.stage = .off ∧ (∀ sid, t.coreAt sid = Core.zero) ∧ t.parts = [] ∧ t.launches = [] ∧
      t.sluice.flash = s.sluice.flash ∧ t.l2.draws = s.l2.draws ∧ ∀ c, c ∈ t.mem ↔ c ∈ s.mem ∧ 0x1000000000000 ≤ c.1) ∧
    (asked → ∀ i ∈ seven, (s.sluice.identity = false → exec i.1 s = .next s) ∧
      (s.sluice.identity = true → ∃ ans, exec i.1 s =
        .next { s with sluice := { s.sluice with spdm := s.sluice.spdm ++ [(port, i.2, ans)] } }))

/-- The events of partitions, resets and bring-up (R385, R392, R393, R407, R410, R412, R420 to R429).
Model's choices: log 25, 41, 42, 43. -/
def Obligations.ResetEvents : Prop := actionEvents ∧ resetEvents ∧ bringup

/-! ### Rules stated whole -/

/-- R104, whole. SCLR clears the slots n to n + cnt − 1, with n in IMM8[4:0] and cnt − 1 in IMM8[7:5]: each is 0 with its presence
bit clear, and no other slot changes; a receive slot not yet recorded in the region is recorded with its old value and presence
(R18), where the region buffer has no room for the records the region commits first (R97). n + cnt > 32 raises ILL detail 0x02; IMMX and
DST raise PFX detail 0x03; 0x4D69 is `sclr m9, #4`. -/
def Obligations.SlotsCleared : Prop :=
  decode [0x4D69] = .ok (.sclr [] 0x69, []) ∧ (0x69#8).toNat % 32 = 9 ∧ (0x69#8).toNat / 32 + 1 = 4 ∧
  ∀ (px : List Prefix) (imm : BitVec 8) (s : State) (v : BitVec 10) (d : BitVec 5),
    let n := imm.toNat % 32
    let cnt := imm.toNat / 32 + 1
    let hit := fun (k : BitVec 5) => n ≤ k.toNat ∧ k.toNat < n + cnt
    let faults := fun (q : List Prefix) (c e : BitVec 8) => ∃ p i, (Instr.sclr q imm).parts = some p ∧
      exec (.sclr q imm) s = .next (s.boundary.takeFault (s.boundary.site p) ⟨c, e, some i, 0, 0, 0⟩)
    let cleared := fun (b c : Core) => (∀ k, hit k → c.r.slot k = 0 ∧ c.r.pres.getLsbD k.toNat = false) ∧
      (∀ k, ¬ hit k → c.r.slot k = b.r.slot k ∧ c.r.pres.getLsbD k.toNat = b.r.pres.getLsbD k.toNat) ∧
      (∀ e ∈ b.rsave, e ∈ c.rsave) ∧
      (∀ k, hit k → 24 ≤ k.toNat → (∀ e ∈ b.rsave, e.n ≠ k) → ⟨k, b.r.slot k, b.r.pres.getLsbD k.toNat⟩ ∈ c.rsave) ∧
      { c with r := b.r, rsave := b.rsave } = b ∧ { c.r with m := b.r.m, pres := b.r.pres } = b.r
    let records := fun (b : Core) => (List.range cnt).filter fun k => decide (24 ≤ n + k) && !(b.rsave.any fun e => e.n.toNat == n + k)
    let unhindered := s.landDue.boundaryDue = true → s.landDue.commitBlock = none
    let w := work (.sclr px imm) s
    let room := records w.core = [] ∨ w.core.persUsed + (records w.core).length ≤ 512
    let fresh := s.boundary.commit.tickLong
    (Clean (.sclr px imm) s → room → ∃ c : Core,
      exec (.sclr px imm) s = .next (done (.sclr px imm) s { w with core := c }) ∧ cleared w.core c) ∧
    (Clean (.sclr px imm) s → ¬ room → s.boundary.commitBlock = none → ∃ c : Core,
      exec (.sclr px imm) s = .next ((({ fresh with core := c } : State)).retire s.boundary.commit (Instr.sclr px imm).bytes) ∧
        cleared fresh.core c) ∧
    (unhindered → 32 < n + cnt → faults px 0x01 0x02) ∧
    (unhindered → n + cnt ≤ 32 → faults [.immx v] 0x02 0x03 ∧ faults [.dst (0#1 ++ d) 0] 0x02 0x03)

/-- R108, whole. FCLASS writes a value with exactly one bit set to its destination, by the class of the operand in the instruction's
format: its sign, its exponent field (all ones, zero or between) and its fraction, whose top bit tells a quiet NaN. -/
def Obligations.FclassValue : Prop :=
  (∀ f ∈ [f64, f32, f16, bf16], ∀ x, x < 2 ^ f.bits →
    let neg := 2 ^ (f.bits - 1) ≤ x
    let e := x / 2 ^ f.mb % 2 ^ (f.bits - 1 - f.mb)
    let m := x % 2 ^ f.mb
    let top := 2 ^ (f.bits - 1 - f.mb) - 1
    fClass f x = 2 ^ (
      if e = top then (if m = 0 then (if neg then 0 else 7) else if m < 2 ^ (f.mb - 1) then 8 else 9)
      else if e = 0 then (if m = 0 then (if neg then 3 else 4) else if neg then 2 else 5)
      else if neg then 1 else 6)) ∧
  ∀ (px : List Prefix) (sp : BitVec 6) (t : BitVec 2) (s u : State) (src : Word), Clean (.fclass px sp t) s →
    let w := work (.fclass px sp t) s
    w.readOp (ctxFp px sp (fmtOf t).bytes) sp = .ok src → fpResult w px sp (fmtOf t).bytes (fClass (fmtOf t) (src.toNat % 2 ^ (fmtOf t).bits)) = .ok u →
    exec (.fclass px sp t) s = .next (done (.fclass px sp t) s (u.post w (stepsSD px sp)))

/-- The place of a value that is no NaN in the order of R89, by its bits: −0 is just below +0. -/
def Sys2Proof.Claims.place (f : Fmt) (x : Nat) : Int :=
  if 2 ^ (f.bits - 1) ≤ x then -((x - 2 ^ (f.bits - 1) : Nat) : Int) - 1 else x

/-- R107, whole. FCMP compares X, which is A or DST's operand, with src, both in the instruction's format, by the order of R89: Z, N, C,
V are 1000 where they are equal, 0110 where X is less, 0000 where it is greater, 0001 where either is a NaN; IV is raised only for
a signalling NaN. -/
def Obligations.FcmpOrder : Prop :=
  (∀ f ∈ [f64, f32, f16, bf16], ∀ x y, x < 2 ^ f.bits → y < 2 ^ f.bits →
    let nan := fun v => v / 2 ^ f.mb % 2 ^ (f.bits - 1 - f.mb) = 2 ^ (f.bits - 1 - f.mb) - 1 ∧ v % 2 ^ f.mb ≠ 0
    ((f.decode x).isNan = true ↔ nan x) ∧ ((f.decode x).isSnan = true ↔ nan x ∧ x % 2 ^ f.mb < 2 ^ (f.mb - 1)) ∧
    (nan x ∨ nan y → fCompare f x y = .un) ∧
    (¬ nan x → ¬ nan y → (fCompare f x y = .eq ↔ place f x = place f y) ∧ (fCompare f x y = .lt ↔ place f x < place f y) ∧
      (fCompare f x y = .gt ↔ place f y < place f x))) ∧
  ∀ (px : List Prefix) (sp : BitVec 6) (t : BitVec 2) (s : State) (src x : Word), Clean (.fcmp px sp t) s →
    let f := fmtOf t
    let w := work (.fcmp px sp t) s
    let lo := fun (v : Word) => v.toNat % 2 ^ f.bits
    w.readOp (ctxFp px sp f.bytes) sp = .ok src →
    (match dstOf px with | none => Except.ok w.core.r.a | some q => w.readOp (ctxFpD px sp q.1 f.bytes) q.1) = .ok x →
    let z := match fCompare f (lo x) (lo src) with | .eq => 0b1000#4 | .lt => 0b0110 | .gt => 0b0000 | .un => 0b0001
    exec (.fcmp px sp t) s = .next (done (.fcmp px sp t) s (((w.setZncv 15 z).orSticky
      (flagIf ((f.decode (lo x)).isSnan || (f.decode (lo src)).isSnan) fIV)).post w (stepsSD px sp)))
end

