-- ==== Sys2Proof/Laws/State.lean ====
section
/-! SUPPORT. What each named update of State leaves and gives, field by field, so that no proof unfolds a record update:
`State.<update>_<field>`. An update of the core in focus has one lemma for the core it gives and one for every other
field; its core's own fields follow from that lemma by projection. -/

namespace Sys2Proof.Machine

/-! ### Updates of the core in focus -/

@[simp] theorem State.setA_core (s : State) (v : Word) : (s.setA v).core = { s.core with r := { s.core.r with a := v } } := rfl
@[simp] theorem State.setA_focus (s : State) (v : Word) : (s.setA v).focus = s.focus := rfl
@[simp] theorem State.setA_others (s : State) (v : Word) : (s.setA v).others = s.others := rfl
@[simp] theorem State.setA_agenda (s : State) (v : Word) : (s.setA v).agenda = s.agenda := rfl
@[simp] theorem State.setA_now (s : State) (v : Word) : (s.setA v).now = s.now := rfl
@[simp] theorem State.setA_moved (s : State) (v : Word) : (s.setA v).moved = s.moved := rfl
@[simp] theorem State.setA_deposited (s : State) (v : Word) : (s.setA v).deposited = s.deposited := rfl
@[simp] theorem State.setA_dieBase (s : State) (v : Word) : (s.setA v).dieBase = s.dieBase := rfl
@[simp] theorem State.setA_freeCtr (s : State) (v : Word) : (s.setA v).freeCtr = s.freeCtr := rfl
@[simp] theorem State.setA_mem (s : State) (v : Word) : (s.setA v).mem = s.mem := rfl
@[simp] theorem State.setA_home (s : State) (v : Word) : (s.setA v).home = s.home := rfl
@[simp] theorem State.setA_poison (s : State) (v : Word) : (s.setA v).poison = s.poison := rfl
@[simp] theorem State.setA_spad (s : State) (v : Word) : (s.setA v).spad = s.spad := rfl
@[simp] theorem State.setA_badStore (s : State) (v : Word) : (s.setA v).badStore = s.badStore := rfl
@[simp] theorem State.setA_lstore (s : State) (v : Word) : (s.setA v).lstore = s.lstore := rfl
@[simp] theorem State.setA_clusters (s : State) (v : Word) : (s.setA v).clusters = s.clusters := rfl
@[simp] theorem State.setA_dcaches (s : State) (v : Word) : (s.setA v).dcaches = s.dcaches := rfl
@[simp] theorem State.setA_parts (s : State) (v : Word) : (s.setA v).parts = s.parts := rfl
@[simp] theorem State.setA_tilePart (s : State) (v : Word) : (s.setA v).tilePart = s.tilePart := rfl
@[simp] theorem State.setA_stlb (s : State) (v : Word) : (s.setA v).stlb = s.stlb := rfl
@[simp] theorem State.setA_wcache (s : State) (v : Word) : (s.setA v).wcache = s.wcache := rfl
@[simp] theorem State.setA_btlb (s : State) (v : Word) : (s.setA v).btlb = s.btlb := rfl
@[simp] theorem State.setA_wire (s : State) (v : Word) : (s.setA v).wire = s.wire := rfl
@[simp] theorem State.setA_counts (s : State) (v : Word) : (s.setA v).counts = s.counts := rfl
@[simp] theorem State.setA_acks (s : State) (v : Word) : (s.setA v).acks = s.acks := rfl
@[simp] theorem State.setA_forms (s : State) (v : Word) : (s.setA v).forms = s.forms := rfl
@[simp] theorem State.setA_launches (s : State) (v : Word) : (s.setA v).launches = s.launches := rfl
@[simp] theorem State.setA_nextLaunch (s : State) (v : Word) : (s.setA v).nextLaunch = s.nextLaunch := rfl
@[simp] theorem State.setA_bulks (s : State) (v : Word) : (s.setA v).bulks = s.bulks := rfl
@[simp] theorem State.setA_tickets (s : State) (v : Word) : (s.setA v).tickets = s.tickets := rfl
@[simp] theorem State.setA_dir (s : State) (v : Word) : (s.setA v).dir = s.dir := rfl
@[simp] theorem State.setA_tiles (s : State) (v : Word) : (s.setA v).tiles = s.tiles := rfl
@[simp] theorem State.setA_l2 (s : State) (v : Word) : (s.setA v).l2 = s.l2 := rfl
@[simp] theorem State.setA_snoops (s : State) (v : Word) : (s.setA v).snoops = s.snoops := rfl
@[simp] theorem State.setA_lineOps (s : State) (v : Word) : (s.setA v).lineOps = s.lineOps := rfl
@[simp] theorem State.setA_net (s : State) (v : Word) : (s.setA v).net = s.net := rfl
@[simp] theorem State.setA_zones (s : State) (v : Word) : (s.setA v).zones = s.zones := rfl
@[simp] theorem State.setA_sluice (s : State) (v : Word) : (s.setA v).sluice = s.sluice := rfl
@[simp] theorem State.setA_spills (s : State) (v : Word) : (s.setA v).spills = s.spills := rfl
@[simp] theorem State.setA_expanders (s : State) (v : Word) : (s.setA v).expanders = s.expanders := rfl
@[simp] theorem State.setA_peers (s : State) (v : Word) : (s.setA v).peers = s.peers := rfl
@[simp] theorem State.setA_ports (s : State) (v : Word) : (s.setA v).ports = s.ports := rfl
@[simp] theorem State.setA_stage (s : State) (v : Word) : (s.setA v).stage = s.stage := rfl

@[simp] theorem State.setZncv_core (s : State) (m v : BitVec 4) : (s.setZncv m v).core = { s.core with r := { s.core.r with flg := flgZncv s.core.r.flg m v } } := rfl
@[simp] theorem State.setZncv_focus (s : State) (m v : BitVec 4) : (s.setZncv m v).focus = s.focus := rfl
@[simp] theorem State.setZncv_others (s : State) (m v : BitVec 4) : (s.setZncv m v).others = s.others := rfl
@[simp] theorem State.setZncv_agenda (s : State) (m v : BitVec 4) : (s.setZncv m v).agenda = s.agenda := rfl
@[simp] theorem State.setZncv_now (s : State) (m v : BitVec 4) : (s.setZncv m v).now = s.now := rfl
@[simp] theorem State.setZncv_moved (s : State) (m v : BitVec 4) : (s.setZncv m v).moved = s.moved := rfl
@[simp] theorem State.setZncv_deposited (s : State) (m v : BitVec 4) : (s.setZncv m v).deposited = s.deposited := rfl
@[simp] theorem State.setZncv_dieBase (s : State) (m v : BitVec 4) : (s.setZncv m v).dieBase = s.dieBase := rfl
@[simp] theorem State.setZncv_freeCtr (s : State) (m v : BitVec 4) : (s.setZncv m v).freeCtr = s.freeCtr := rfl
@[simp] theorem State.setZncv_mem (s : State) (m v : BitVec 4) : (s.setZncv m v).mem = s.mem := rfl
@[simp] theorem State.setZncv_home (s : State) (m v : BitVec 4) : (s.setZncv m v).home = s.home := rfl
@[simp] theorem State.setZncv_poison (s : State) (m v : BitVec 4) : (s.setZncv m v).poison = s.poison := rfl
@[simp] theorem State.setZncv_spad (s : State) (m v : BitVec 4) : (s.setZncv m v).spad = s.spad := rfl
@[simp] theorem State.setZncv_badStore (s : State) (m v : BitVec 4) : (s.setZncv m v).badStore = s.badStore := rfl
@[simp] theorem State.setZncv_lstore (s : State) (m v : BitVec 4) : (s.setZncv m v).lstore = s.lstore := rfl
@[simp] theorem State.setZncv_clusters (s : State) (m v : BitVec 4) : (s.setZncv m v).clusters = s.clusters := rfl
@[simp] theorem State.setZncv_dcaches (s : State) (m v : BitVec 4) : (s.setZncv m v).dcaches = s.dcaches := rfl
@[simp] theorem State.setZncv_parts (s : State) (m v : BitVec 4) : (s.setZncv m v).parts = s.parts := rfl
@[simp] theorem State.setZncv_tilePart (s : State) (m v : BitVec 4) : (s.setZncv m v).tilePart = s.tilePart := rfl
@[simp] theorem State.setZncv_stlb (s : State) (m v : BitVec 4) : (s.setZncv m v).stlb = s.stlb := rfl
@[simp] theorem State.setZncv_wcache (s : State) (m v : BitVec 4) : (s.setZncv m v).wcache = s.wcache := rfl
@[simp] theorem State.setZncv_btlb (s : State) (m v : BitVec 4) : (s.setZncv m v).btlb = s.btlb := rfl
@[simp] theorem State.setZncv_wire (s : State) (m v : BitVec 4) : (s.setZncv m v).wire = s.wire := rfl
@[simp] theorem State.setZncv_counts (s : State) (m v : BitVec 4) : (s.setZncv m v).counts = s.counts := rfl
@[simp] theorem State.setZncv_acks (s : State) (m v : BitVec 4) : (s.setZncv m v).acks = s.acks := rfl
@[simp] theorem State.setZncv_forms (s : State) (m v : BitVec 4) : (s.setZncv m v).forms = s.forms := rfl
@[simp] theorem State.setZncv_launches (s : State) (m v : BitVec 4) : (s.setZncv m v).launches = s.launches := rfl
@[simp] theorem State.setZncv_nextLaunch (s : State) (m v : BitVec 4) : (s.setZncv m v).nextLaunch = s.nextLaunch := rfl
@[simp] theorem State.setZncv_bulks (s : State) (m v : BitVec 4) : (s.setZncv m v).bulks = s.bulks := rfl
@[simp] theorem State.setZncv_tickets (s : State) (m v : BitVec 4) : (s.setZncv m v).tickets = s.tickets := rfl
@[simp] theorem State.setZncv_dir (s : State) (m v : BitVec 4) : (s.setZncv m v).dir = s.dir := rfl
@[simp] theorem State.setZncv_tiles (s : State) (m v : BitVec 4) : (s.setZncv m v).tiles = s.tiles := rfl
@[simp] theorem State.setZncv_l2 (s : State) (m v : BitVec 4) : (s.setZncv m v).l2 = s.l2 := rfl
@[simp] theorem State.setZncv_snoops (s : State) (m v : BitVec 4) : (s.setZncv m v).snoops = s.snoops := rfl
@[simp] theorem State.setZncv_lineOps (s : State) (m v : BitVec 4) : (s.setZncv m v).lineOps = s.lineOps := rfl
@[simp] theorem State.setZncv_net (s : State) (m v : BitVec 4) : (s.setZncv m v).net = s.net := rfl
@[simp] theorem State.setZncv_zones (s : State) (m v : BitVec 4) : (s.setZncv m v).zones = s.zones := rfl
@[simp] theorem State.setZncv_sluice (s : State) (m v : BitVec 4) : (s.setZncv m v).sluice = s.sluice := rfl
@[simp] theorem State.setZncv_spills (s : State) (m v : BitVec 4) : (s.setZncv m v).spills = s.spills := rfl
@[simp] theorem State.setZncv_expanders (s : State) (m v : BitVec 4) : (s.setZncv m v).expanders = s.expanders := rfl
@[simp] theorem State.setZncv_peers (s : State) (m v : BitVec 4) : (s.setZncv m v).peers = s.peers := rfl
@[simp] theorem State.setZncv_ports (s : State) (m v : BitVec 4) : (s.setZncv m v).ports = s.ports := rfl
@[simp] theorem State.setZncv_stage (s : State) (m v : BitVec 4) : (s.setZncv m v).stage = s.stage := rfl

@[simp] theorem State.orSticky_core (s : State) (x : BitVec 5) : (s.orSticky x).core = { s.core with r := { s.core.r with flg := flgSticky s.core.r.flg x } } := rfl
@[simp] theorem State.orSticky_focus (s : State) (x : BitVec 5) : (s.orSticky x).focus = s.focus := rfl
@[simp] theorem State.orSticky_others (s : State) (x : BitVec 5) : (s.orSticky x).others = s.others := rfl
@[simp] theorem State.orSticky_agenda (s : State) (x : BitVec 5) : (s.orSticky x).agenda = s.agenda := rfl
@[simp] theorem State.orSticky_now (s : State) (x : BitVec 5) : (s.orSticky x).now = s.now := rfl
@[simp] theorem State.orSticky_moved (s : State) (x : BitVec 5) : (s.orSticky x).moved = s.moved := rfl
@[simp] theorem State.orSticky_deposited (s : State) (x : BitVec 5) : (s.orSticky x).deposited = s.deposited := rfl
@[simp] theorem State.orSticky_dieBase (s : State) (x : BitVec 5) : (s.orSticky x).dieBase = s.dieBase := rfl
@[simp] theorem State.orSticky_freeCtr (s : State) (x : BitVec 5) : (s.orSticky x).freeCtr = s.freeCtr := rfl
@[simp] theorem State.orSticky_mem (s : State) (x : BitVec 5) : (s.orSticky x).mem = s.mem := rfl
@[simp] theorem State.orSticky_home (s : State) (x : BitVec 5) : (s.orSticky x).home = s.home := rfl
@[simp] theorem State.orSticky_poison (s : State) (x : BitVec 5) : (s.orSticky x).poison = s.poison := rfl
@[simp] theorem State.orSticky_spad (s : State) (x : BitVec 5) : (s.orSticky x).spad = s.spad := rfl
@[simp] theorem State.orSticky_badStore (s : State) (x : BitVec 5) : (s.orSticky x).badStore = s.badStore := rfl
@[simp] theorem State.orSticky_lstore (s : State) (x : BitVec 5) : (s.orSticky x).lstore = s.lstore := rfl
@[simp] theorem State.orSticky_clusters (s : State) (x : BitVec 5) : (s.orSticky x).clusters = s.clusters := rfl
@[simp] theorem State.orSticky_dcaches (s : State) (x : BitVec 5) : (s.orSticky x).dcaches = s.dcaches := rfl
@[simp] theorem State.orSticky_parts (s : State) (x : BitVec 5) : (s.orSticky x).parts = s.parts := rfl
@[simp] theorem State.orSticky_tilePart (s : State) (x : BitVec 5) : (s.orSticky x).tilePart = s.tilePart := rfl
@[simp] theorem State.orSticky_stlb (s : State) (x : BitVec 5) : (s.orSticky x).stlb = s.stlb := rfl
@[simp] theorem State.orSticky_wcache (s : State) (x : BitVec 5) : (s.orSticky x).wcache = s.wcache := rfl
@[simp] theorem State.orSticky_btlb (s : State) (x : BitVec 5) : (s.orSticky x).btlb = s.btlb := rfl
@[simp] theorem State.orSticky_wire (s : State) (x : BitVec 5) : (s.orSticky x).wire = s.wire := rfl
@[simp] theorem State.orSticky_counts (s : State) (x : BitVec 5) : (s.orSticky x).counts = s.counts := rfl
@[simp] theorem State.orSticky_acks (s : State) (x : BitVec 5) : (s.orSticky x).acks = s.acks := rfl
@[simp] theorem State.orSticky_forms (s : State) (x : BitVec 5) : (s.orSticky x).forms = s.forms := rfl
@[simp] theorem State.orSticky_launches (s : State) (x : BitVec 5) : (s.orSticky x).launches = s.launches := rfl
@[simp] theorem State.orSticky_nextLaunch (s : State) (x : BitVec 5) : (s.orSticky x).nextLaunch = s.nextLaunch := rfl
@[simp] theorem State.orSticky_bulks (s : State) (x : BitVec 5) : (s.orSticky x).bulks = s.bulks := rfl
@[simp] theorem State.orSticky_tickets (s : State) (x : BitVec 5) : (s.orSticky x).tickets = s.tickets := rfl
@[simp] theorem State.orSticky_dir (s : State) (x : BitVec 5) : (s.orSticky x).dir = s.dir := rfl
@[simp] theorem State.orSticky_tiles (s : State) (x : BitVec 5) : (s.orSticky x).tiles = s.tiles := rfl
@[simp] theorem State.orSticky_l2 (s : State) (x : BitVec 5) : (s.orSticky x).l2 = s.l2 := rfl
@[simp] theorem State.orSticky_snoops (s : State) (x : BitVec 5) : (s.orSticky x).snoops = s.snoops := rfl
@[simp] theorem State.orSticky_lineOps (s : State) (x : BitVec 5) : (s.orSticky x).lineOps = s.lineOps := rfl
@[simp] theorem State.orSticky_net (s : State) (x : BitVec 5) : (s.orSticky x).net = s.net := rfl
@[simp] theorem State.orSticky_zones (s : State) (x : BitVec 5) : (s.orSticky x).zones = s.zones := rfl
@[simp] theorem State.orSticky_sluice (s : State) (x : BitVec 5) : (s.orSticky x).sluice = s.sluice := rfl
@[simp] theorem State.orSticky_spills (s : State) (x : BitVec 5) : (s.orSticky x).spills = s.spills := rfl
@[simp] theorem State.orSticky_expanders (s : State) (x : BitVec 5) : (s.orSticky x).expanders = s.expanders := rfl
@[simp] theorem State.orSticky_peers (s : State) (x : BitVec 5) : (s.orSticky x).peers = s.peers := rfl
@[simp] theorem State.orSticky_ports (s : State) (x : BitVec 5) : (s.orSticky x).ports = s.ports := rfl
@[simp] theorem State.orSticky_stage (s : State) (x : BitVec 5) : (s.orSticky x).stage = s.stage := rfl

@[simp] theorem State.setPtr_core (s : State) (n : BitVec 3) (v : Word) : (s.setPtr n v).core = { s.core with r := { s.core.r with p := s.core.r.p.set n.toNat v n.isLt } } := rfl
@[simp] theorem State.setPtr_focus (s : State) (n : BitVec 3) (v : Word) : (s.setPtr n v).focus = s.focus := rfl
@[simp] theorem State.setPtr_others (s : State) (n : BitVec 3) (v : Word) : (s.setPtr n v).others = s.others := rfl
@[simp] theorem State.setPtr_agenda (s : State) (n : BitVec 3) (v : Word) : (s.setPtr n v).agenda = s.agenda := rfl
@[simp] theorem State.setPtr_now (s : State) (n : BitVec 3) (v : Word) : (s.setPtr n v).now = s.now := rfl
@[simp] theorem State.setPtr_moved (s : State) (n : BitVec 3) (v : Word) : (s.setPtr n v).moved = s.moved := rfl
@[simp] theorem State.setPtr_deposited (s : State) (n : BitVec 3) (v : Word) : (s.setPtr n v).deposited = s.deposited := rfl
@[simp] theorem State.setPtr_dieBase (s : State) (n : BitVec 3) (v : Word) : (s.setPtr n v).dieBase = s.dieBase := rfl
@[simp] theorem State.setPtr_freeCtr (s : State) (n : BitVec 3) (v : Word) : (s.setPtr n v).freeCtr = s.freeCtr := rfl
@[simp] theorem State.setPtr_mem (s : State) (n : BitVec 3) (v : Word) : (s.setPtr n v).mem = s.mem := rfl
@[simp] theorem State.setPtr_home (s : State) (n : BitVec 3) (v : Word) : (s.setPtr n v).home = s.home := rfl
@[simp] theorem State.setPtr_poison (s : State) (n : BitVec 3) (v : Word) : (s.setPtr n v).poison = s.poison := rfl
@[simp] theorem State.setPtr_spad (s : State) (n : BitVec 3) (v : Word) : (s.setPtr n v).spad = s.spad := rfl
@[simp] theorem State.setPtr_badStore (s : State) (n : BitVec 3) (v : Word) : (s.setPtr n v).badStore = s.badStore := rfl
@[simp] theorem State.setPtr_lstore (s : State) (n : BitVec 3) (v : Word) : (s.setPtr n v).lstore = s.lstore := rfl
@[simp] theorem State.setPtr_clusters (s : State) (n : BitVec 3) (v : Word) : (s.setPtr n v).clusters = s.clusters := rfl
@[simp] theorem State.setPtr_dcaches (s : State) (n : BitVec 3) (v : Word) : (s.setPtr n v).dcaches = s.dcaches := rfl
@[simp] theorem State.setPtr_parts (s : State) (n : BitVec 3) (v : Word) : (s.setPtr n v).parts = s.parts := rfl
@[simp] theorem State.setPtr_tilePart (s : State) (n : BitVec 3) (v : Word) : (s.setPtr n v).tilePart = s.tilePart := rfl
@[simp] theorem State.setPtr_stlb (s : State) (n : BitVec 3) (v : Word) : (s.setPtr n v).stlb = s.stlb := rfl
@[simp] theorem State.setPtr_wcache (s : State) (n : BitVec 3) (v : Word) : (s.setPtr n v).wcache = s.wcache := rfl
@[simp] theorem State.setPtr_btlb (s : State) (n : BitVec 3) (v : Word) : (s.setPtr n v).btlb = s.btlb := rfl
@[simp] theorem State.setPtr_wire (s : State) (n : BitVec 3) (v : Word) : (s.setPtr n v).wire = s.wire := rfl
@[simp] theorem State.setPtr_counts (s : State) (n : BitVec 3) (v : Word) : (s.setPtr n v).counts = s.counts := rfl
@[simp] theorem State.setPtr_acks (s : State) (n : BitVec 3) (v : Word) : (s.setPtr n v).acks = s.acks := rfl
@[simp] theorem State.setPtr_forms (s : State) (n : BitVec 3) (v : Word) : (s.setPtr n v).forms = s.forms := rfl
@[simp] theorem State.setPtr_launches (s : State) (n : BitVec 3) (v : Word) : (s.setPtr n v).launches = s.launches := rfl
@[simp] theorem State.setPtr_nextLaunch (s : State) (n : BitVec 3) (v : Word) : (s.setPtr n v).nextLaunch = s.nextLaunch := rfl
@[simp] theorem State.setPtr_bulks (s : State) (n : BitVec 3) (v : Word) : (s.setPtr n v).bulks = s.bulks := rfl
@[simp] theorem State.setPtr_tickets (s : State) (n : BitVec 3) (v : Word) : (s.setPtr n v).tickets = s.tickets := rfl
@[simp] theorem State.setPtr_dir (s : State) (n : BitVec 3) (v : Word) : (s.setPtr n v).dir = s.dir := rfl
@[simp] theorem State.setPtr_tiles (s : State) (n : BitVec 3) (v : Word) : (s.setPtr n v).tiles = s.tiles := rfl
@[simp] theorem State.setPtr_l2 (s : State) (n : BitVec 3) (v : Word) : (s.setPtr n v).l2 = s.l2 := rfl
@[simp] theorem State.setPtr_snoops (s : State) (n : BitVec 3) (v : Word) : (s.setPtr n v).snoops = s.snoops := rfl
@[simp] theorem State.setPtr_lineOps (s : State) (n : BitVec 3) (v : Word) : (s.setPtr n v).lineOps = s.lineOps := rfl
@[simp] theorem State.setPtr_net (s : State) (n : BitVec 3) (v : Word) : (s.setPtr n v).net = s.net := rfl
@[simp] theorem State.setPtr_zones (s : State) (n : BitVec 3) (v : Word) : (s.setPtr n v).zones = s.zones := rfl
@[simp] theorem State.setPtr_sluice (s : State) (n : BitVec 3) (v : Word) : (s.setPtr n v).sluice = s.sluice := rfl
@[simp] theorem State.setPtr_spills (s : State) (n : BitVec 3) (v : Word) : (s.setPtr n v).spills = s.spills := rfl
@[simp] theorem State.setPtr_expanders (s : State) (n : BitVec 3) (v : Word) : (s.setPtr n v).expanders = s.expanders := rfl
@[simp] theorem State.setPtr_peers (s : State) (n : BitVec 3) (v : Word) : (s.setPtr n v).peers = s.peers := rfl
@[simp] theorem State.setPtr_ports (s : State) (n : BitVec 3) (v : Word) : (s.setPtr n v).ports = s.ports := rfl
@[simp] theorem State.setPtr_stage (s : State) (n : BitVec 3) (v : Word) : (s.setPtr n v).stage = s.stage := rfl

@[simp] theorem State.setMask_core (s : State) (n : BitVec 2) (v : Word) : (s.setMask n v).core = { s.core with r := { s.core.r with k := s.core.r.k.set n.toNat v n.isLt } } := rfl
@[simp] theorem State.setMask_focus (s : State) (n : BitVec 2) (v : Word) : (s.setMask n v).focus = s.focus := rfl
@[simp] theorem State.setMask_others (s : State) (n : BitVec 2) (v : Word) : (s.setMask n v).others = s.others := rfl
@[simp] theorem State.setMask_agenda (s : State) (n : BitVec 2) (v : Word) : (s.setMask n v).agenda = s.agenda := rfl
@[simp] theorem State.setMask_now (s : State) (n : BitVec 2) (v : Word) : (s.setMask n v).now = s.now := rfl
@[simp] theorem State.setMask_moved (s : State) (n : BitVec 2) (v : Word) : (s.setMask n v).moved = s.moved := rfl
@[simp] theorem State.setMask_deposited (s : State) (n : BitVec 2) (v : Word) : (s.setMask n v).deposited = s.deposited := rfl
@[simp] theorem State.setMask_dieBase (s : State) (n : BitVec 2) (v : Word) : (s.setMask n v).dieBase = s.dieBase := rfl
@[simp] theorem State.setMask_freeCtr (s : State) (n : BitVec 2) (v : Word) : (s.setMask n v).freeCtr = s.freeCtr := rfl
@[simp] theorem State.setMask_mem (s : State) (n : BitVec 2) (v : Word) : (s.setMask n v).mem = s.mem := rfl
@[simp] theorem State.setMask_home (s : State) (n : BitVec 2) (v : Word) : (s.setMask n v).home = s.home := rfl
@[simp] theorem State.setMask_poison (s : State) (n : BitVec 2) (v : Word) : (s.setMask n v).poison = s.poison := rfl
@[simp] theorem State.setMask_spad (s : State) (n : BitVec 2) (v : Word) : (s.setMask n v).spad = s.spad := rfl
@[simp] theorem State.setMask_badStore (s : State) (n : BitVec 2) (v : Word) : (s.setMask n v).badStore = s.badStore := rfl
@[simp] theorem State.setMask_lstore (s : State) (n : BitVec 2) (v : Word) : (s.setMask n v).lstore = s.lstore := rfl
@[simp] theorem State.setMask_clusters (s : State) (n : BitVec 2) (v : Word) : (s.setMask n v).clusters = s.clusters := rfl
@[simp] theorem State.setMask_dcaches (s : State) (n : BitVec 2) (v : Word) : (s.setMask n v).dcaches = s.dcaches := rfl
@[simp] theorem State.setMask_parts (s : State) (n : BitVec 2) (v : Word) : (s.setMask n v).parts = s.parts := rfl
@[simp] theorem State.setMask_tilePart (s : State) (n : BitVec 2) (v : Word) : (s.setMask n v).tilePart = s.tilePart := rfl
@[simp] theorem State.setMask_stlb (s : State) (n : BitVec 2) (v : Word) : (s.setMask n v).stlb = s.stlb := rfl
@[simp] theorem State.setMask_wcache (s : State) (n : BitVec 2) (v : Word) : (s.setMask n v).wcache = s.wcache := rfl
@[simp] theorem State.setMask_btlb (s : State) (n : BitVec 2) (v : Word) : (s.setMask n v).btlb = s.btlb := rfl
@[simp] theorem State.setMask_wire (s : State) (n : BitVec 2) (v : Word) : (s.setMask n v).wire = s.wire := rfl
@[simp] theorem State.setMask_counts (s : State) (n : BitVec 2) (v : Word) : (s.setMask n v).counts = s.counts := rfl
@[simp] theorem State.setMask_acks (s : State) (n : BitVec 2) (v : Word) : (s.setMask n v).acks = s.acks := rfl
@[simp] theorem State.setMask_forms (s : State) (n : BitVec 2) (v : Word) : (s.setMask n v).forms = s.forms := rfl
@[simp] theorem State.setMask_launches (s : State) (n : BitVec 2) (v : Word) : (s.setMask n v).launches = s.launches := rfl
@[simp] theorem State.setMask_nextLaunch (s : State) (n : BitVec 2) (v : Word) : (s.setMask n v).nextLaunch = s.nextLaunch := rfl
@[simp] theorem State.setMask_bulks (s : State) (n : BitVec 2) (v : Word) : (s.setMask n v).bulks = s.bulks := rfl
@[simp] theorem State.setMask_tickets (s : State) (n : BitVec 2) (v : Word) : (s.setMask n v).tickets = s.tickets := rfl
@[simp] theorem State.setMask_dir (s : State) (n : BitVec 2) (v : Word) : (s.setMask n v).dir = s.dir := rfl
@[simp] theorem State.setMask_tiles (s : State) (n : BitVec 2) (v : Word) : (s.setMask n v).tiles = s.tiles := rfl
@[simp] theorem State.setMask_l2 (s : State) (n : BitVec 2) (v : Word) : (s.setMask n v).l2 = s.l2 := rfl
@[simp] theorem State.setMask_snoops (s : State) (n : BitVec 2) (v : Word) : (s.setMask n v).snoops = s.snoops := rfl
@[simp] theorem State.setMask_lineOps (s : State) (n : BitVec 2) (v : Word) : (s.setMask n v).lineOps = s.lineOps := rfl
@[simp] theorem State.setMask_net (s : State) (n : BitVec 2) (v : Word) : (s.setMask n v).net = s.net := rfl
@[simp] theorem State.setMask_zones (s : State) (n : BitVec 2) (v : Word) : (s.setMask n v).zones = s.zones := rfl
@[simp] theorem State.setMask_sluice (s : State) (n : BitVec 2) (v : Word) : (s.setMask n v).sluice = s.sluice := rfl
@[simp] theorem State.setMask_spills (s : State) (n : BitVec 2) (v : Word) : (s.setMask n v).spills = s.spills := rfl
@[simp] theorem State.setMask_expanders (s : State) (n : BitVec 2) (v : Word) : (s.setMask n v).expanders = s.expanders := rfl
@[simp] theorem State.setMask_peers (s : State) (n : BitVec 2) (v : Word) : (s.setMask n v).peers = s.peers := rfl
@[simp] theorem State.setMask_ports (s : State) (n : BitVec 2) (v : Word) : (s.setMask n v).ports = s.ports := rfl
@[simp] theorem State.setMask_stage (s : State) (n : BitVec 2) (v : Word) : (s.setMask n v).stage = s.stage := rfl

@[simp] theorem State.setVec_core (s : State) (n : BitVec 2) (v : Nat) : (s.setVec n v).core = { s.core with r := { s.core.r with va := s.core.r.va.set n.toNat (BitVec.ofNat 512 v) n.isLt } } := rfl
@[simp] theorem State.setVec_focus (s : State) (n : BitVec 2) (v : Nat) : (s.setVec n v).focus = s.focus := rfl
@[simp] theorem State.setVec_others (s : State) (n : BitVec 2) (v : Nat) : (s.setVec n v).others = s.others := rfl
@[simp] theorem State.setVec_agenda (s : State) (n : BitVec 2) (v : Nat) : (s.setVec n v).agenda = s.agenda := rfl
@[simp] theorem State.setVec_now (s : State) (n : BitVec 2) (v : Nat) : (s.setVec n v).now = s.now := rfl
@[simp] theorem State.setVec_moved (s : State) (n : BitVec 2) (v : Nat) : (s.setVec n v).moved = s.moved := rfl
@[simp] theorem State.setVec_deposited (s : State) (n : BitVec 2) (v : Nat) : (s.setVec n v).deposited = s.deposited := rfl
@[simp] theorem State.setVec_dieBase (s : State) (n : BitVec 2) (v : Nat) : (s.setVec n v).dieBase = s.dieBase := rfl
@[simp] theorem State.setVec_freeCtr (s : State) (n : BitVec 2) (v : Nat) : (s.setVec n v).freeCtr = s.freeCtr := rfl
@[simp] theorem State.setVec_mem (s : State) (n : BitVec 2) (v : Nat) : (s.setVec n v).mem = s.mem := rfl
@[simp] theorem State.setVec_home (s : State) (n : BitVec 2) (v : Nat) : (s.setVec n v).home = s.home := rfl
@[simp] theorem State.setVec_poison (s : State) (n : BitVec 2) (v : Nat) : (s.setVec n v).poison = s.poison := rfl
@[simp] theorem State.setVec_spad (s : State) (n : BitVec 2) (v : Nat) : (s.setVec n v).spad = s.spad := rfl
@[simp] theorem State.setVec_badStore (s : State) (n : BitVec 2) (v : Nat) : (s.setVec n v).badStore = s.badStore := rfl
@[simp] theorem State.setVec_lstore (s : State) (n : BitVec 2) (v : Nat) : (s.setVec n v).lstore = s.lstore := rfl
@[simp] theorem State.setVec_clusters (s : State) (n : BitVec 2) (v : Nat) : (s.setVec n v).clusters = s.clusters := rfl
@[simp] theorem State.setVec_dcaches (s : State) (n : BitVec 2) (v : Nat) : (s.setVec n v).dcaches = s.dcaches := rfl
@[simp] theorem State.setVec_parts (s : State) (n : BitVec 2) (v : Nat) : (s.setVec n v).parts = s.parts := rfl
@[simp] theorem State.setVec_tilePart (s : State) (n : BitVec 2) (v : Nat) : (s.setVec n v).tilePart = s.tilePart := rfl
@[simp] theorem State.setVec_stlb (s : State) (n : BitVec 2) (v : Nat) : (s.setVec n v).stlb = s.stlb := rfl
@[simp] theorem State.setVec_wcache (s : State) (n : BitVec 2) (v : Nat) : (s.setVec n v).wcache = s.wcache := rfl
@[simp] theorem State.setVec_btlb (s : State) (n : BitVec 2) (v : Nat) : (s.setVec n v).btlb = s.btlb := rfl
@[simp] theorem State.setVec_wire (s : State) (n : BitVec 2) (v : Nat) : (s.setVec n v).wire = s.wire := rfl
@[simp] theorem State.setVec_counts (s : State) (n : BitVec 2) (v : Nat) : (s.setVec n v).counts = s.counts := rfl
@[simp] theorem State.setVec_acks (s : State) (n : BitVec 2) (v : Nat) : (s.setVec n v).acks = s.acks := rfl
@[simp] theorem State.setVec_forms (s : State) (n : BitVec 2) (v : Nat) : (s.setVec n v).forms = s.forms := rfl
@[simp] theorem State.setVec_launches (s : State) (n : BitVec 2) (v : Nat) : (s.setVec n v).launches = s.launches := rfl
@[simp] theorem State.setVec_nextLaunch (s : State) (n : BitVec 2) (v : Nat) : (s.setVec n v).nextLaunch = s.nextLaunch := rfl
@[simp] theorem State.setVec_bulks (s : State) (n : BitVec 2) (v : Nat) : (s.setVec n v).bulks = s.bulks := rfl
@[simp] theorem State.setVec_tickets (s : State) (n : BitVec 2) (v : Nat) : (s.setVec n v).tickets = s.tickets := rfl
@[simp] theorem State.setVec_dir (s : State) (n : BitVec 2) (v : Nat) : (s.setVec n v).dir = s.dir := rfl
@[simp] theorem State.setVec_tiles (s : State) (n : BitVec 2) (v : Nat) : (s.setVec n v).tiles = s.tiles := rfl
@[simp] theorem State.setVec_l2 (s : State) (n : BitVec 2) (v : Nat) : (s.setVec n v).l2 = s.l2 := rfl
@[simp] theorem State.setVec_snoops (s : State) (n : BitVec 2) (v : Nat) : (s.setVec n v).snoops = s.snoops := rfl
@[simp] theorem State.setVec_lineOps (s : State) (n : BitVec 2) (v : Nat) : (s.setVec n v).lineOps = s.lineOps := rfl
@[simp] theorem State.setVec_net (s : State) (n : BitVec 2) (v : Nat) : (s.setVec n v).net = s.net := rfl
@[simp] theorem State.setVec_zones (s : State) (n : BitVec 2) (v : Nat) : (s.setVec n v).zones = s.zones := rfl
@[simp] theorem State.setVec_sluice (s : State) (n : BitVec 2) (v : Nat) : (s.setVec n v).sluice = s.sluice := rfl
@[simp] theorem State.setVec_spills (s : State) (n : BitVec 2) (v : Nat) : (s.setVec n v).spills = s.spills := rfl
@[simp] theorem State.setVec_expanders (s : State) (n : BitVec 2) (v : Nat) : (s.setVec n v).expanders = s.expanders := rfl
@[simp] theorem State.setVec_peers (s : State) (n : BitVec 2) (v : Nat) : (s.setVec n v).peers = s.peers := rfl
@[simp] theorem State.setVec_ports (s : State) (n : BitVec 2) (v : Nat) : (s.setVec n v).ports = s.ports := rfl
@[simp] theorem State.setVec_stage (s : State) (n : BitVec 2) (v : Nat) : (s.setVec n v).stage = s.stage := rfl

@[simp] theorem State.post_core (s : State) (t : State) (l : List (BitVec 3)) : (s.post t l).core = { s.core with r := { s.core.r with p := applySteps t.core.r.p s.core.r.p l l } } := rfl
@[simp] theorem State.post_focus (s : State) (t : State) (l : List (BitVec 3)) : (s.post t l).focus = s.focus := rfl
@[simp] theorem State.post_others (s : State) (t : State) (l : List (BitVec 3)) : (s.post t l).others = s.others := rfl
@[simp] theorem State.post_agenda (s : State) (t : State) (l : List (BitVec 3)) : (s.post t l).agenda = s.agenda := rfl
@[simp] theorem State.post_now (s : State) (t : State) (l : List (BitVec 3)) : (s.post t l).now = s.now := rfl
@[simp] theorem State.post_moved (s : State) (t : State) (l : List (BitVec 3)) : (s.post t l).moved = s.moved := rfl
@[simp] theorem State.post_deposited (s : State) (t : State) (l : List (BitVec 3)) : (s.post t l).deposited = s.deposited := rfl
@[simp] theorem State.post_dieBase (s : State) (t : State) (l : List (BitVec 3)) : (s.post t l).dieBase = s.dieBase := rfl
@[simp] theorem State.post_freeCtr (s : State) (t : State) (l : List (BitVec 3)) : (s.post t l).freeCtr = s.freeCtr := rfl
@[simp] theorem State.post_mem (s : State) (t : State) (l : List (BitVec 3)) : (s.post t l).mem = s.mem := rfl
@[simp] theorem State.post_home (s : State) (t : State) (l : List (BitVec 3)) : (s.post t l).home = s.home := rfl
@[simp] theorem State.post_poison (s : State) (t : State) (l : List (BitVec 3)) : (s.post t l).poison = s.poison := rfl
@[simp] theorem State.post_spad (s : State) (t : State) (l : List (BitVec 3)) : (s.post t l).spad = s.spad := rfl
@[simp] theorem State.post_badStore (s : State) (t : State) (l : List (BitVec 3)) : (s.post t l).badStore = s.badStore := rfl
@[simp] theorem State.post_lstore (s : State) (t : State) (l : List (BitVec 3)) : (s.post t l).lstore = s.lstore := rfl
@[simp] theorem State.post_clusters (s : State) (t : State) (l : List (BitVec 3)) : (s.post t l).clusters = s.clusters := rfl
@[simp] theorem State.post_dcaches (s : State) (t : State) (l : List (BitVec 3)) : (s.post t l).dcaches = s.dcaches := rfl
@[simp] theorem State.post_parts (s : State) (t : State) (l : List (BitVec 3)) : (s.post t l).parts = s.parts := rfl
@[simp] theorem State.post_tilePart (s : State) (t : State) (l : List (BitVec 3)) : (s.post t l).tilePart = s.tilePart := rfl
@[simp] theorem State.post_stlb (s : State) (t : State) (l : List (BitVec 3)) : (s.post t l).stlb = s.stlb := rfl
@[simp] theorem State.post_wcache (s : State) (t : State) (l : List (BitVec 3)) : (s.post t l).wcache = s.wcache := rfl
@[simp] theorem State.post_btlb (s : State) (t : State) (l : List (BitVec 3)) : (s.post t l).btlb = s.btlb := rfl
@[simp] theorem State.post_wire (s : State) (t : State) (l : List (BitVec 3)) : (s.post t l).wire = s.wire := rfl
@[simp] theorem State.post_counts (s : State) (t : State) (l : List (BitVec 3)) : (s.post t l).counts = s.counts := rfl
@[simp] theorem State.post_acks (s : State) (t : State) (l : List (BitVec 3)) : (s.post t l).acks = s.acks := rfl
@[simp] theorem State.post_forms (s : State) (t : State) (l : List (BitVec 3)) : (s.post t l).forms = s.forms := rfl
@[simp] theorem State.post_launches (s : State) (t : State) (l : List (BitVec 3)) : (s.post t l).launches = s.launches := rfl
@[simp] theorem State.post_nextLaunch (s : State) (t : State) (l : List (BitVec 3)) : (s.post t l).nextLaunch = s.nextLaunch := rfl
@[simp] theorem State.post_bulks (s : State) (t : State) (l : List (BitVec 3)) : (s.post t l).bulks = s.bulks := rfl
@[simp] theorem State.post_tickets (s : State) (t : State) (l : List (BitVec 3)) : (s.post t l).tickets = s.tickets := rfl
@[simp] theorem State.post_dir (s : State) (t : State) (l : List (BitVec 3)) : (s.post t l).dir = s.dir := rfl
@[simp] theorem State.post_tiles (s : State) (t : State) (l : List (BitVec 3)) : (s.post t l).tiles = s.tiles := rfl
@[simp] theorem State.post_l2 (s : State) (t : State) (l : List (BitVec 3)) : (s.post t l).l2 = s.l2 := rfl
@[simp] theorem State.post_snoops (s : State) (t : State) (l : List (BitVec 3)) : (s.post t l).snoops = s.snoops := rfl
@[simp] theorem State.post_lineOps (s : State) (t : State) (l : List (BitVec 3)) : (s.post t l).lineOps = s.lineOps := rfl
@[simp] theorem State.post_net (s : State) (t : State) (l : List (BitVec 3)) : (s.post t l).net = s.net := rfl
@[simp] theorem State.post_zones (s : State) (t : State) (l : List (BitVec 3)) : (s.post t l).zones = s.zones := rfl
@[simp] theorem State.post_sluice (s : State) (t : State) (l : List (BitVec 3)) : (s.post t l).sluice = s.sluice := rfl
@[simp] theorem State.post_spills (s : State) (t : State) (l : List (BitVec 3)) : (s.post t l).spills = s.spills := rfl
@[simp] theorem State.post_expanders (s : State) (t : State) (l : List (BitVec 3)) : (s.post t l).expanders = s.expanders := rfl
@[simp] theorem State.post_peers (s : State) (t : State) (l : List (BitVec 3)) : (s.post t l).peers = s.peers := rfl
@[simp] theorem State.post_ports (s : State) (t : State) (l : List (BitVec 3)) : (s.post t l).ports = s.ports := rfl
@[simp] theorem State.post_stage (s : State) (t : State) (l : List (BitVec 3)) : (s.post t l).stage = s.stage := rfl

@[simp] theorem State.upd_core (s : State) (f : Core → Core) : (s.upd f).core = f s.core := rfl
@[simp] theorem State.upd_focus (s : State) (f : Core → Core) : (s.upd f).focus = s.focus := rfl
@[simp] theorem State.upd_others (s : State) (f : Core → Core) : (s.upd f).others = s.others := rfl
@[simp] theorem State.upd_agenda (s : State) (f : Core → Core) : (s.upd f).agenda = s.agenda := rfl
@[simp] theorem State.upd_now (s : State) (f : Core → Core) : (s.upd f).now = s.now := rfl
@[simp] theorem State.upd_moved (s : State) (f : Core → Core) : (s.upd f).moved = s.moved := rfl
@[simp] theorem State.upd_deposited (s : State) (f : Core → Core) : (s.upd f).deposited = s.deposited := rfl
@[simp] theorem State.upd_dieBase (s : State) (f : Core → Core) : (s.upd f).dieBase = s.dieBase := rfl
@[simp] theorem State.upd_freeCtr (s : State) (f : Core → Core) : (s.upd f).freeCtr = s.freeCtr := rfl
@[simp] theorem State.upd_mem (s : State) (f : Core → Core) : (s.upd f).mem = s.mem := rfl
@[simp] theorem State.upd_home (s : State) (f : Core → Core) : (s.upd f).home = s.home := rfl
@[simp] theorem State.upd_poison (s : State) (f : Core → Core) : (s.upd f).poison = s.poison := rfl
@[simp] theorem State.upd_spad (s : State) (f : Core → Core) : (s.upd f).spad = s.spad := rfl
@[simp] theorem State.upd_badStore (s : State) (f : Core → Core) : (s.upd f).badStore = s.badStore := rfl
@[simp] theorem State.upd_lstore (s : State) (f : Core → Core) : (s.upd f).lstore = s.lstore := rfl
@[simp] theorem State.upd_clusters (s : State) (f : Core → Core) : (s.upd f).clusters = s.clusters := rfl
@[simp] theorem State.upd_dcaches (s : State) (f : Core → Core) : (s.upd f).dcaches = s.dcaches := rfl
@[simp] theorem State.upd_parts (s : State) (f : Core → Core) : (s.upd f).parts = s.parts := rfl
@[simp] theorem State.upd_tilePart (s : State) (f : Core → Core) : (s.upd f).tilePart = s.tilePart := rfl
@[simp] theorem State.upd_stlb (s : State) (f : Core → Core) : (s.upd f).stlb = s.stlb := rfl
@[simp] theorem State.upd_wcache (s : State) (f : Core → Core) : (s.upd f).wcache = s.wcache := rfl
@[simp] theorem State.upd_btlb (s : State) (f : Core → Core) : (s.upd f).btlb = s.btlb := rfl
@[simp] theorem State.upd_wire (s : State) (f : Core → Core) : (s.upd f).wire = s.wire := rfl
@[simp] theorem State.upd_counts (s : State) (f : Core → Core) : (s.upd f).counts = s.counts := rfl
@[simp] theorem State.upd_acks (s : State) (f : Core → Core) : (s.upd f).acks = s.acks := rfl
@[simp] theorem State.upd_forms (s : State) (f : Core → Core) : (s.upd f).forms = s.forms := rfl
@[simp] theorem State.upd_launches (s : State) (f : Core → Core) : (s.upd f).launches = s.launches := rfl
@[simp] theorem State.upd_nextLaunch (s : State) (f : Core → Core) : (s.upd f).nextLaunch = s.nextLaunch := rfl
@[simp] theorem State.upd_bulks (s : State) (f : Core → Core) : (s.upd f).bulks = s.bulks := rfl
@[simp] theorem State.upd_tickets (s : State) (f : Core → Core) : (s.upd f).tickets = s.tickets := rfl
@[simp] theorem State.upd_dir (s : State) (f : Core → Core) : (s.upd f).dir = s.dir := rfl
@[simp] theorem State.upd_tiles (s : State) (f : Core → Core) : (s.upd f).tiles = s.tiles := rfl
@[simp] theorem State.upd_l2 (s : State) (f : Core → Core) : (s.upd f).l2 = s.l2 := rfl
@[simp] theorem State.upd_snoops (s : State) (f : Core → Core) : (s.upd f).snoops = s.snoops := rfl
@[simp] theorem State.upd_lineOps (s : State) (f : Core → Core) : (s.upd f).lineOps = s.lineOps := rfl
@[simp] theorem State.upd_net (s : State) (f : Core → Core) : (s.upd f).net = s.net := rfl
@[simp] theorem State.upd_zones (s : State) (f : Core → Core) : (s.upd f).zones = s.zones := rfl
@[simp] theorem State.upd_sluice (s : State) (f : Core → Core) : (s.upd f).sluice = s.sluice := rfl
@[simp] theorem State.upd_spills (s : State) (f : Core → Core) : (s.upd f).spills = s.spills := rfl
@[simp] theorem State.upd_expanders (s : State) (f : Core → Core) : (s.upd f).expanders = s.expanders := rfl
@[simp] theorem State.upd_peers (s : State) (f : Core → Core) : (s.upd f).peers = s.peers := rfl
@[simp] theorem State.upd_ports (s : State) (f : Core → Core) : (s.upd f).ports = s.ports := rfl
@[simp] theorem State.upd_stage (s : State) (f : Core → Core) : (s.upd f).stage = s.stage := rfl

@[simp] theorem State.tickLong_core (s : State) : (s.tickLong).core = { s.core with long := s.core.long.map fun l => { l with left := l.left - 1 } } := rfl
@[simp] theorem State.tickLong_focus (s : State) : (s.tickLong).focus = s.focus := rfl
@[simp] theorem State.tickLong_others (s : State) : (s.tickLong).others = s.others := rfl
@[simp] theorem State.tickLong_agenda (s : State) : (s.tickLong).agenda = s.agenda := rfl
@[simp] theorem State.tickLong_now (s : State) : (s.tickLong).now = s.now := rfl
@[simp] theorem State.tickLong_moved (s : State) : (s.tickLong).moved = s.moved := rfl
@[simp] theorem State.tickLong_deposited (s : State) : (s.tickLong).deposited = s.deposited := rfl
@[simp] theorem State.tickLong_dieBase (s : State) : (s.tickLong).dieBase = s.dieBase := rfl
@[simp] theorem State.tickLong_freeCtr (s : State) : (s.tickLong).freeCtr = s.freeCtr := rfl
@[simp] theorem State.tickLong_mem (s : State) : (s.tickLong).mem = s.mem := rfl
@[simp] theorem State.tickLong_home (s : State) : (s.tickLong).home = s.home := rfl
@[simp] theorem State.tickLong_poison (s : State) : (s.tickLong).poison = s.poison := rfl
@[simp] theorem State.tickLong_spad (s : State) : (s.tickLong).spad = s.spad := rfl
@[simp] theorem State.tickLong_badStore (s : State) : (s.tickLong).badStore = s.badStore := rfl
@[simp] theorem State.tickLong_lstore (s : State) : (s.tickLong).lstore = s.lstore := rfl
@[simp] theorem State.tickLong_clusters (s : State) : (s.tickLong).clusters = s.clusters := rfl
@[simp] theorem State.tickLong_dcaches (s : State) : (s.tickLong).dcaches = s.dcaches := rfl
@[simp] theorem State.tickLong_parts (s : State) : (s.tickLong).parts = s.parts := rfl
@[simp] theorem State.tickLong_tilePart (s : State) : (s.tickLong).tilePart = s.tilePart := rfl
@[simp] theorem State.tickLong_stlb (s : State) : (s.tickLong).stlb = s.stlb := rfl
@[simp] theorem State.tickLong_wcache (s : State) : (s.tickLong).wcache = s.wcache := rfl
@[simp] theorem State.tickLong_btlb (s : State) : (s.tickLong).btlb = s.btlb := rfl
@[simp] theorem State.tickLong_wire (s : State) : (s.tickLong).wire = s.wire := rfl
@[simp] theorem State.tickLong_counts (s : State) : (s.tickLong).counts = s.counts := rfl
@[simp] theorem State.tickLong_acks (s : State) : (s.tickLong).acks = s.acks := rfl
@[simp] theorem State.tickLong_forms (s : State) : (s.tickLong).forms = s.forms := rfl
@[simp] theorem State.tickLong_launches (s : State) : (s.tickLong).launches = s.launches := rfl
@[simp] theorem State.tickLong_nextLaunch (s : State) : (s.tickLong).nextLaunch = s.nextLaunch := rfl
@[simp] theorem State.tickLong_bulks (s : State) : (s.tickLong).bulks = s.bulks := rfl
@[simp] theorem State.tickLong_tickets (s : State) : (s.tickLong).tickets = s.tickets := rfl
@[simp] theorem State.tickLong_dir (s : State) : (s.tickLong).dir = s.dir := rfl
@[simp] theorem State.tickLong_tiles (s : State) : (s.tickLong).tiles = s.tiles := rfl
@[simp] theorem State.tickLong_l2 (s : State) : (s.tickLong).l2 = s.l2 := rfl
@[simp] theorem State.tickLong_snoops (s : State) : (s.tickLong).snoops = s.snoops := rfl
@[simp] theorem State.tickLong_lineOps (s : State) : (s.tickLong).lineOps = s.lineOps := rfl
@[simp] theorem State.tickLong_net (s : State) : (s.tickLong).net = s.net := rfl
@[simp] theorem State.tickLong_zones (s : State) : (s.tickLong).zones = s.zones := rfl
@[simp] theorem State.tickLong_sluice (s : State) : (s.tickLong).sluice = s.sluice := rfl
@[simp] theorem State.tickLong_spills (s : State) : (s.tickLong).spills = s.spills := rfl
@[simp] theorem State.tickLong_expanders (s : State) : (s.tickLong).expanders = s.expanders := rfl
@[simp] theorem State.tickLong_peers (s : State) : (s.tickLong).peers = s.peers := rfl
@[simp] theorem State.tickLong_ports (s : State) : (s.tickLong).ports = s.ports := rfl
@[simp] theorem State.tickLong_stage (s : State) : (s.tickLong).stage = s.stage := rfl

@[simp] theorem State.closeWindows_core (s : State) : (s.closeWindows).core = { s.core with long := s.core.long.map fun l => { l with left := 0 } } := rfl
@[simp] theorem State.closeWindows_focus (s : State) : (s.closeWindows).focus = s.focus := rfl
@[simp] theorem State.closeWindows_others (s : State) : (s.closeWindows).others = s.others := rfl
@[simp] theorem State.closeWindows_agenda (s : State) : (s.closeWindows).agenda = s.agenda := rfl
@[simp] theorem State.closeWindows_now (s : State) : (s.closeWindows).now = s.now := rfl
@[simp] theorem State.closeWindows_moved (s : State) : (s.closeWindows).moved = s.moved := rfl
@[simp] theorem State.closeWindows_deposited (s : State) : (s.closeWindows).deposited = s.deposited := rfl
@[simp] theorem State.closeWindows_dieBase (s : State) : (s.closeWindows).dieBase = s.dieBase := rfl
@[simp] theorem State.closeWindows_freeCtr (s : State) : (s.closeWindows).freeCtr = s.freeCtr := rfl
@[simp] theorem State.closeWindows_mem (s : State) : (s.closeWindows).mem = s.mem := rfl
@[simp] theorem State.closeWindows_home (s : State) : (s.closeWindows).home = s.home := rfl
@[simp] theorem State.closeWindows_poison (s : State) : (s.closeWindows).poison = s.poison := rfl
@[simp] theorem State.closeWindows_spad (s : State) : (s.closeWindows).spad = s.spad := rfl
@[simp] theorem State.closeWindows_badStore (s : State) : (s.closeWindows).badStore = s.badStore := rfl
@[simp] theorem State.closeWindows_lstore (s : State) : (s.closeWindows).lstore = s.lstore := rfl
@[simp] theorem State.closeWindows_clusters (s : State) : (s.closeWindows).clusters = s.clusters := rfl
@[simp] theorem State.closeWindows_dcaches (s : State) : (s.closeWindows).dcaches = s.dcaches := rfl
@[simp] theorem State.closeWindows_parts (s : State) : (s.closeWindows).parts = s.parts := rfl
@[simp] theorem State.closeWindows_tilePart (s : State) : (s.closeWindows).tilePart = s.tilePart := rfl
@[simp] theorem State.closeWindows_stlb (s : State) : (s.closeWindows).stlb = s.stlb := rfl
@[simp] theorem State.closeWindows_wcache (s : State) : (s.closeWindows).wcache = s.wcache := rfl
@[simp] theorem State.closeWindows_btlb (s : State) : (s.closeWindows).btlb = s.btlb := rfl
@[simp] theorem State.closeWindows_wire (s : State) : (s.closeWindows).wire = s.wire := rfl
@[simp] theorem State.closeWindows_counts (s : State) : (s.closeWindows).counts = s.counts := rfl
@[simp] theorem State.closeWindows_acks (s : State) : (s.closeWindows).acks = s.acks := rfl
@[simp] theorem State.closeWindows_forms (s : State) : (s.closeWindows).forms = s.forms := rfl
@[simp] theorem State.closeWindows_launches (s : State) : (s.closeWindows).launches = s.launches := rfl
@[simp] theorem State.closeWindows_nextLaunch (s : State) : (s.closeWindows).nextLaunch = s.nextLaunch := rfl
@[simp] theorem State.closeWindows_bulks (s : State) : (s.closeWindows).bulks = s.bulks := rfl
@[simp] theorem State.closeWindows_tickets (s : State) : (s.closeWindows).tickets = s.tickets := rfl
@[simp] theorem State.closeWindows_dir (s : State) : (s.closeWindows).dir = s.dir := rfl
@[simp] theorem State.closeWindows_tiles (s : State) : (s.closeWindows).tiles = s.tiles := rfl
@[simp] theorem State.closeWindows_l2 (s : State) : (s.closeWindows).l2 = s.l2 := rfl
@[simp] theorem State.closeWindows_snoops (s : State) : (s.closeWindows).snoops = s.snoops := rfl
@[simp] theorem State.closeWindows_lineOps (s : State) : (s.closeWindows).lineOps = s.lineOps := rfl
@[simp] theorem State.closeWindows_net (s : State) : (s.closeWindows).net = s.net := rfl
@[simp] theorem State.closeWindows_zones (s : State) : (s.closeWindows).zones = s.zones := rfl
@[simp] theorem State.closeWindows_sluice (s : State) : (s.closeWindows).sluice = s.sluice := rfl
@[simp] theorem State.closeWindows_spills (s : State) : (s.closeWindows).spills = s.spills := rfl
@[simp] theorem State.closeWindows_expanders (s : State) : (s.closeWindows).expanders = s.expanders := rfl
@[simp] theorem State.closeWindows_peers (s : State) : (s.closeWindows).peers = s.peers := rfl
@[simp] theorem State.closeWindows_ports (s : State) : (s.closeWindows).ports = s.ports := rfl
@[simp] theorem State.closeWindows_stage (s : State) : (s.closeWindows).stage = s.stage := rfl

@[simp] theorem State.endActivation_core (s : State) : (s.endActivation).core = { s.core with act := none } := rfl
@[simp] theorem State.endActivation_focus (s : State) : (s.endActivation).focus = s.focus := rfl
@[simp] theorem State.endActivation_others (s : State) : (s.endActivation).others = s.others := rfl
@[simp] theorem State.endActivation_agenda (s : State) : (s.endActivation).agenda = s.agenda := rfl
@[simp] theorem State.endActivation_now (s : State) : (s.endActivation).now = s.now := rfl
@[simp] theorem State.endActivation_moved (s : State) : (s.endActivation).moved = s.moved := rfl
@[simp] theorem State.endActivation_deposited (s : State) : (s.endActivation).deposited = s.deposited := rfl
@[simp] theorem State.endActivation_dieBase (s : State) : (s.endActivation).dieBase = s.dieBase := rfl
@[simp] theorem State.endActivation_freeCtr (s : State) : (s.endActivation).freeCtr = s.freeCtr := rfl
@[simp] theorem State.endActivation_mem (s : State) : (s.endActivation).mem = s.mem := rfl
@[simp] theorem State.endActivation_home (s : State) : (s.endActivation).home = s.home := rfl
@[simp] theorem State.endActivation_poison (s : State) : (s.endActivation).poison = s.poison := rfl
@[simp] theorem State.endActivation_spad (s : State) : (s.endActivation).spad = s.spad := rfl
@[simp] theorem State.endActivation_badStore (s : State) : (s.endActivation).badStore = s.badStore := rfl
@[simp] theorem State.endActivation_lstore (s : State) : (s.endActivation).lstore = s.lstore := rfl
@[simp] theorem State.endActivation_clusters (s : State) : (s.endActivation).clusters = s.clusters := rfl
@[simp] theorem State.endActivation_dcaches (s : State) : (s.endActivation).dcaches = s.dcaches := rfl
@[simp] theorem State.endActivation_parts (s : State) : (s.endActivation).parts = s.parts := rfl
@[simp] theorem State.endActivation_tilePart (s : State) : (s.endActivation).tilePart = s.tilePart := rfl
@[simp] theorem State.endActivation_stlb (s : State) : (s.endActivation).stlb = s.stlb := rfl
@[simp] theorem State.endActivation_wcache (s : State) : (s.endActivation).wcache = s.wcache := rfl
@[simp] theorem State.endActivation_btlb (s : State) : (s.endActivation).btlb = s.btlb := rfl
@[simp] theorem State.endActivation_wire (s : State) : (s.endActivation).wire = s.wire := rfl
@[simp] theorem State.endActivation_counts (s : State) : (s.endActivation).counts = s.counts := rfl
@[simp] theorem State.endActivation_acks (s : State) : (s.endActivation).acks = s.acks := rfl
@[simp] theorem State.endActivation_forms (s : State) : (s.endActivation).forms = s.forms := rfl
@[simp] theorem State.endActivation_launches (s : State) : (s.endActivation).launches = s.launches := rfl
@[simp] theorem State.endActivation_nextLaunch (s : State) : (s.endActivation).nextLaunch = s.nextLaunch := rfl
@[simp] theorem State.endActivation_bulks (s : State) : (s.endActivation).bulks = s.bulks := rfl
@[simp] theorem State.endActivation_tickets (s : State) : (s.endActivation).tickets = s.tickets := rfl
@[simp] theorem State.endActivation_dir (s : State) : (s.endActivation).dir = s.dir := rfl
@[simp] theorem State.endActivation_tiles (s : State) : (s.endActivation).tiles = s.tiles := rfl
@[simp] theorem State.endActivation_l2 (s : State) : (s.endActivation).l2 = s.l2 := rfl
@[simp] theorem State.endActivation_snoops (s : State) : (s.endActivation).snoops = s.snoops := rfl
@[simp] theorem State.endActivation_lineOps (s : State) : (s.endActivation).lineOps = s.lineOps := rfl
@[simp] theorem State.endActivation_net (s : State) : (s.endActivation).net = s.net := rfl
@[simp] theorem State.endActivation_zones (s : State) : (s.endActivation).zones = s.zones := rfl
@[simp] theorem State.endActivation_sluice (s : State) : (s.endActivation).sluice = s.sluice := rfl
@[simp] theorem State.endActivation_spills (s : State) : (s.endActivation).spills = s.spills := rfl
@[simp] theorem State.endActivation_expanders (s : State) : (s.endActivation).expanders = s.expanders := rfl
@[simp] theorem State.endActivation_peers (s : State) : (s.endActivation).peers = s.peers := rfl
@[simp] theorem State.endActivation_ports (s : State) : (s.endActivation).ports = s.ports := rfl
@[simp] theorem State.endActivation_stage (s : State) : (s.endActivation).stage = s.stage := rfl

@[simp] theorem State.link_core (s : State) (px : List Prefix) : (s.link px).core = s.core.putSlot 23 (s.baseAddr px + 2) true := rfl
@[simp] theorem State.link_focus (s : State) (px : List Prefix) : (s.link px).focus = s.focus := rfl
@[simp] theorem State.link_others (s : State) (px : List Prefix) : (s.link px).others = s.others := rfl
@[simp] theorem State.link_agenda (s : State) (px : List Prefix) : (s.link px).agenda = s.agenda := rfl
@[simp] theorem State.link_now (s : State) (px : List Prefix) : (s.link px).now = s.now := rfl
@[simp] theorem State.link_moved (s : State) (px : List Prefix) : (s.link px).moved = s.moved := rfl
@[simp] theorem State.link_deposited (s : State) (px : List Prefix) : (s.link px).deposited = s.deposited := rfl
@[simp] theorem State.link_dieBase (s : State) (px : List Prefix) : (s.link px).dieBase = s.dieBase := rfl
@[simp] theorem State.link_freeCtr (s : State) (px : List Prefix) : (s.link px).freeCtr = s.freeCtr := rfl
@[simp] theorem State.link_mem (s : State) (px : List Prefix) : (s.link px).mem = s.mem := rfl
@[simp] theorem State.link_home (s : State) (px : List Prefix) : (s.link px).home = s.home := rfl
@[simp] theorem State.link_poison (s : State) (px : List Prefix) : (s.link px).poison = s.poison := rfl
@[simp] theorem State.link_spad (s : State) (px : List Prefix) : (s.link px).spad = s.spad := rfl
@[simp] theorem State.link_badStore (s : State) (px : List Prefix) : (s.link px).badStore = s.badStore := rfl
@[simp] theorem State.link_lstore (s : State) (px : List Prefix) : (s.link px).lstore = s.lstore := rfl
@[simp] theorem State.link_clusters (s : State) (px : List Prefix) : (s.link px).clusters = s.clusters := rfl
@[simp] theorem State.link_dcaches (s : State) (px : List Prefix) : (s.link px).dcaches = s.dcaches := rfl
@[simp] theorem State.link_parts (s : State) (px : List Prefix) : (s.link px).parts = s.parts := rfl
@[simp] theorem State.link_tilePart (s : State) (px : List Prefix) : (s.link px).tilePart = s.tilePart := rfl
@[simp] theorem State.link_stlb (s : State) (px : List Prefix) : (s.link px).stlb = s.stlb := rfl
@[simp] theorem State.link_wcache (s : State) (px : List Prefix) : (s.link px).wcache = s.wcache := rfl
@[simp] theorem State.link_btlb (s : State) (px : List Prefix) : (s.link px).btlb = s.btlb := rfl
@[simp] theorem State.link_wire (s : State) (px : List Prefix) : (s.link px).wire = s.wire := rfl
@[simp] theorem State.link_counts (s : State) (px : List Prefix) : (s.link px).counts = s.counts := rfl
@[simp] theorem State.link_acks (s : State) (px : List Prefix) : (s.link px).acks = s.acks := rfl
@[simp] theorem State.link_forms (s : State) (px : List Prefix) : (s.link px).forms = s.forms := rfl
@[simp] theorem State.link_launches (s : State) (px : List Prefix) : (s.link px).launches = s.launches := rfl
@[simp] theorem State.link_nextLaunch (s : State) (px : List Prefix) : (s.link px).nextLaunch = s.nextLaunch := rfl
@[simp] theorem State.link_bulks (s : State) (px : List Prefix) : (s.link px).bulks = s.bulks := rfl
@[simp] theorem State.link_tickets (s : State) (px : List Prefix) : (s.link px).tickets = s.tickets := rfl
@[simp] theorem State.link_dir (s : State) (px : List Prefix) : (s.link px).dir = s.dir := rfl
@[simp] theorem State.link_tiles (s : State) (px : List Prefix) : (s.link px).tiles = s.tiles := rfl
@[simp] theorem State.link_l2 (s : State) (px : List Prefix) : (s.link px).l2 = s.l2 := rfl
@[simp] theorem State.link_snoops (s : State) (px : List Prefix) : (s.link px).snoops = s.snoops := rfl
@[simp] theorem State.link_lineOps (s : State) (px : List Prefix) : (s.link px).lineOps = s.lineOps := rfl
@[simp] theorem State.link_net (s : State) (px : List Prefix) : (s.link px).net = s.net := rfl
@[simp] theorem State.link_zones (s : State) (px : List Prefix) : (s.link px).zones = s.zones := rfl
@[simp] theorem State.link_sluice (s : State) (px : List Prefix) : (s.link px).sluice = s.sluice := rfl
@[simp] theorem State.link_spills (s : State) (px : List Prefix) : (s.link px).spills = s.spills := rfl
@[simp] theorem State.link_expanders (s : State) (px : List Prefix) : (s.link px).expanders = s.expanders := rfl
@[simp] theorem State.link_peers (s : State) (px : List Prefix) : (s.link px).peers = s.peers := rfl
@[simp] theorem State.link_ports (s : State) (px : List Prefix) : (s.link px).ports = s.ports := rfl
@[simp] theorem State.link_stage (s : State) (px : List Prefix) : (s.link px).stage = s.stage := rfl

@[simp] theorem State.mxPut_core (s : State) (e : MxEntry) : (s.mxPut e).core = { s.core with mx := { s.core.mx with queue := s.core.mx.queue ++ [e] } } := rfl
@[simp] theorem State.mxPut_focus (s : State) (e : MxEntry) : (s.mxPut e).focus = s.focus := rfl
@[simp] theorem State.mxPut_others (s : State) (e : MxEntry) : (s.mxPut e).others = s.others := rfl
@[simp] theorem State.mxPut_agenda (s : State) (e : MxEntry) : (s.mxPut e).agenda = s.agenda := rfl
@[simp] theorem State.mxPut_now (s : State) (e : MxEntry) : (s.mxPut e).now = s.now := rfl
@[simp] theorem State.mxPut_moved (s : State) (e : MxEntry) : (s.mxPut e).moved = s.moved := rfl
@[simp] theorem State.mxPut_deposited (s : State) (e : MxEntry) : (s.mxPut e).deposited = s.deposited := rfl
@[simp] theorem State.mxPut_dieBase (s : State) (e : MxEntry) : (s.mxPut e).dieBase = s.dieBase := rfl
@[simp] theorem State.mxPut_freeCtr (s : State) (e : MxEntry) : (s.mxPut e).freeCtr = s.freeCtr := rfl
@[simp] theorem State.mxPut_mem (s : State) (e : MxEntry) : (s.mxPut e).mem = s.mem := rfl
@[simp] theorem State.mxPut_home (s : State) (e : MxEntry) : (s.mxPut e).home = s.home := rfl
@[simp] theorem State.mxPut_poison (s : State) (e : MxEntry) : (s.mxPut e).poison = s.poison := rfl
@[simp] theorem State.mxPut_spad (s : State) (e : MxEntry) : (s.mxPut e).spad = s.spad := rfl
@[simp] theorem State.mxPut_badStore (s : State) (e : MxEntry) : (s.mxPut e).badStore = s.badStore := rfl
@[simp] theorem State.mxPut_lstore (s : State) (e : MxEntry) : (s.mxPut e).lstore = s.lstore := rfl
@[simp] theorem State.mxPut_clusters (s : State) (e : MxEntry) : (s.mxPut e).clusters = s.clusters := rfl
@[simp] theorem State.mxPut_dcaches (s : State) (e : MxEntry) : (s.mxPut e).dcaches = s.dcaches := rfl
@[simp] theorem State.mxPut_parts (s : State) (e : MxEntry) : (s.mxPut e).parts = s.parts := rfl
@[simp] theorem State.mxPut_tilePart (s : State) (e : MxEntry) : (s.mxPut e).tilePart = s.tilePart := rfl
@[simp] theorem State.mxPut_stlb (s : State) (e : MxEntry) : (s.mxPut e).stlb = s.stlb := rfl
@[simp] theorem State.mxPut_wcache (s : State) (e : MxEntry) : (s.mxPut e).wcache = s.wcache := rfl
@[simp] theorem State.mxPut_btlb (s : State) (e : MxEntry) : (s.mxPut e).btlb = s.btlb := rfl
@[simp] theorem State.mxPut_wire (s : State) (e : MxEntry) : (s.mxPut e).wire = s.wire := rfl
@[simp] theorem State.mxPut_counts (s : State) (e : MxEntry) : (s.mxPut e).counts = s.counts := rfl
@[simp] theorem State.mxPut_acks (s : State) (e : MxEntry) : (s.mxPut e).acks = s.acks := rfl
@[simp] theorem State.mxPut_forms (s : State) (e : MxEntry) : (s.mxPut e).forms = s.forms := rfl
@[simp] theorem State.mxPut_launches (s : State) (e : MxEntry) : (s.mxPut e).launches = s.launches := rfl
@[simp] theorem State.mxPut_nextLaunch (s : State) (e : MxEntry) : (s.mxPut e).nextLaunch = s.nextLaunch := rfl
@[simp] theorem State.mxPut_bulks (s : State) (e : MxEntry) : (s.mxPut e).bulks = s.bulks := rfl
@[simp] theorem State.mxPut_tickets (s : State) (e : MxEntry) : (s.mxPut e).tickets = s.tickets := rfl
@[simp] theorem State.mxPut_dir (s : State) (e : MxEntry) : (s.mxPut e).dir = s.dir := rfl
@[simp] theorem State.mxPut_tiles (s : State) (e : MxEntry) : (s.mxPut e).tiles = s.tiles := rfl
@[simp] theorem State.mxPut_l2 (s : State) (e : MxEntry) : (s.mxPut e).l2 = s.l2 := rfl
@[simp] theorem State.mxPut_snoops (s : State) (e : MxEntry) : (s.mxPut e).snoops = s.snoops := rfl
@[simp] theorem State.mxPut_lineOps (s : State) (e : MxEntry) : (s.mxPut e).lineOps = s.lineOps := rfl
@[simp] theorem State.mxPut_net (s : State) (e : MxEntry) : (s.mxPut e).net = s.net := rfl
@[simp] theorem State.mxPut_zones (s : State) (e : MxEntry) : (s.mxPut e).zones = s.zones := rfl
@[simp] theorem State.mxPut_sluice (s : State) (e : MxEntry) : (s.mxPut e).sluice = s.sluice := rfl
@[simp] theorem State.mxPut_spills (s : State) (e : MxEntry) : (s.mxPut e).spills = s.spills := rfl
@[simp] theorem State.mxPut_expanders (s : State) (e : MxEntry) : (s.mxPut e).expanders = s.expanders := rfl
@[simp] theorem State.mxPut_peers (s : State) (e : MxEntry) : (s.mxPut e).peers = s.peers := rfl
@[simp] theorem State.mxPut_ports (s : State) (e : MxEntry) : (s.mxPut e).ports = s.ports := rfl
@[simp] theorem State.mxPut_stage (s : State) (e : MxEntry) : (s.mxPut e).stage = s.stage := rfl

@[simp] theorem State.sePut_core (s : State) (e : SeCmd) : (s.sePut e).core = { s.core with se := { s.core.se with queue := s.core.se.queue ++ [e] } } := rfl
@[simp] theorem State.sePut_focus (s : State) (e : SeCmd) : (s.sePut e).focus = s.focus := rfl
@[simp] theorem State.sePut_others (s : State) (e : SeCmd) : (s.sePut e).others = s.others := rfl
@[simp] theorem State.sePut_agenda (s : State) (e : SeCmd) : (s.sePut e).agenda = s.agenda := rfl
@[simp] theorem State.sePut_now (s : State) (e : SeCmd) : (s.sePut e).now = s.now := rfl
@[simp] theorem State.sePut_moved (s : State) (e : SeCmd) : (s.sePut e).moved = s.moved := rfl
@[simp] theorem State.sePut_deposited (s : State) (e : SeCmd) : (s.sePut e).deposited = s.deposited := rfl
@[simp] theorem State.sePut_dieBase (s : State) (e : SeCmd) : (s.sePut e).dieBase = s.dieBase := rfl
@[simp] theorem State.sePut_freeCtr (s : State) (e : SeCmd) : (s.sePut e).freeCtr = s.freeCtr := rfl
@[simp] theorem State.sePut_mem (s : State) (e : SeCmd) : (s.sePut e).mem = s.mem := rfl
@[simp] theorem State.sePut_home (s : State) (e : SeCmd) : (s.sePut e).home = s.home := rfl
@[simp] theorem State.sePut_poison (s : State) (e : SeCmd) : (s.sePut e).poison = s.poison := rfl
@[simp] theorem State.sePut_spad (s : State) (e : SeCmd) : (s.sePut e).spad = s.spad := rfl
@[simp] theorem State.sePut_badStore (s : State) (e : SeCmd) : (s.sePut e).badStore = s.badStore := rfl
@[simp] theorem State.sePut_lstore (s : State) (e : SeCmd) : (s.sePut e).lstore = s.lstore := rfl
@[simp] theorem State.sePut_clusters (s : State) (e : SeCmd) : (s.sePut e).clusters = s.clusters := rfl
@[simp] theorem State.sePut_dcaches (s : State) (e : SeCmd) : (s.sePut e).dcaches = s.dcaches := rfl
@[simp] theorem State.sePut_parts (s : State) (e : SeCmd) : (s.sePut e).parts = s.parts := rfl
@[simp] theorem State.sePut_tilePart (s : State) (e : SeCmd) : (s.sePut e).tilePart = s.tilePart := rfl
@[simp] theorem State.sePut_stlb (s : State) (e : SeCmd) : (s.sePut e).stlb = s.stlb := rfl
@[simp] theorem State.sePut_wcache (s : State) (e : SeCmd) : (s.sePut e).wcache = s.wcache := rfl
@[simp] theorem State.sePut_btlb (s : State) (e : SeCmd) : (s.sePut e).btlb = s.btlb := rfl
@[simp] theorem State.sePut_wire (s : State) (e : SeCmd) : (s.sePut e).wire = s.wire := rfl
@[simp] theorem State.sePut_counts (s : State) (e : SeCmd) : (s.sePut e).counts = s.counts := rfl
@[simp] theorem State.sePut_acks (s : State) (e : SeCmd) : (s.sePut e).acks = s.acks := rfl
@[simp] theorem State.sePut_forms (s : State) (e : SeCmd) : (s.sePut e).forms = s.forms := rfl
@[simp] theorem State.sePut_launches (s : State) (e : SeCmd) : (s.sePut e).launches = s.launches := rfl
@[simp] theorem State.sePut_nextLaunch (s : State) (e : SeCmd) : (s.sePut e).nextLaunch = s.nextLaunch := rfl
@[simp] theorem State.sePut_bulks (s : State) (e : SeCmd) : (s.sePut e).bulks = s.bulks := rfl
@[simp] theorem State.sePut_tickets (s : State) (e : SeCmd) : (s.sePut e).tickets = s.tickets := rfl
@[simp] theorem State.sePut_dir (s : State) (e : SeCmd) : (s.sePut e).dir = s.dir := rfl
@[simp] theorem State.sePut_tiles (s : State) (e : SeCmd) : (s.sePut e).tiles = s.tiles := rfl
@[simp] theorem State.sePut_l2 (s : State) (e : SeCmd) : (s.sePut e).l2 = s.l2 := rfl
@[simp] theorem State.sePut_snoops (s : State) (e : SeCmd) : (s.sePut e).snoops = s.snoops := rfl
@[simp] theorem State.sePut_lineOps (s : State) (e : SeCmd) : (s.sePut e).lineOps = s.lineOps := rfl
@[simp] theorem State.sePut_net (s : State) (e : SeCmd) : (s.sePut e).net = s.net := rfl
@[simp] theorem State.sePut_zones (s : State) (e : SeCmd) : (s.sePut e).zones = s.zones := rfl
@[simp] theorem State.sePut_sluice (s : State) (e : SeCmd) : (s.sePut e).sluice = s.sluice := rfl
@[simp] theorem State.sePut_spills (s : State) (e : SeCmd) : (s.sePut e).spills = s.spills := rfl
@[simp] theorem State.sePut_expanders (s : State) (e : SeCmd) : (s.sePut e).expanders = s.expanders := rfl
@[simp] theorem State.sePut_peers (s : State) (e : SeCmd) : (s.sePut e).peers = s.peers := rfl
@[simp] theorem State.sePut_ports (s : State) (e : SeCmd) : (s.sePut e).ports = s.ports := rfl
@[simp] theorem State.sePut_stage (s : State) (e : SeCmd) : (s.sePut e).stage = s.stage := rfl

/-! ### Updates of one table -/

@[simp] theorem State.setCluster_clusters (s : State) (n : Nat) (x : Cluster) : (s.setCluster n x).clusters = setAt s.clusters n x := rfl
@[simp] theorem State.setCluster_core (s : State) (n : Nat) (x : Cluster) : (s.setCluster n x).core = s.core := rfl
@[simp] theorem State.setCluster_focus (s : State) (n : Nat) (x : Cluster) : (s.setCluster n x).focus = s.focus := rfl
@[simp] theorem State.setCluster_others (s : State) (n : Nat) (x : Cluster) : (s.setCluster n x).others = s.others := rfl
@[simp] theorem State.setCluster_agenda (s : State) (n : Nat) (x : Cluster) : (s.setCluster n x).agenda = s.agenda := rfl
@[simp] theorem State.setCluster_now (s : State) (n : Nat) (x : Cluster) : (s.setCluster n x).now = s.now := rfl
@[simp] theorem State.setCluster_moved (s : State) (n : Nat) (x : Cluster) : (s.setCluster n x).moved = s.moved := rfl
@[simp] theorem State.setCluster_deposited (s : State) (n : Nat) (x : Cluster) : (s.setCluster n x).deposited = s.deposited := rfl
@[simp] theorem State.setCluster_dieBase (s : State) (n : Nat) (x : Cluster) : (s.setCluster n x).dieBase = s.dieBase := rfl
@[simp] theorem State.setCluster_freeCtr (s : State) (n : Nat) (x : Cluster) : (s.setCluster n x).freeCtr = s.freeCtr := rfl
@[simp] theorem State.setCluster_mem (s : State) (n : Nat) (x : Cluster) : (s.setCluster n x).mem = s.mem := rfl
@[simp] theorem State.setCluster_home (s : State) (n : Nat) (x : Cluster) : (s.setCluster n x).home = s.home := rfl
@[simp] theorem State.setCluster_poison (s : State) (n : Nat) (x : Cluster) : (s.setCluster n x).poison = s.poison := rfl
@[simp] theorem State.setCluster_spad (s : State) (n : Nat) (x : Cluster) : (s.setCluster n x).spad = s.spad := rfl
@[simp] theorem State.setCluster_badStore (s : State) (n : Nat) (x : Cluster) : (s.setCluster n x).badStore = s.badStore := rfl
@[simp] theorem State.setCluster_lstore (s : State) (n : Nat) (x : Cluster) : (s.setCluster n x).lstore = s.lstore := rfl
@[simp] theorem State.setCluster_dcaches (s : State) (n : Nat) (x : Cluster) : (s.setCluster n x).dcaches = s.dcaches := rfl
@[simp] theorem State.setCluster_parts (s : State) (n : Nat) (x : Cluster) : (s.setCluster n x).parts = s.parts := rfl
@[simp] theorem State.setCluster_tilePart (s : State) (n : Nat) (x : Cluster) : (s.setCluster n x).tilePart = s.tilePart := rfl
@[simp] theorem State.setCluster_stlb (s : State) (n : Nat) (x : Cluster) : (s.setCluster n x).stlb = s.stlb := rfl
@[simp] theorem State.setCluster_wcache (s : State) (n : Nat) (x : Cluster) : (s.setCluster n x).wcache = s.wcache := rfl
@[simp] theorem State.setCluster_btlb (s : State) (n : Nat) (x : Cluster) : (s.setCluster n x).btlb = s.btlb := rfl
@[simp] theorem State.setCluster_wire (s : State) (n : Nat) (x : Cluster) : (s.setCluster n x).wire = s.wire := rfl
@[simp] theorem State.setCluster_counts (s : State) (n : Nat) (x : Cluster) : (s.setCluster n x).counts = s.counts := rfl
@[simp] theorem State.setCluster_acks (s : State) (n : Nat) (x : Cluster) : (s.setCluster n x).acks = s.acks := rfl
@[simp] theorem State.setCluster_forms (s : State) (n : Nat) (x : Cluster) : (s.setCluster n x).forms = s.forms := rfl
@[simp] theorem State.setCluster_launches (s : State) (n : Nat) (x : Cluster) : (s.setCluster n x).launches = s.launches := rfl
@[simp] theorem State.setCluster_nextLaunch (s : State) (n : Nat) (x : Cluster) : (s.setCluster n x).nextLaunch = s.nextLaunch := rfl
@[simp] theorem State.setCluster_bulks (s : State) (n : Nat) (x : Cluster) : (s.setCluster n x).bulks = s.bulks := rfl
@[simp] theorem State.setCluster_tickets (s : State) (n : Nat) (x : Cluster) : (s.setCluster n x).tickets = s.tickets := rfl
@[simp] theorem State.setCluster_dir (s : State) (n : Nat) (x : Cluster) : (s.setCluster n x).dir = s.dir := rfl
@[simp] theorem State.setCluster_tiles (s : State) (n : Nat) (x : Cluster) : (s.setCluster n x).tiles = s.tiles := rfl
@[simp] theorem State.setCluster_l2 (s : State) (n : Nat) (x : Cluster) : (s.setCluster n x).l2 = s.l2 := rfl
@[simp] theorem State.setCluster_snoops (s : State) (n : Nat) (x : Cluster) : (s.setCluster n x).snoops = s.snoops := rfl
@[simp] theorem State.setCluster_lineOps (s : State) (n : Nat) (x : Cluster) : (s.setCluster n x).lineOps = s.lineOps := rfl
@[simp] theorem State.setCluster_net (s : State) (n : Nat) (x : Cluster) : (s.setCluster n x).net = s.net := rfl
@[simp] theorem State.setCluster_zones (s : State) (n : Nat) (x : Cluster) : (s.setCluster n x).zones = s.zones := rfl
@[simp] theorem State.setCluster_sluice (s : State) (n : Nat) (x : Cluster) : (s.setCluster n x).sluice = s.sluice := rfl
@[simp] theorem State.setCluster_spills (s : State) (n : Nat) (x : Cluster) : (s.setCluster n x).spills = s.spills := rfl
@[simp] theorem State.setCluster_expanders (s : State) (n : Nat) (x : Cluster) : (s.setCluster n x).expanders = s.expanders := rfl
@[simp] theorem State.setCluster_peers (s : State) (n : Nat) (x : Cluster) : (s.setCluster n x).peers = s.peers := rfl
@[simp] theorem State.setCluster_ports (s : State) (n : Nat) (x : Cluster) : (s.setCluster n x).ports = s.ports := rfl
@[simp] theorem State.setCluster_stage (s : State) (n : Nat) (x : Cluster) : (s.setCluster n x).stage = s.stage := rfl

@[simp] theorem State.setPart_parts (s : State) (n : Nat) (x : Part) : (s.setPart n x).parts = setAt s.parts n x := rfl
@[simp] theorem State.setPart_core (s : State) (n : Nat) (x : Part) : (s.setPart n x).core = s.core := rfl
@[simp] theorem State.setPart_focus (s : State) (n : Nat) (x : Part) : (s.setPart n x).focus = s.focus := rfl
@[simp] theorem State.setPart_others (s : State) (n : Nat) (x : Part) : (s.setPart n x).others = s.others := rfl
@[simp] theorem State.setPart_agenda (s : State) (n : Nat) (x : Part) : (s.setPart n x).agenda = s.agenda := rfl
@[simp] theorem State.setPart_now (s : State) (n : Nat) (x : Part) : (s.setPart n x).now = s.now := rfl
@[simp] theorem State.setPart_moved (s : State) (n : Nat) (x : Part) : (s.setPart n x).moved = s.moved := rfl
@[simp] theorem State.setPart_deposited (s : State) (n : Nat) (x : Part) : (s.setPart n x).deposited = s.deposited := rfl
@[simp] theorem State.setPart_dieBase (s : State) (n : Nat) (x : Part) : (s.setPart n x).dieBase = s.dieBase := rfl
@[simp] theorem State.setPart_freeCtr (s : State) (n : Nat) (x : Part) : (s.setPart n x).freeCtr = s.freeCtr := rfl
@[simp] theorem State.setPart_mem (s : State) (n : Nat) (x : Part) : (s.setPart n x).mem = s.mem := rfl
@[simp] theorem State.setPart_home (s : State) (n : Nat) (x : Part) : (s.setPart n x).home = s.home := rfl
@[simp] theorem State.setPart_poison (s : State) (n : Nat) (x : Part) : (s.setPart n x).poison = s.poison := rfl
@[simp] theorem State.setPart_spad (s : State) (n : Nat) (x : Part) : (s.setPart n x).spad = s.spad := rfl
@[simp] theorem State.setPart_badStore (s : State) (n : Nat) (x : Part) : (s.setPart n x).badStore = s.badStore := rfl
@[simp] theorem State.setPart_lstore (s : State) (n : Nat) (x : Part) : (s.setPart n x).lstore = s.lstore := rfl
@[simp] theorem State.setPart_clusters (s : State) (n : Nat) (x : Part) : (s.setPart n x).clusters = s.clusters := rfl
@[simp] theorem State.setPart_dcaches (s : State) (n : Nat) (x : Part) : (s.setPart n x).dcaches = s.dcaches := rfl
@[simp] theorem State.setPart_tilePart (s : State) (n : Nat) (x : Part) : (s.setPart n x).tilePart = s.tilePart := rfl
@[simp] theorem State.setPart_stlb (s : State) (n : Nat) (x : Part) : (s.setPart n x).stlb = s.stlb := rfl
@[simp] theorem State.setPart_wcache (s : State) (n : Nat) (x : Part) : (s.setPart n x).wcache = s.wcache := rfl
@[simp] theorem State.setPart_btlb (s : State) (n : Nat) (x : Part) : (s.setPart n x).btlb = s.btlb := rfl
@[simp] theorem State.setPart_wire (s : State) (n : Nat) (x : Part) : (s.setPart n x).wire = s.wire := rfl
@[simp] theorem State.setPart_counts (s : State) (n : Nat) (x : Part) : (s.setPart n x).counts = s.counts := rfl
@[simp] theorem State.setPart_acks (s : State) (n : Nat) (x : Part) : (s.setPart n x).acks = s.acks := rfl
@[simp] theorem State.setPart_forms (s : State) (n : Nat) (x : Part) : (s.setPart n x).forms = s.forms := rfl
@[simp] theorem State.setPart_launches (s : State) (n : Nat) (x : Part) : (s.setPart n x).launches = s.launches := rfl
@[simp] theorem State.setPart_nextLaunch (s : State) (n : Nat) (x : Part) : (s.setPart n x).nextLaunch = s.nextLaunch := rfl
@[simp] theorem State.setPart_bulks (s : State) (n : Nat) (x : Part) : (s.setPart n x).bulks = s.bulks := rfl
@[simp] theorem State.setPart_tickets (s : State) (n : Nat) (x : Part) : (s.setPart n x).tickets = s.tickets := rfl
@[simp] theorem State.setPart_dir (s : State) (n : Nat) (x : Part) : (s.setPart n x).dir = s.dir := rfl
@[simp] theorem State.setPart_tiles (s : State) (n : Nat) (x : Part) : (s.setPart n x).tiles = s.tiles := rfl
@[simp] theorem State.setPart_l2 (s : State) (n : Nat) (x : Part) : (s.setPart n x).l2 = s.l2 := rfl
@[simp] theorem State.setPart_snoops (s : State) (n : Nat) (x : Part) : (s.setPart n x).snoops = s.snoops := rfl
@[simp] theorem State.setPart_lineOps (s : State) (n : Nat) (x : Part) : (s.setPart n x).lineOps = s.lineOps := rfl
@[simp] theorem State.setPart_net (s : State) (n : Nat) (x : Part) : (s.setPart n x).net = s.net := rfl
@[simp] theorem State.setPart_zones (s : State) (n : Nat) (x : Part) : (s.setPart n x).zones = s.zones := rfl
@[simp] theorem State.setPart_sluice (s : State) (n : Nat) (x : Part) : (s.setPart n x).sluice = s.sluice := rfl
@[simp] theorem State.setPart_spills (s : State) (n : Nat) (x : Part) : (s.setPart n x).spills = s.spills := rfl
@[simp] theorem State.setPart_expanders (s : State) (n : Nat) (x : Part) : (s.setPart n x).expanders = s.expanders := rfl
@[simp] theorem State.setPart_peers (s : State) (n : Nat) (x : Part) : (s.setPart n x).peers = s.peers := rfl
@[simp] theorem State.setPart_ports (s : State) (n : Nat) (x : Part) : (s.setPart n x).ports = s.ports := rfl
@[simp] theorem State.setPart_stage (s : State) (n : Nat) (x : Part) : (s.setPart n x).stage = s.stage := rfl

@[simp] theorem State.setZone_zones (s : State) (n : Nat) (x : Zone) : (s.setZone n x).zones = setAt s.zones n x := rfl
@[simp] theorem State.setZone_core (s : State) (n : Nat) (x : Zone) : (s.setZone n x).core = s.core := rfl
@[simp] theorem State.setZone_focus (s : State) (n : Nat) (x : Zone) : (s.setZone n x).focus = s.focus := rfl
@[simp] theorem State.setZone_others (s : State) (n : Nat) (x : Zone) : (s.setZone n x).others = s.others := rfl
@[simp] theorem State.setZone_agenda (s : State) (n : Nat) (x : Zone) : (s.setZone n x).agenda = s.agenda := rfl
@[simp] theorem State.setZone_now (s : State) (n : Nat) (x : Zone) : (s.setZone n x).now = s.now := rfl
@[simp] theorem State.setZone_moved (s : State) (n : Nat) (x : Zone) : (s.setZone n x).moved = s.moved := rfl
@[simp] theorem State.setZone_deposited (s : State) (n : Nat) (x : Zone) : (s.setZone n x).deposited = s.deposited := rfl
@[simp] theorem State.setZone_dieBase (s : State) (n : Nat) (x : Zone) : (s.setZone n x).dieBase = s.dieBase := rfl
@[simp] theorem State.setZone_freeCtr (s : State) (n : Nat) (x : Zone) : (s.setZone n x).freeCtr = s.freeCtr := rfl
@[simp] theorem State.setZone_mem (s : State) (n : Nat) (x : Zone) : (s.setZone n x).mem = s.mem := rfl
@[simp] theorem State.setZone_home (s : State) (n : Nat) (x : Zone) : (s.setZone n x).home = s.home := rfl
@[simp] theorem State.setZone_poison (s : State) (n : Nat) (x : Zone) : (s.setZone n x).poison = s.poison := rfl
@[simp] theorem State.setZone_spad (s : State) (n : Nat) (x : Zone) : (s.setZone n x).spad = s.spad := rfl
@[simp] theorem State.setZone_badStore (s : State) (n : Nat) (x : Zone) : (s.setZone n x).badStore = s.badStore := rfl
@[simp] theorem State.setZone_lstore (s : State) (n : Nat) (x : Zone) : (s.setZone n x).lstore = s.lstore := rfl
@[simp] theorem State.setZone_clusters (s : State) (n : Nat) (x : Zone) : (s.setZone n x).clusters = s.clusters := rfl
@[simp] theorem State.setZone_dcaches (s : State) (n : Nat) (x : Zone) : (s.setZone n x).dcaches = s.dcaches := rfl
@[simp] theorem State.setZone_parts (s : State) (n : Nat) (x : Zone) : (s.setZone n x).parts = s.parts := rfl
@[simp] theorem State.setZone_tilePart (s : State) (n : Nat) (x : Zone) : (s.setZone n x).tilePart = s.tilePart := rfl
@[simp] theorem State.setZone_stlb (s : State) (n : Nat) (x : Zone) : (s.setZone n x).stlb = s.stlb := rfl
@[simp] theorem State.setZone_wcache (s : State) (n : Nat) (x : Zone) : (s.setZone n x).wcache = s.wcache := rfl
@[simp] theorem State.setZone_btlb (s : State) (n : Nat) (x : Zone) : (s.setZone n x).btlb = s.btlb := rfl
@[simp] theorem State.setZone_wire (s : State) (n : Nat) (x : Zone) : (s.setZone n x).wire = s.wire := rfl
@[simp] theorem State.setZone_counts (s : State) (n : Nat) (x : Zone) : (s.setZone n x).counts = s.counts := rfl
@[simp] theorem State.setZone_acks (s : State) (n : Nat) (x : Zone) : (s.setZone n x).acks = s.acks := rfl
@[simp] theorem State.setZone_forms (s : State) (n : Nat) (x : Zone) : (s.setZone n x).forms = s.forms := rfl
@[simp] theorem State.setZone_launches (s : State) (n : Nat) (x : Zone) : (s.setZone n x).launches = s.launches := rfl
@[simp] theorem State.setZone_nextLaunch (s : State) (n : Nat) (x : Zone) : (s.setZone n x).nextLaunch = s.nextLaunch := rfl
@[simp] theorem State.setZone_bulks (s : State) (n : Nat) (x : Zone) : (s.setZone n x).bulks = s.bulks := rfl
@[simp] theorem State.setZone_tickets (s : State) (n : Nat) (x : Zone) : (s.setZone n x).tickets = s.tickets := rfl
@[simp] theorem State.setZone_dir (s : State) (n : Nat) (x : Zone) : (s.setZone n x).dir = s.dir := rfl
@[simp] theorem State.setZone_tiles (s : State) (n : Nat) (x : Zone) : (s.setZone n x).tiles = s.tiles := rfl
@[simp] theorem State.setZone_l2 (s : State) (n : Nat) (x : Zone) : (s.setZone n x).l2 = s.l2 := rfl
@[simp] theorem State.setZone_snoops (s : State) (n : Nat) (x : Zone) : (s.setZone n x).snoops = s.snoops := rfl
@[simp] theorem State.setZone_lineOps (s : State) (n : Nat) (x : Zone) : (s.setZone n x).lineOps = s.lineOps := rfl
@[simp] theorem State.setZone_net (s : State) (n : Nat) (x : Zone) : (s.setZone n x).net = s.net := rfl
@[simp] theorem State.setZone_sluice (s : State) (n : Nat) (x : Zone) : (s.setZone n x).sluice = s.sluice := rfl
@[simp] theorem State.setZone_spills (s : State) (n : Nat) (x : Zone) : (s.setZone n x).spills = s.spills := rfl
@[simp] theorem State.setZone_expanders (s : State) (n : Nat) (x : Zone) : (s.setZone n x).expanders = s.expanders := rfl
@[simp] theorem State.setZone_peers (s : State) (n : Nat) (x : Zone) : (s.setZone n x).peers = s.peers := rfl
@[simp] theorem State.setZone_ports (s : State) (n : Nat) (x : Zone) : (s.setZone n x).ports = s.ports := rfl
@[simp] theorem State.setZone_stage (s : State) (n : Nat) (x : Zone) : (s.setZone n x).stage = s.stage := rfl

@[simp] theorem State.setNet_net (s : State) (n : Net) : (s.setNet n).net = n := rfl
@[simp] theorem State.setNet_core (s : State) (n : Net) : (s.setNet n).core = s.core := rfl
@[simp] theorem State.setNet_focus (s : State) (n : Net) : (s.setNet n).focus = s.focus := rfl
@[simp] theorem State.setNet_others (s : State) (n : Net) : (s.setNet n).others = s.others := rfl
@[simp] theorem State.setNet_agenda (s : State) (n : Net) : (s.setNet n).agenda = s.agenda := rfl
@[simp] theorem State.setNet_now (s : State) (n : Net) : (s.setNet n).now = s.now := rfl
@[simp] theorem State.setNet_moved (s : State) (n : Net) : (s.setNet n).moved = s.moved := rfl
@[simp] theorem State.setNet_deposited (s : State) (n : Net) : (s.setNet n).deposited = s.deposited := rfl
@[simp] theorem State.setNet_dieBase (s : State) (n : Net) : (s.setNet n).dieBase = s.dieBase := rfl
@[simp] theorem State.setNet_freeCtr (s : State) (n : Net) : (s.setNet n).freeCtr = s.freeCtr := rfl
@[simp] theorem State.setNet_mem (s : State) (n : Net) : (s.setNet n).mem = s.mem := rfl
@[simp] theorem State.setNet_home (s : State) (n : Net) : (s.setNet n).home = s.home := rfl
@[simp] theorem State.setNet_poison (s : State) (n : Net) : (s.setNet n).poison = s.poison := rfl
@[simp] theorem State.setNet_spad (s : State) (n : Net) : (s.setNet n).spad = s.spad := rfl
@[simp] theorem State.setNet_badStore (s : State) (n : Net) : (s.setNet n).badStore = s.badStore := rfl
@[simp] theorem State.setNet_lstore (s : State) (n : Net) : (s.setNet n).lstore = s.lstore := rfl
@[simp] theorem State.setNet_clusters (s : State) (n : Net) : (s.setNet n).clusters = s.clusters := rfl
@[simp] theorem State.setNet_dcaches (s : State) (n : Net) : (s.setNet n).dcaches = s.dcaches := rfl
@[simp] theorem State.setNet_parts (s : State) (n : Net) : (s.setNet n).parts = s.parts := rfl
@[simp] theorem State.setNet_tilePart (s : State) (n : Net) : (s.setNet n).tilePart = s.tilePart := rfl
@[simp] theorem State.setNet_stlb (s : State) (n : Net) : (s.setNet n).stlb = s.stlb := rfl
@[simp] theorem State.setNet_wcache (s : State) (n : Net) : (s.setNet n).wcache = s.wcache := rfl
@[simp] theorem State.setNet_btlb (s : State) (n : Net) : (s.setNet n).btlb = s.btlb := rfl
@[simp] theorem State.setNet_wire (s : State) (n : Net) : (s.setNet n).wire = s.wire := rfl
@[simp] theorem State.setNet_counts (s : State) (n : Net) : (s.setNet n).counts = s.counts := rfl
@[simp] theorem State.setNet_acks (s : State) (n : Net) : (s.setNet n).acks = s.acks := rfl
@[simp] theorem State.setNet_forms (s : State) (n : Net) : (s.setNet n).forms = s.forms := rfl
@[simp] theorem State.setNet_launches (s : State) (n : Net) : (s.setNet n).launches = s.launches := rfl
@[simp] theorem State.setNet_nextLaunch (s : State) (n : Net) : (s.setNet n).nextLaunch = s.nextLaunch := rfl
@[simp] theorem State.setNet_bulks (s : State) (n : Net) : (s.setNet n).bulks = s.bulks := rfl
@[simp] theorem State.setNet_tickets (s : State) (n : Net) : (s.setNet n).tickets = s.tickets := rfl
@[simp] theorem State.setNet_dir (s : State) (n : Net) : (s.setNet n).dir = s.dir := rfl
@[simp] theorem State.setNet_tiles (s : State) (n : Net) : (s.setNet n).tiles = s.tiles := rfl
@[simp] theorem State.setNet_l2 (s : State) (n : Net) : (s.setNet n).l2 = s.l2 := rfl
@[simp] theorem State.setNet_snoops (s : State) (n : Net) : (s.setNet n).snoops = s.snoops := rfl
@[simp] theorem State.setNet_lineOps (s : State) (n : Net) : (s.setNet n).lineOps = s.lineOps := rfl
@[simp] theorem State.setNet_zones (s : State) (n : Net) : (s.setNet n).zones = s.zones := rfl
@[simp] theorem State.setNet_sluice (s : State) (n : Net) : (s.setNet n).sluice = s.sluice := rfl
@[simp] theorem State.setNet_spills (s : State) (n : Net) : (s.setNet n).spills = s.spills := rfl
@[simp] theorem State.setNet_expanders (s : State) (n : Net) : (s.setNet n).expanders = s.expanders := rfl
@[simp] theorem State.setNet_peers (s : State) (n : Net) : (s.setNet n).peers = s.peers := rfl
@[simp] theorem State.setNet_ports (s : State) (n : Net) : (s.setNet n).ports = s.ports := rfl
@[simp] theorem State.setNet_stage (s : State) (n : Net) : (s.setNet n).stage = s.stage := rfl

@[simp] theorem State.setDir_dir (s : State) (n : Nat) (r : DirRec) : (s.setDir n r).dir = if r = DirRec.zero then dropAt s.dir n else setAt s.dir n r := rfl
@[simp] theorem State.setDir_core (s : State) (n : Nat) (r : DirRec) : (s.setDir n r).core = s.core := rfl
@[simp] theorem State.setDir_focus (s : State) (n : Nat) (r : DirRec) : (s.setDir n r).focus = s.focus := rfl
@[simp] theorem State.setDir_others (s : State) (n : Nat) (r : DirRec) : (s.setDir n r).others = s.others := rfl
@[simp] theorem State.setDir_agenda (s : State) (n : Nat) (r : DirRec) : (s.setDir n r).agenda = s.agenda := rfl
@[simp] theorem State.setDir_now (s : State) (n : Nat) (r : DirRec) : (s.setDir n r).now = s.now := rfl
@[simp] theorem State.setDir_moved (s : State) (n : Nat) (r : DirRec) : (s.setDir n r).moved = s.moved := rfl
@[simp] theorem State.setDir_deposited (s : State) (n : Nat) (r : DirRec) : (s.setDir n r).deposited = s.deposited := rfl
@[simp] theorem State.setDir_dieBase (s : State) (n : Nat) (r : DirRec) : (s.setDir n r).dieBase = s.dieBase := rfl
@[simp] theorem State.setDir_freeCtr (s : State) (n : Nat) (r : DirRec) : (s.setDir n r).freeCtr = s.freeCtr := rfl
@[simp] theorem State.setDir_mem (s : State) (n : Nat) (r : DirRec) : (s.setDir n r).mem = s.mem := rfl
@[simp] theorem State.setDir_home (s : State) (n : Nat) (r : DirRec) : (s.setDir n r).home = s.home := rfl
@[simp] theorem State.setDir_poison (s : State) (n : Nat) (r : DirRec) : (s.setDir n r).poison = s.poison := rfl
@[simp] theorem State.setDir_spad (s : State) (n : Nat) (r : DirRec) : (s.setDir n r).spad = s.spad := rfl
@[simp] theorem State.setDir_badStore (s : State) (n : Nat) (r : DirRec) : (s.setDir n r).badStore = s.badStore := rfl
@[simp] theorem State.setDir_lstore (s : State) (n : Nat) (r : DirRec) : (s.setDir n r).lstore = s.lstore := rfl
@[simp] theorem State.setDir_clusters (s : State) (n : Nat) (r : DirRec) : (s.setDir n r).clusters = s.clusters := rfl
@[simp] theorem State.setDir_dcaches (s : State) (n : Nat) (r : DirRec) : (s.setDir n r).dcaches = s.dcaches := rfl
@[simp] theorem State.setDir_parts (s : State) (n : Nat) (r : DirRec) : (s.setDir n r).parts = s.parts := rfl
@[simp] theorem State.setDir_tilePart (s : State) (n : Nat) (r : DirRec) : (s.setDir n r).tilePart = s.tilePart := rfl
@[simp] theorem State.setDir_stlb (s : State) (n : Nat) (r : DirRec) : (s.setDir n r).stlb = s.stlb := rfl
@[simp] theorem State.setDir_wcache (s : State) (n : Nat) (r : DirRec) : (s.setDir n r).wcache = s.wcache := rfl
@[simp] theorem State.setDir_btlb (s : State) (n : Nat) (r : DirRec) : (s.setDir n r).btlb = s.btlb := rfl
@[simp] theorem State.setDir_wire (s : State) (n : Nat) (r : DirRec) : (s.setDir n r).wire = s.wire := rfl
@[simp] theorem State.setDir_counts (s : State) (n : Nat) (r : DirRec) : (s.setDir n r).counts = s.counts := rfl
@[simp] theorem State.setDir_acks (s : State) (n : Nat) (r : DirRec) : (s.setDir n r).acks = s.acks := rfl
@[simp] theorem State.setDir_forms (s : State) (n : Nat) (r : DirRec) : (s.setDir n r).forms = s.forms := rfl
@[simp] theorem State.setDir_launches (s : State) (n : Nat) (r : DirRec) : (s.setDir n r).launches = s.launches := rfl
@[simp] theorem State.setDir_nextLaunch (s : State) (n : Nat) (r : DirRec) : (s.setDir n r).nextLaunch = s.nextLaunch := rfl
@[simp] theorem State.setDir_bulks (s : State) (n : Nat) (r : DirRec) : (s.setDir n r).bulks = s.bulks := rfl
@[simp] theorem State.setDir_tickets (s : State) (n : Nat) (r : DirRec) : (s.setDir n r).tickets = s.tickets := rfl
@[simp] theorem State.setDir_tiles (s : State) (n : Nat) (r : DirRec) : (s.setDir n r).tiles = s.tiles := rfl
@[simp] theorem State.setDir_l2 (s : State) (n : Nat) (r : DirRec) : (s.setDir n r).l2 = s.l2 := rfl
@[simp] theorem State.setDir_snoops (s : State) (n : Nat) (r : DirRec) : (s.setDir n r).snoops = s.snoops := rfl
@[simp] theorem State.setDir_lineOps (s : State) (n : Nat) (r : DirRec) : (s.setDir n r).lineOps = s.lineOps := rfl
@[simp] theorem State.setDir_net (s : State) (n : Nat) (r : DirRec) : (s.setDir n r).net = s.net := rfl
@[simp] theorem State.setDir_zones (s : State) (n : Nat) (r : DirRec) : (s.setDir n r).zones = s.zones := rfl
@[simp] theorem State.setDir_sluice (s : State) (n : Nat) (r : DirRec) : (s.setDir n r).sluice = s.sluice := rfl
@[simp] theorem State.setDir_spills (s : State) (n : Nat) (r : DirRec) : (s.setDir n r).spills = s.spills := rfl
@[simp] theorem State.setDir_expanders (s : State) (n : Nat) (r : DirRec) : (s.setDir n r).expanders = s.expanders := rfl
@[simp] theorem State.setDir_peers (s : State) (n : Nat) (r : DirRec) : (s.setDir n r).peers = s.peers := rfl
@[simp] theorem State.setDir_ports (s : State) (n : Nat) (r : DirRec) : (s.setDir n r).ports = s.ports := rfl
@[simp] theorem State.setDir_stage (s : State) (n : Nat) (r : DirRec) : (s.setDir n r).stage = s.stage := rfl

@[simp] theorem State.setTile_tiles (s : State) (t : Tile) : (s.setTile t).tiles = s.tiles.map fun x => if x.base = t.base then t else x := rfl
@[simp] theorem State.setTile_core (s : State) (t : Tile) : (s.setTile t).core = s.core := rfl
@[simp] theorem State.setTile_focus (s : State) (t : Tile) : (s.setTile t).focus = s.focus := rfl
@[simp] theorem State.setTile_others (s : State) (t : Tile) : (s.setTile t).others = s.others := rfl
@[simp] theorem State.setTile_agenda (s : State) (t : Tile) : (s.setTile t).agenda = s.agenda := rfl
@[simp] theorem State.setTile_now (s : State) (t : Tile) : (s.setTile t).now = s.now := rfl
@[simp] theorem State.setTile_moved (s : State) (t : Tile) : (s.setTile t).moved = s.moved := rfl
@[simp] theorem State.setTile_deposited (s : State) (t : Tile) : (s.setTile t).deposited = s.deposited := rfl
@[simp] theorem State.setTile_dieBase (s : State) (t : Tile) : (s.setTile t).dieBase = s.dieBase := rfl
@[simp] theorem State.setTile_freeCtr (s : State) (t : Tile) : (s.setTile t).freeCtr = s.freeCtr := rfl
@[simp] theorem State.setTile_mem (s : State) (t : Tile) : (s.setTile t).mem = s.mem := rfl
@[simp] theorem State.setTile_home (s : State) (t : Tile) : (s.setTile t).home = s.home := rfl
@[simp] theorem State.setTile_poison (s : State) (t : Tile) : (s.setTile t).poison = s.poison := rfl
@[simp] theorem State.setTile_spad (s : State) (t : Tile) : (s.setTile t).spad = s.spad := rfl
@[simp] theorem State.setTile_badStore (s : State) (t : Tile) : (s.setTile t).badStore = s.badStore := rfl
@[simp] theorem State.setTile_lstore (s : State) (t : Tile) : (s.setTile t).lstore = s.lstore := rfl
@[simp] theorem State.setTile_clusters (s : State) (t : Tile) : (s.setTile t).clusters = s.clusters := rfl
@[simp] theorem State.setTile_dcaches (s : State) (t : Tile) : (s.setTile t).dcaches = s.dcaches := rfl
@[simp] theorem State.setTile_parts (s : State) (t : Tile) : (s.setTile t).parts = s.parts := rfl
@[simp] theorem State.setTile_tilePart (s : State) (t : Tile) : (s.setTile t).tilePart = s.tilePart := rfl
@[simp] theorem State.setTile_stlb (s : State) (t : Tile) : (s.setTile t).stlb = s.stlb := rfl
@[simp] theorem State.setTile_wcache (s : State) (t : Tile) : (s.setTile t).wcache = s.wcache := rfl
@[simp] theorem State.setTile_btlb (s : State) (t : Tile) : (s.setTile t).btlb = s.btlb := rfl
@[simp] theorem State.setTile_wire (s : State) (t : Tile) : (s.setTile t).wire = s.wire := rfl
@[simp] theorem State.setTile_counts (s : State) (t : Tile) : (s.setTile t).counts = s.counts := rfl
@[simp] theorem State.setTile_acks (s : State) (t : Tile) : (s.setTile t).acks = s.acks := rfl
@[simp] theorem State.setTile_forms (s : State) (t : Tile) : (s.setTile t).forms = s.forms := rfl
@[simp] theorem State.setTile_launches (s : State) (t : Tile) : (s.setTile t).launches = s.launches := rfl
@[simp] theorem State.setTile_nextLaunch (s : State) (t : Tile) : (s.setTile t).nextLaunch = s.nextLaunch := rfl
@[simp] theorem State.setTile_bulks (s : State) (t : Tile) : (s.setTile t).bulks = s.bulks := rfl
@[simp] theorem State.setTile_tickets (s : State) (t : Tile) : (s.setTile t).tickets = s.tickets := rfl
@[simp] theorem State.setTile_dir (s : State) (t : Tile) : (s.setTile t).dir = s.dir := rfl
@[simp] theorem State.setTile_l2 (s : State) (t : Tile) : (s.setTile t).l2 = s.l2 := rfl
@[simp] theorem State.setTile_snoops (s : State) (t : Tile) : (s.setTile t).snoops = s.snoops := rfl
@[simp] theorem State.setTile_lineOps (s : State) (t : Tile) : (s.setTile t).lineOps = s.lineOps := rfl
@[simp] theorem State.setTile_net (s : State) (t : Tile) : (s.setTile t).net = s.net := rfl
@[simp] theorem State.setTile_zones (s : State) (t : Tile) : (s.setTile t).zones = s.zones := rfl
@[simp] theorem State.setTile_sluice (s : State) (t : Tile) : (s.setTile t).sluice = s.sluice := rfl
@[simp] theorem State.setTile_spills (s : State) (t : Tile) : (s.setTile t).spills = s.spills := rfl
@[simp] theorem State.setTile_expanders (s : State) (t : Tile) : (s.setTile t).expanders = s.expanders := rfl
@[simp] theorem State.setTile_peers (s : State) (t : Tile) : (s.setTile t).peers = s.peers := rfl
@[simp] theorem State.setTile_ports (s : State) (t : Tile) : (s.setTile t).ports = s.ports := rfl
@[simp] theorem State.setTile_stage (s : State) (t : Tile) : (s.setTile t).stage = s.stage := rfl

@[simp] theorem State.putLaunch_launches (s : State) (l : Launch) : (s.putLaunch l).launches = s.launches.map fun x => if x.num = l.num then l else x := rfl
@[simp] theorem State.putLaunch_core (s : State) (l : Launch) : (s.putLaunch l).core = s.core := rfl
@[simp] theorem State.putLaunch_focus (s : State) (l : Launch) : (s.putLaunch l).focus = s.focus := rfl
@[simp] theorem State.putLaunch_others (s : State) (l : Launch) : (s.putLaunch l).others = s.others := rfl
@[simp] theorem State.putLaunch_agenda (s : State) (l : Launch) : (s.putLaunch l).agenda = s.agenda := rfl
@[simp] theorem State.putLaunch_now (s : State) (l : Launch) : (s.putLaunch l).now = s.now := rfl
@[simp] theorem State.putLaunch_moved (s : State) (l : Launch) : (s.putLaunch l).moved = s.moved := rfl
@[simp] theorem State.putLaunch_deposited (s : State) (l : Launch) : (s.putLaunch l).deposited = s.deposited := rfl
@[simp] theorem State.putLaunch_dieBase (s : State) (l : Launch) : (s.putLaunch l).dieBase = s.dieBase := rfl
@[simp] theorem State.putLaunch_freeCtr (s : State) (l : Launch) : (s.putLaunch l).freeCtr = s.freeCtr := rfl
@[simp] theorem State.putLaunch_mem (s : State) (l : Launch) : (s.putLaunch l).mem = s.mem := rfl
@[simp] theorem State.putLaunch_home (s : State) (l : Launch) : (s.putLaunch l).home = s.home := rfl
@[simp] theorem State.putLaunch_poison (s : State) (l : Launch) : (s.putLaunch l).poison = s.poison := rfl
@[simp] theorem State.putLaunch_spad (s : State) (l : Launch) : (s.putLaunch l).spad = s.spad := rfl
@[simp] theorem State.putLaunch_badStore (s : State) (l : Launch) : (s.putLaunch l).badStore = s.badStore := rfl
@[simp] theorem State.putLaunch_lstore (s : State) (l : Launch) : (s.putLaunch l).lstore = s.lstore := rfl
@[simp] theorem State.putLaunch_clusters (s : State) (l : Launch) : (s.putLaunch l).clusters = s.clusters := rfl
@[simp] theorem State.putLaunch_dcaches (s : State) (l : Launch) : (s.putLaunch l).dcaches = s.dcaches := rfl
@[simp] theorem State.putLaunch_parts (s : State) (l : Launch) : (s.putLaunch l).parts = s.parts := rfl
@[simp] theorem State.putLaunch_tilePart (s : State) (l : Launch) : (s.putLaunch l).tilePart = s.tilePart := rfl
@[simp] theorem State.putLaunch_stlb (s : State) (l : Launch) : (s.putLaunch l).stlb = s.stlb := rfl
@[simp] theorem State.putLaunch_wcache (s : State) (l : Launch) : (s.putLaunch l).wcache = s.wcache := rfl
@[simp] theorem State.putLaunch_btlb (s : State) (l : Launch) : (s.putLaunch l).btlb = s.btlb := rfl
@[simp] theorem State.putLaunch_wire (s : State) (l : Launch) : (s.putLaunch l).wire = s.wire := rfl
@[simp] theorem State.putLaunch_counts (s : State) (l : Launch) : (s.putLaunch l).counts = s.counts := rfl
@[simp] theorem State.putLaunch_acks (s : State) (l : Launch) : (s.putLaunch l).acks = s.acks := rfl
@[simp] theorem State.putLaunch_forms (s : State) (l : Launch) : (s.putLaunch l).forms = s.forms := rfl
@[simp] theorem State.putLaunch_nextLaunch (s : State) (l : Launch) : (s.putLaunch l).nextLaunch = s.nextLaunch := rfl
@[simp] theorem State.putLaunch_bulks (s : State) (l : Launch) : (s.putLaunch l).bulks = s.bulks := rfl
@[simp] theorem State.putLaunch_tickets (s : State) (l : Launch) : (s.putLaunch l).tickets = s.tickets := rfl
@[simp] theorem State.putLaunch_dir (s : State) (l : Launch) : (s.putLaunch l).dir = s.dir := rfl
@[simp] theorem State.putLaunch_tiles (s : State) (l : Launch) : (s.putLaunch l).tiles = s.tiles := rfl
@[simp] theorem State.putLaunch_l2 (s : State) (l : Launch) : (s.putLaunch l).l2 = s.l2 := rfl
@[simp] theorem State.putLaunch_snoops (s : State) (l : Launch) : (s.putLaunch l).snoops = s.snoops := rfl
@[simp] theorem State.putLaunch_lineOps (s : State) (l : Launch) : (s.putLaunch l).lineOps = s.lineOps := rfl
@[simp] theorem State.putLaunch_net (s : State) (l : Launch) : (s.putLaunch l).net = s.net := rfl
@[simp] theorem State.putLaunch_zones (s : State) (l : Launch) : (s.putLaunch l).zones = s.zones := rfl
@[simp] theorem State.putLaunch_sluice (s : State) (l : Launch) : (s.putLaunch l).sluice = s.sluice := rfl
@[simp] theorem State.putLaunch_spills (s : State) (l : Launch) : (s.putLaunch l).spills = s.spills := rfl
@[simp] theorem State.putLaunch_expanders (s : State) (l : Launch) : (s.putLaunch l).expanders = s.expanders := rfl
@[simp] theorem State.putLaunch_peers (s : State) (l : Launch) : (s.putLaunch l).peers = s.peers := rfl
@[simp] theorem State.putLaunch_ports (s : State) (l : Launch) : (s.putLaunch l).ports = s.ports := rfl
@[simp] theorem State.putLaunch_stage (s : State) (l : Launch) : (s.putLaunch l).stage = s.stage := rfl

@[simp] theorem State.putForm_core (s : State) (f : Form) (g : Option Form) : (s.putForm f g).core = s.core := rfl
@[simp] theorem State.putForm_focus (s : State) (f : Form) (g : Option Form) : (s.putForm f g).focus = s.focus := rfl
@[simp] theorem State.putForm_others (s : State) (f : Form) (g : Option Form) : (s.putForm f g).others = s.others := rfl
@[simp] theorem State.putForm_agenda (s : State) (f : Form) (g : Option Form) : (s.putForm f g).agenda = s.agenda := rfl
@[simp] theorem State.putForm_now (s : State) (f : Form) (g : Option Form) : (s.putForm f g).now = s.now := rfl
@[simp] theorem State.putForm_moved (s : State) (f : Form) (g : Option Form) : (s.putForm f g).moved = s.moved := rfl
@[simp] theorem State.putForm_deposited (s : State) (f : Form) (g : Option Form) : (s.putForm f g).deposited = s.deposited := rfl
@[simp] theorem State.putForm_dieBase (s : State) (f : Form) (g : Option Form) : (s.putForm f g).dieBase = s.dieBase := rfl
@[simp] theorem State.putForm_freeCtr (s : State) (f : Form) (g : Option Form) : (s.putForm f g).freeCtr = s.freeCtr := rfl
@[simp] theorem State.putForm_mem (s : State) (f : Form) (g : Option Form) : (s.putForm f g).mem = s.mem := rfl
@[simp] theorem State.putForm_home (s : State) (f : Form) (g : Option Form) : (s.putForm f g).home = s.home := rfl
@[simp] theorem State.putForm_poison (s : State) (f : Form) (g : Option Form) : (s.putForm f g).poison = s.poison := rfl
@[simp] theorem State.putForm_spad (s : State) (f : Form) (g : Option Form) : (s.putForm f g).spad = s.spad := rfl
@[simp] theorem State.putForm_badStore (s : State) (f : Form) (g : Option Form) : (s.putForm f g).badStore = s.badStore := rfl
@[simp] theorem State.putForm_lstore (s : State) (f : Form) (g : Option Form) : (s.putForm f g).lstore = s.lstore := rfl
@[simp] theorem State.putForm_clusters (s : State) (f : Form) (g : Option Form) : (s.putForm f g).clusters = s.clusters := rfl
@[simp] theorem State.putForm_dcaches (s : State) (f : Form) (g : Option Form) : (s.putForm f g).dcaches = s.dcaches := rfl
@[simp] theorem State.putForm_parts (s : State) (f : Form) (g : Option Form) : (s.putForm f g).parts = s.parts := rfl
@[simp] theorem State.putForm_tilePart (s : State) (f : Form) (g : Option Form) : (s.putForm f g).tilePart = s.tilePart := rfl
@[simp] theorem State.putForm_stlb (s : State) (f : Form) (g : Option Form) : (s.putForm f g).stlb = s.stlb := rfl
@[simp] theorem State.putForm_wcache (s : State) (f : Form) (g : Option Form) : (s.putForm f g).wcache = s.wcache := rfl
@[simp] theorem State.putForm_btlb (s : State) (f : Form) (g : Option Form) : (s.putForm f g).btlb = s.btlb := rfl
@[simp] theorem State.putForm_wire (s : State) (f : Form) (g : Option Form) : (s.putForm f g).wire = s.wire := rfl
@[simp] theorem State.putForm_counts (s : State) (f : Form) (g : Option Form) : (s.putForm f g).counts = s.counts := rfl
@[simp] theorem State.putForm_acks (s : State) (f : Form) (g : Option Form) : (s.putForm f g).acks = s.acks := rfl
@[simp] theorem State.putForm_launches (s : State) (f : Form) (g : Option Form) : (s.putForm f g).launches = s.launches := rfl
@[simp] theorem State.putForm_nextLaunch (s : State) (f : Form) (g : Option Form) : (s.putForm f g).nextLaunch = s.nextLaunch := rfl
@[simp] theorem State.putForm_bulks (s : State) (f : Form) (g : Option Form) : (s.putForm f g).bulks = s.bulks := rfl
@[simp] theorem State.putForm_tickets (s : State) (f : Form) (g : Option Form) : (s.putForm f g).tickets = s.tickets := rfl
@[simp] theorem State.putForm_dir (s : State) (f : Form) (g : Option Form) : (s.putForm f g).dir = s.dir := rfl
@[simp] theorem State.putForm_tiles (s : State) (f : Form) (g : Option Form) : (s.putForm f g).tiles = s.tiles := rfl
@[simp] theorem State.putForm_l2 (s : State) (f : Form) (g : Option Form) : (s.putForm f g).l2 = s.l2 := rfl
@[simp] theorem State.putForm_snoops (s : State) (f : Form) (g : Option Form) : (s.putForm f g).snoops = s.snoops := rfl
@[simp] theorem State.putForm_lineOps (s : State) (f : Form) (g : Option Form) : (s.putForm f g).lineOps = s.lineOps := rfl
@[simp] theorem State.putForm_net (s : State) (f : Form) (g : Option Form) : (s.putForm f g).net = s.net := rfl
@[simp] theorem State.putForm_zones (s : State) (f : Form) (g : Option Form) : (s.putForm f g).zones = s.zones := rfl
@[simp] theorem State.putForm_sluice (s : State) (f : Form) (g : Option Form) : (s.putForm f g).sluice = s.sluice := rfl
@[simp] theorem State.putForm_spills (s : State) (f : Form) (g : Option Form) : (s.putForm f g).spills = s.spills := rfl
@[simp] theorem State.putForm_expanders (s : State) (f : Form) (g : Option Form) : (s.putForm f g).expanders = s.expanders := rfl
@[simp] theorem State.putForm_peers (s : State) (f : Form) (g : Option Form) : (s.putForm f g).peers = s.peers := rfl
@[simp] theorem State.putForm_ports (s : State) (f : Form) (g : Option Form) : (s.putForm f g).ports = s.ports := rfl
@[simp] theorem State.putForm_stage (s : State) (f : Form) (g : Option Form) : (s.putForm f g).stage = s.stage := rfl

@[simp] theorem State.putBulk_core (s : State) (b : Bulk) : (s.putBulk b).core = s.core := rfl
@[simp] theorem State.putBulk_focus (s : State) (b : Bulk) : (s.putBulk b).focus = s.focus := rfl
@[simp] theorem State.putBulk_others (s : State) (b : Bulk) : (s.putBulk b).others = s.others := rfl
@[simp] theorem State.putBulk_agenda (s : State) (b : Bulk) : (s.putBulk b).agenda = s.agenda := rfl
@[simp] theorem State.putBulk_now (s : State) (b : Bulk) : (s.putBulk b).now = s.now := rfl
@[simp] theorem State.putBulk_moved (s : State) (b : Bulk) : (s.putBulk b).moved = s.moved := rfl
@[simp] theorem State.putBulk_deposited (s : State) (b : Bulk) : (s.putBulk b).deposited = s.deposited := rfl
@[simp] theorem State.putBulk_dieBase (s : State) (b : Bulk) : (s.putBulk b).dieBase = s.dieBase := rfl
@[simp] theorem State.putBulk_freeCtr (s : State) (b : Bulk) : (s.putBulk b).freeCtr = s.freeCtr := rfl
@[simp] theorem State.putBulk_mem (s : State) (b : Bulk) : (s.putBulk b).mem = s.mem := rfl
@[simp] theorem State.putBulk_home (s : State) (b : Bulk) : (s.putBulk b).home = s.home := rfl
@[simp] theorem State.putBulk_poison (s : State) (b : Bulk) : (s.putBulk b).poison = s.poison := rfl
@[simp] theorem State.putBulk_spad (s : State) (b : Bulk) : (s.putBulk b).spad = s.spad := rfl
@[simp] theorem State.putBulk_badStore (s : State) (b : Bulk) : (s.putBulk b).badStore = s.badStore := rfl
@[simp] theorem State.putBulk_lstore (s : State) (b : Bulk) : (s.putBulk b).lstore = s.lstore := rfl
@[simp] theorem State.putBulk_clusters (s : State) (b : Bulk) : (s.putBulk b).clusters = s.clusters := rfl
@[simp] theorem State.putBulk_dcaches (s : State) (b : Bulk) : (s.putBulk b).dcaches = s.dcaches := rfl
@[simp] theorem State.putBulk_parts (s : State) (b : Bulk) : (s.putBulk b).parts = s.parts := rfl
@[simp] theorem State.putBulk_tilePart (s : State) (b : Bulk) : (s.putBulk b).tilePart = s.tilePart := rfl
@[simp] theorem State.putBulk_stlb (s : State) (b : Bulk) : (s.putBulk b).stlb = s.stlb := rfl
@[simp] theorem State.putBulk_wcache (s : State) (b : Bulk) : (s.putBulk b).wcache = s.wcache := rfl
@[simp] theorem State.putBulk_btlb (s : State) (b : Bulk) : (s.putBulk b).btlb = s.btlb := rfl
@[simp] theorem State.putBulk_wire (s : State) (b : Bulk) : (s.putBulk b).wire = s.wire := rfl
@[simp] theorem State.putBulk_counts (s : State) (b : Bulk) : (s.putBulk b).counts = s.counts := rfl
@[simp] theorem State.putBulk_acks (s : State) (b : Bulk) : (s.putBulk b).acks = s.acks := rfl
@[simp] theorem State.putBulk_forms (s : State) (b : Bulk) : (s.putBulk b).forms = s.forms := rfl
@[simp] theorem State.putBulk_launches (s : State) (b : Bulk) : (s.putBulk b).launches = s.launches := rfl
@[simp] theorem State.putBulk_nextLaunch (s : State) (b : Bulk) : (s.putBulk b).nextLaunch = s.nextLaunch := rfl
@[simp] theorem State.putBulk_tickets (s : State) (b : Bulk) : (s.putBulk b).tickets = s.tickets := rfl
@[simp] theorem State.putBulk_dir (s : State) (b : Bulk) : (s.putBulk b).dir = s.dir := rfl
@[simp] theorem State.putBulk_tiles (s : State) (b : Bulk) : (s.putBulk b).tiles = s.tiles := rfl
@[simp] theorem State.putBulk_l2 (s : State) (b : Bulk) : (s.putBulk b).l2 = s.l2 := rfl
@[simp] theorem State.putBulk_snoops (s : State) (b : Bulk) : (s.putBulk b).snoops = s.snoops := rfl
@[simp] theorem State.putBulk_lineOps (s : State) (b : Bulk) : (s.putBulk b).lineOps = s.lineOps := rfl
@[simp] theorem State.putBulk_net (s : State) (b : Bulk) : (s.putBulk b).net = s.net := rfl
@[simp] theorem State.putBulk_zones (s : State) (b : Bulk) : (s.putBulk b).zones = s.zones := rfl
@[simp] theorem State.putBulk_sluice (s : State) (b : Bulk) : (s.putBulk b).sluice = s.sluice := rfl
@[simp] theorem State.putBulk_spills (s : State) (b : Bulk) : (s.putBulk b).spills = s.spills := rfl
@[simp] theorem State.putBulk_expanders (s : State) (b : Bulk) : (s.putBulk b).expanders = s.expanders := rfl
@[simp] theorem State.putBulk_peers (s : State) (b : Bulk) : (s.putBulk b).peers = s.peers := rfl
@[simp] theorem State.putBulk_ports (s : State) (b : Bulk) : (s.putBulk b).ports = s.ports := rfl
@[simp] theorem State.putBulk_stage (s : State) (b : Bulk) : (s.putBulk b).stage = s.stage := rfl

@[simp] theorem State.setWin_sluice (s : State) (n : Nat) (x : HWin) : (s.setWin n x).sluice = { s.sluice with wins := setAt s.sluice.wins n x } := rfl
@[simp] theorem State.setWin_core (s : State) (n : Nat) (x : HWin) : (s.setWin n x).core = s.core := rfl
@[simp] theorem State.setWin_focus (s : State) (n : Nat) (x : HWin) : (s.setWin n x).focus = s.focus := rfl
@[simp] theorem State.setWin_others (s : State) (n : Nat) (x : HWin) : (s.setWin n x).others = s.others := rfl
@[simp] theorem State.setWin_agenda (s : State) (n : Nat) (x : HWin) : (s.setWin n x).agenda = s.agenda := rfl
@[simp] theorem State.setWin_now (s : State) (n : Nat) (x : HWin) : (s.setWin n x).now = s.now := rfl
@[simp] theorem State.setWin_moved (s : State) (n : Nat) (x : HWin) : (s.setWin n x).moved = s.moved := rfl
@[simp] theorem State.setWin_deposited (s : State) (n : Nat) (x : HWin) : (s.setWin n x).deposited = s.deposited := rfl
@[simp] theorem State.setWin_dieBase (s : State) (n : Nat) (x : HWin) : (s.setWin n x).dieBase = s.dieBase := rfl
@[simp] theorem State.setWin_freeCtr (s : State) (n : Nat) (x : HWin) : (s.setWin n x).freeCtr = s.freeCtr := rfl
@[simp] theorem State.setWin_mem (s : State) (n : Nat) (x : HWin) : (s.setWin n x).mem = s.mem := rfl
@[simp] theorem State.setWin_home (s : State) (n : Nat) (x : HWin) : (s.setWin n x).home = s.home := rfl
@[simp] theorem State.setWin_poison (s : State) (n : Nat) (x : HWin) : (s.setWin n x).poison = s.poison := rfl
@[simp] theorem State.setWin_spad (s : State) (n : Nat) (x : HWin) : (s.setWin n x).spad = s.spad := rfl
@[simp] theorem State.setWin_badStore (s : State) (n : Nat) (x : HWin) : (s.setWin n x).badStore = s.badStore := rfl
@[simp] theorem State.setWin_lstore (s : State) (n : Nat) (x : HWin) : (s.setWin n x).lstore = s.lstore := rfl
@[simp] theorem State.setWin_clusters (s : State) (n : Nat) (x : HWin) : (s.setWin n x).clusters = s.clusters := rfl
@[simp] theorem State.setWin_dcaches (s : State) (n : Nat) (x : HWin) : (s.setWin n x).dcaches = s.dcaches := rfl
@[simp] theorem State.setWin_parts (s : State) (n : Nat) (x : HWin) : (s.setWin n x).parts = s.parts := rfl
@[simp] theorem State.setWin_tilePart (s : State) (n : Nat) (x : HWin) : (s.setWin n x).tilePart = s.tilePart := rfl
@[simp] theorem State.setWin_stlb (s : State) (n : Nat) (x : HWin) : (s.setWin n x).stlb = s.stlb := rfl
@[simp] theorem State.setWin_wcache (s : State) (n : Nat) (x : HWin) : (s.setWin n x).wcache = s.wcache := rfl
@[simp] theorem State.setWin_btlb (s : State) (n : Nat) (x : HWin) : (s.setWin n x).btlb = s.btlb := rfl
@[simp] theorem State.setWin_wire (s : State) (n : Nat) (x : HWin) : (s.setWin n x).wire = s.wire := rfl
@[simp] theorem State.setWin_counts (s : State) (n : Nat) (x : HWin) : (s.setWin n x).counts = s.counts := rfl
@[simp] theorem State.setWin_acks (s : State) (n : Nat) (x : HWin) : (s.setWin n x).acks = s.acks := rfl
@[simp] theorem State.setWin_forms (s : State) (n : Nat) (x : HWin) : (s.setWin n x).forms = s.forms := rfl
@[simp] theorem State.setWin_launches (s : State) (n : Nat) (x : HWin) : (s.setWin n x).launches = s.launches := rfl
@[simp] theorem State.setWin_nextLaunch (s : State) (n : Nat) (x : HWin) : (s.setWin n x).nextLaunch = s.nextLaunch := rfl
@[simp] theorem State.setWin_bulks (s : State) (n : Nat) (x : HWin) : (s.setWin n x).bulks = s.bulks := rfl
@[simp] theorem State.setWin_tickets (s : State) (n : Nat) (x : HWin) : (s.setWin n x).tickets = s.tickets := rfl
@[simp] theorem State.setWin_dir (s : State) (n : Nat) (x : HWin) : (s.setWin n x).dir = s.dir := rfl
@[simp] theorem State.setWin_tiles (s : State) (n : Nat) (x : HWin) : (s.setWin n x).tiles = s.tiles := rfl
@[simp] theorem State.setWin_l2 (s : State) (n : Nat) (x : HWin) : (s.setWin n x).l2 = s.l2 := rfl
@[simp] theorem State.setWin_snoops (s : State) (n : Nat) (x : HWin) : (s.setWin n x).snoops = s.snoops := rfl
@[simp] theorem State.setWin_lineOps (s : State) (n : Nat) (x : HWin) : (s.setWin n x).lineOps = s.lineOps := rfl
@[simp] theorem State.setWin_net (s : State) (n : Nat) (x : HWin) : (s.setWin n x).net = s.net := rfl
@[simp] theorem State.setWin_zones (s : State) (n : Nat) (x : HWin) : (s.setWin n x).zones = s.zones := rfl
@[simp] theorem State.setWin_spills (s : State) (n : Nat) (x : HWin) : (s.setWin n x).spills = s.spills := rfl
@[simp] theorem State.setWin_expanders (s : State) (n : Nat) (x : HWin) : (s.setWin n x).expanders = s.expanders := rfl
@[simp] theorem State.setWin_peers (s : State) (n : Nat) (x : HWin) : (s.setWin n x).peers = s.peers := rfl
@[simp] theorem State.setWin_ports (s : State) (n : Nat) (x : HWin) : (s.setWin n x).ports = s.ports := rfl
@[simp] theorem State.setWin_stage (s : State) (n : Nat) (x : HWin) : (s.setWin n x).stage = s.stage := rfl

@[simp] theorem State.setSt_sluice (s : State) (n : Nat) : (s.setSt n).sluice = { s.sluice with mst := BitVec.ofNat 3 n } := rfl
@[simp] theorem State.setSt_core (s : State) (n : Nat) : (s.setSt n).core = s.core := rfl
@[simp] theorem State.setSt_focus (s : State) (n : Nat) : (s.setSt n).focus = s.focus := rfl
@[simp] theorem State.setSt_others (s : State) (n : Nat) : (s.setSt n).others = s.others := rfl
@[simp] theorem State.setSt_agenda (s : State) (n : Nat) : (s.setSt n).agenda = s.agenda := rfl
@[simp] theorem State.setSt_now (s : State) (n : Nat) : (s.setSt n).now = s.now := rfl
@[simp] theorem State.setSt_moved (s : State) (n : Nat) : (s.setSt n).moved = s.moved := rfl
@[simp] theorem State.setSt_deposited (s : State) (n : Nat) : (s.setSt n).deposited = s.deposited := rfl
@[simp] theorem State.setSt_dieBase (s : State) (n : Nat) : (s.setSt n).dieBase = s.dieBase := rfl
@[simp] theorem State.setSt_freeCtr (s : State) (n : Nat) : (s.setSt n).freeCtr = s.freeCtr := rfl
@[simp] theorem State.setSt_mem (s : State) (n : Nat) : (s.setSt n).mem = s.mem := rfl
@[simp] theorem State.setSt_home (s : State) (n : Nat) : (s.setSt n).home = s.home := rfl
@[simp] theorem State.setSt_poison (s : State) (n : Nat) : (s.setSt n).poison = s.poison := rfl
@[simp] theorem State.setSt_spad (s : State) (n : Nat) : (s.setSt n).spad = s.spad := rfl
@[simp] theorem State.setSt_badStore (s : State) (n : Nat) : (s.setSt n).badStore = s.badStore := rfl
@[simp] theorem State.setSt_lstore (s : State) (n : Nat) : (s.setSt n).lstore = s.lstore := rfl
@[simp] theorem State.setSt_clusters (s : State) (n : Nat) : (s.setSt n).clusters = s.clusters := rfl
@[simp] theorem State.setSt_dcaches (s : State) (n : Nat) : (s.setSt n).dcaches = s.dcaches := rfl
@[simp] theorem State.setSt_parts (s : State) (n : Nat) : (s.setSt n).parts = s.parts := rfl
@[simp] theorem State.setSt_tilePart (s : State) (n : Nat) : (s.setSt n).tilePart = s.tilePart := rfl
@[simp] theorem State.setSt_stlb (s : State) (n : Nat) : (s.setSt n).stlb = s.stlb := rfl
@[simp] theorem State.setSt_wcache (s : State) (n : Nat) : (s.setSt n).wcache = s.wcache := rfl
@[simp] theorem State.setSt_btlb (s : State) (n : Nat) : (s.setSt n).btlb = s.btlb := rfl
@[simp] theorem State.setSt_wire (s : State) (n : Nat) : (s.setSt n).wire = s.wire := rfl
@[simp] theorem State.setSt_counts (s : State) (n : Nat) : (s.setSt n).counts = s.counts := rfl
@[simp] theorem State.setSt_acks (s : State) (n : Nat) : (s.setSt n).acks = s.acks := rfl
@[simp] theorem State.setSt_forms (s : State) (n : Nat) : (s.setSt n).forms = s.forms := rfl
@[simp] theorem State.setSt_launches (s : State) (n : Nat) : (s.setSt n).launches = s.launches := rfl
@[simp] theorem State.setSt_nextLaunch (s : State) (n : Nat) : (s.setSt n).nextLaunch = s.nextLaunch := rfl
@[simp] theorem State.setSt_bulks (s : State) (n : Nat) : (s.setSt n).bulks = s.bulks := rfl
@[simp] theorem State.setSt_tickets (s : State) (n : Nat) : (s.setSt n).tickets = s.tickets := rfl
@[simp] theorem State.setSt_dir (s : State) (n : Nat) : (s.setSt n).dir = s.dir := rfl
@[simp] theorem State.setSt_tiles (s : State) (n : Nat) : (s.setSt n).tiles = s.tiles := rfl
@[simp] theorem State.setSt_l2 (s : State) (n : Nat) : (s.setSt n).l2 = s.l2 := rfl
@[simp] theorem State.setSt_snoops (s : State) (n : Nat) : (s.setSt n).snoops = s.snoops := rfl
@[simp] theorem State.setSt_lineOps (s : State) (n : Nat) : (s.setSt n).lineOps = s.lineOps := rfl
@[simp] theorem State.setSt_net (s : State) (n : Nat) : (s.setSt n).net = s.net := rfl
@[simp] theorem State.setSt_zones (s : State) (n : Nat) : (s.setSt n).zones = s.zones := rfl
@[simp] theorem State.setSt_spills (s : State) (n : Nat) : (s.setSt n).spills = s.spills := rfl
@[simp] theorem State.setSt_expanders (s : State) (n : Nat) : (s.setSt n).expanders = s.expanders := rfl
@[simp] theorem State.setSt_peers (s : State) (n : Nat) : (s.setSt n).peers = s.peers := rfl
@[simp] theorem State.setSt_ports (s : State) (n : Nat) : (s.setSt n).ports = s.ports := rfl
@[simp] theorem State.setSt_stage (s : State) (n : Nat) : (s.setSt n).stage = s.stage := rfl

@[simp] theorem State.setPba_sluice (s : State) (l : List Nat) : (s.setPba l).sluice = { s.sluice with pba := (s.sluice.pba ++ l).eraseDups } := rfl
@[simp] theorem State.setPba_core (s : State) (l : List Nat) : (s.setPba l).core = s.core := rfl
@[simp] theorem State.setPba_focus (s : State) (l : List Nat) : (s.setPba l).focus = s.focus := rfl
@[simp] theorem State.setPba_others (s : State) (l : List Nat) : (s.setPba l).others = s.others := rfl
@[simp] theorem State.setPba_agenda (s : State) (l : List Nat) : (s.setPba l).agenda = s.agenda := rfl
@[simp] theorem State.setPba_now (s : State) (l : List Nat) : (s.setPba l).now = s.now := rfl
@[simp] theorem State.setPba_moved (s : State) (l : List Nat) : (s.setPba l).moved = s.moved := rfl
@[simp] theorem State.setPba_deposited (s : State) (l : List Nat) : (s.setPba l).deposited = s.deposited := rfl
@[simp] theorem State.setPba_dieBase (s : State) (l : List Nat) : (s.setPba l).dieBase = s.dieBase := rfl
@[simp] theorem State.setPba_freeCtr (s : State) (l : List Nat) : (s.setPba l).freeCtr = s.freeCtr := rfl
@[simp] theorem State.setPba_mem (s : State) (l : List Nat) : (s.setPba l).mem = s.mem := rfl
@[simp] theorem State.setPba_home (s : State) (l : List Nat) : (s.setPba l).home = s.home := rfl
@[simp] theorem State.setPba_poison (s : State) (l : List Nat) : (s.setPba l).poison = s.poison := rfl
@[simp] theorem State.setPba_spad (s : State) (l : List Nat) : (s.setPba l).spad = s.spad := rfl
@[simp] theorem State.setPba_badStore (s : State) (l : List Nat) : (s.setPba l).badStore = s.badStore := rfl
@[simp] theorem State.setPba_lstore (s : State) (l : List Nat) : (s.setPba l).lstore = s.lstore := rfl
@[simp] theorem State.setPba_clusters (s : State) (l : List Nat) : (s.setPba l).clusters = s.clusters := rfl
@[simp] theorem State.setPba_dcaches (s : State) (l : List Nat) : (s.setPba l).dcaches = s.dcaches := rfl
@[simp] theorem State.setPba_parts (s : State) (l : List Nat) : (s.setPba l).parts = s.parts := rfl
@[simp] theorem State.setPba_tilePart (s : State) (l : List Nat) : (s.setPba l).tilePart = s.tilePart := rfl
@[simp] theorem State.setPba_stlb (s : State) (l : List Nat) : (s.setPba l).stlb = s.stlb := rfl
@[simp] theorem State.setPba_wcache (s : State) (l : List Nat) : (s.setPba l).wcache = s.wcache := rfl
@[simp] theorem State.setPba_btlb (s : State) (l : List Nat) : (s.setPba l).btlb = s.btlb := rfl
@[simp] theorem State.setPba_wire (s : State) (l : List Nat) : (s.setPba l).wire = s.wire := rfl
@[simp] theorem State.setPba_counts (s : State) (l : List Nat) : (s.setPba l).counts = s.counts := rfl
@[simp] theorem State.setPba_acks (s : State) (l : List Nat) : (s.setPba l).acks = s.acks := rfl
@[simp] theorem State.setPba_forms (s : State) (l : List Nat) : (s.setPba l).forms = s.forms := rfl
@[simp] theorem State.setPba_launches (s : State) (l : List Nat) : (s.setPba l).launches = s.launches := rfl
@[simp] theorem State.setPba_nextLaunch (s : State) (l : List Nat) : (s.setPba l).nextLaunch = s.nextLaunch := rfl
@[simp] theorem State.setPba_bulks (s : State) (l : List Nat) : (s.setPba l).bulks = s.bulks := rfl
@[simp] theorem State.setPba_tickets (s : State) (l : List Nat) : (s.setPba l).tickets = s.tickets := rfl
@[simp] theorem State.setPba_dir (s : State) (l : List Nat) : (s.setPba l).dir = s.dir := rfl
@[simp] theorem State.setPba_tiles (s : State) (l : List Nat) : (s.setPba l).tiles = s.tiles := rfl
@[simp] theorem State.setPba_l2 (s : State) (l : List Nat) : (s.setPba l).l2 = s.l2 := rfl
@[simp] theorem State.setPba_snoops (s : State) (l : List Nat) : (s.setPba l).snoops = s.snoops := rfl
@[simp] theorem State.setPba_lineOps (s : State) (l : List Nat) : (s.setPba l).lineOps = s.lineOps := rfl
@[simp] theorem State.setPba_net (s : State) (l : List Nat) : (s.setPba l).net = s.net := rfl
@[simp] theorem State.setPba_zones (s : State) (l : List Nat) : (s.setPba l).zones = s.zones := rfl
@[simp] theorem State.setPba_spills (s : State) (l : List Nat) : (s.setPba l).spills = s.spills := rfl
@[simp] theorem State.setPba_expanders (s : State) (l : List Nat) : (s.setPba l).expanders = s.expanders := rfl
@[simp] theorem State.setPba_peers (s : State) (l : List Nat) : (s.setPba l).peers = s.peers := rfl
@[simp] theorem State.setPba_ports (s : State) (l : List Nat) : (s.setPba l).ports = s.ports := rfl
@[simp] theorem State.setPba_stage (s : State) (l : List Nat) : (s.setPba l).stage = s.stage := rfl

@[simp] theorem State.putStore_spad (s : State) (a n m v : Nat) : (s.putStore a n m v).spad = s.spad.writeMask a n m v := rfl
@[simp] theorem State.putStore_core (s : State) (a n m v : Nat) : (s.putStore a n m v).core = s.core := rfl
@[simp] theorem State.putStore_focus (s : State) (a n m v : Nat) : (s.putStore a n m v).focus = s.focus := rfl
@[simp] theorem State.putStore_others (s : State) (a n m v : Nat) : (s.putStore a n m v).others = s.others := rfl
@[simp] theorem State.putStore_agenda (s : State) (a n m v : Nat) : (s.putStore a n m v).agenda = s.agenda := rfl
@[simp] theorem State.putStore_now (s : State) (a n m v : Nat) : (s.putStore a n m v).now = s.now := rfl
@[simp] theorem State.putStore_moved (s : State) (a n m v : Nat) : (s.putStore a n m v).moved = s.moved := rfl
@[simp] theorem State.putStore_deposited (s : State) (a n m v : Nat) : (s.putStore a n m v).deposited = s.deposited := rfl
@[simp] theorem State.putStore_dieBase (s : State) (a n m v : Nat) : (s.putStore a n m v).dieBase = s.dieBase := rfl
@[simp] theorem State.putStore_freeCtr (s : State) (a n m v : Nat) : (s.putStore a n m v).freeCtr = s.freeCtr := rfl
@[simp] theorem State.putStore_mem (s : State) (a n m v : Nat) : (s.putStore a n m v).mem = s.mem := rfl
@[simp] theorem State.putStore_home (s : State) (a n m v : Nat) : (s.putStore a n m v).home = s.home := rfl
@[simp] theorem State.putStore_poison (s : State) (a n m v : Nat) : (s.putStore a n m v).poison = s.poison := rfl
@[simp] theorem State.putStore_lstore (s : State) (a n m v : Nat) : (s.putStore a n m v).lstore = s.lstore := rfl
@[simp] theorem State.putStore_clusters (s : State) (a n m v : Nat) : (s.putStore a n m v).clusters = s.clusters := rfl
@[simp] theorem State.putStore_dcaches (s : State) (a n m v : Nat) : (s.putStore a n m v).dcaches = s.dcaches := rfl
@[simp] theorem State.putStore_parts (s : State) (a n m v : Nat) : (s.putStore a n m v).parts = s.parts := rfl
@[simp] theorem State.putStore_tilePart (s : State) (a n m v : Nat) : (s.putStore a n m v).tilePart = s.tilePart := rfl
@[simp] theorem State.putStore_stlb (s : State) (a n m v : Nat) : (s.putStore a n m v).stlb = s.stlb := rfl
@[simp] theorem State.putStore_wcache (s : State) (a n m v : Nat) : (s.putStore a n m v).wcache = s.wcache := rfl
@[simp] theorem State.putStore_btlb (s : State) (a n m v : Nat) : (s.putStore a n m v).btlb = s.btlb := rfl
@[simp] theorem State.putStore_wire (s : State) (a n m v : Nat) : (s.putStore a n m v).wire = s.wire := rfl
@[simp] theorem State.putStore_counts (s : State) (a n m v : Nat) : (s.putStore a n m v).counts = s.counts := rfl
@[simp] theorem State.putStore_acks (s : State) (a n m v : Nat) : (s.putStore a n m v).acks = s.acks := rfl
@[simp] theorem State.putStore_forms (s : State) (a n m v : Nat) : (s.putStore a n m v).forms = s.forms := rfl
@[simp] theorem State.putStore_launches (s : State) (a n m v : Nat) : (s.putStore a n m v).launches = s.launches := rfl
@[simp] theorem State.putStore_nextLaunch (s : State) (a n m v : Nat) : (s.putStore a n m v).nextLaunch = s.nextLaunch := rfl
@[simp] theorem State.putStore_bulks (s : State) (a n m v : Nat) : (s.putStore a n m v).bulks = s.bulks := rfl
@[simp] theorem State.putStore_tickets (s : State) (a n m v : Nat) : (s.putStore a n m v).tickets = s.tickets := rfl
@[simp] theorem State.putStore_dir (s : State) (a n m v : Nat) : (s.putStore a n m v).dir = s.dir := rfl
@[simp] theorem State.putStore_tiles (s : State) (a n m v : Nat) : (s.putStore a n m v).tiles = s.tiles := rfl
@[simp] theorem State.putStore_l2 (s : State) (a n m v : Nat) : (s.putStore a n m v).l2 = s.l2 := rfl
@[simp] theorem State.putStore_snoops (s : State) (a n m v : Nat) : (s.putStore a n m v).snoops = s.snoops := rfl
@[simp] theorem State.putStore_lineOps (s : State) (a n m v : Nat) : (s.putStore a n m v).lineOps = s.lineOps := rfl
@[simp] theorem State.putStore_net (s : State) (a n m v : Nat) : (s.putStore a n m v).net = s.net := rfl
@[simp] theorem State.putStore_zones (s : State) (a n m v : Nat) : (s.putStore a n m v).zones = s.zones := rfl
@[simp] theorem State.putStore_sluice (s : State) (a n m v : Nat) : (s.putStore a n m v).sluice = s.sluice := rfl
@[simp] theorem State.putStore_spills (s : State) (a n m v : Nat) : (s.putStore a n m v).spills = s.spills := rfl
@[simp] theorem State.putStore_expanders (s : State) (a n m v : Nat) : (s.putStore a n m v).expanders = s.expanders := rfl
@[simp] theorem State.putStore_peers (s : State) (a n m v : Nat) : (s.putStore a n m v).peers = s.peers := rfl
@[simp] theorem State.putStore_ports (s : State) (a n m v : Nat) : (s.putStore a n m v).ports = s.ports := rfl
@[simp] theorem State.putStore_stage (s : State) (a n m v : Nat) : (s.putStore a n m v).stage = s.stage := rfl

@[simp] theorem State.putWhole_spad (s : State) (a n v : Nat) : (s.putWhole a n v).spad = s.spad.writeLE a n v := rfl
@[simp] theorem State.putWhole_core (s : State) (a n v : Nat) : (s.putWhole a n v).core = s.core := rfl
@[simp] theorem State.putWhole_focus (s : State) (a n v : Nat) : (s.putWhole a n v).focus = s.focus := rfl
@[simp] theorem State.putWhole_others (s : State) (a n v : Nat) : (s.putWhole a n v).others = s.others := rfl
@[simp] theorem State.putWhole_agenda (s : State) (a n v : Nat) : (s.putWhole a n v).agenda = s.agenda := rfl
@[simp] theorem State.putWhole_now (s : State) (a n v : Nat) : (s.putWhole a n v).now = s.now := rfl
@[simp] theorem State.putWhole_moved (s : State) (a n v : Nat) : (s.putWhole a n v).moved = s.moved := rfl
@[simp] theorem State.putWhole_deposited (s : State) (a n v : Nat) : (s.putWhole a n v).deposited = s.deposited := rfl
@[simp] theorem State.putWhole_dieBase (s : State) (a n v : Nat) : (s.putWhole a n v).dieBase = s.dieBase := rfl
@[simp] theorem State.putWhole_freeCtr (s : State) (a n v : Nat) : (s.putWhole a n v).freeCtr = s.freeCtr := rfl
@[simp] theorem State.putWhole_mem (s : State) (a n v : Nat) : (s.putWhole a n v).mem = s.mem := rfl
@[simp] theorem State.putWhole_home (s : State) (a n v : Nat) : (s.putWhole a n v).home = s.home := rfl
@[simp] theorem State.putWhole_poison (s : State) (a n v : Nat) : (s.putWhole a n v).poison = s.poison := rfl
@[simp] theorem State.putWhole_lstore (s : State) (a n v : Nat) : (s.putWhole a n v).lstore = s.lstore := rfl
@[simp] theorem State.putWhole_clusters (s : State) (a n v : Nat) : (s.putWhole a n v).clusters = s.clusters := rfl
@[simp] theorem State.putWhole_dcaches (s : State) (a n v : Nat) : (s.putWhole a n v).dcaches = s.dcaches := rfl
@[simp] theorem State.putWhole_parts (s : State) (a n v : Nat) : (s.putWhole a n v).parts = s.parts := rfl
@[simp] theorem State.putWhole_tilePart (s : State) (a n v : Nat) : (s.putWhole a n v).tilePart = s.tilePart := rfl
@[simp] theorem State.putWhole_stlb (s : State) (a n v : Nat) : (s.putWhole a n v).stlb = s.stlb := rfl
@[simp] theorem State.putWhole_wcache (s : State) (a n v : Nat) : (s.putWhole a n v).wcache = s.wcache := rfl
@[simp] theorem State.putWhole_btlb (s : State) (a n v : Nat) : (s.putWhole a n v).btlb = s.btlb := rfl
@[simp] theorem State.putWhole_wire (s : State) (a n v : Nat) : (s.putWhole a n v).wire = s.wire := rfl
@[simp] theorem State.putWhole_counts (s : State) (a n v : Nat) : (s.putWhole a n v).counts = s.counts := rfl
@[simp] theorem State.putWhole_acks (s : State) (a n v : Nat) : (s.putWhole a n v).acks = s.acks := rfl
@[simp] theorem State.putWhole_forms (s : State) (a n v : Nat) : (s.putWhole a n v).forms = s.forms := rfl
@[simp] theorem State.putWhole_launches (s : State) (a n v : Nat) : (s.putWhole a n v).launches = s.launches := rfl
@[simp] theorem State.putWhole_nextLaunch (s : State) (a n v : Nat) : (s.putWhole a n v).nextLaunch = s.nextLaunch := rfl
@[simp] theorem State.putWhole_bulks (s : State) (a n v : Nat) : (s.putWhole a n v).bulks = s.bulks := rfl
@[simp] theorem State.putWhole_tickets (s : State) (a n v : Nat) : (s.putWhole a n v).tickets = s.tickets := rfl
@[simp] theorem State.putWhole_dir (s : State) (a n v : Nat) : (s.putWhole a n v).dir = s.dir := rfl
@[simp] theorem State.putWhole_tiles (s : State) (a n v : Nat) : (s.putWhole a n v).tiles = s.tiles := rfl
@[simp] theorem State.putWhole_l2 (s : State) (a n v : Nat) : (s.putWhole a n v).l2 = s.l2 := rfl
@[simp] theorem State.putWhole_snoops (s : State) (a n v : Nat) : (s.putWhole a n v).snoops = s.snoops := rfl
@[simp] theorem State.putWhole_lineOps (s : State) (a n v : Nat) : (s.putWhole a n v).lineOps = s.lineOps := rfl
@[simp] theorem State.putWhole_net (s : State) (a n v : Nat) : (s.putWhole a n v).net = s.net := rfl
@[simp] theorem State.putWhole_zones (s : State) (a n v : Nat) : (s.putWhole a n v).zones = s.zones := rfl
@[simp] theorem State.putWhole_sluice (s : State) (a n v : Nat) : (s.putWhole a n v).sluice = s.sluice := rfl
@[simp] theorem State.putWhole_spills (s : State) (a n v : Nat) : (s.putWhole a n v).spills = s.spills := rfl
@[simp] theorem State.putWhole_expanders (s : State) (a n v : Nat) : (s.putWhole a n v).expanders = s.expanders := rfl
@[simp] theorem State.putWhole_peers (s : State) (a n v : Nat) : (s.putWhole a n v).peers = s.peers := rfl
@[simp] theorem State.putWhole_ports (s : State) (a n v : Nat) : (s.putWhole a n v).ports = s.ports := rfl
@[simp] theorem State.putWhole_stage (s : State) (a n v : Nat) : (s.putWhole a n v).stage = s.stage := rfl

@[simp] theorem State.healStore_core (s : State) (a n : Nat) (f : Nat → Bool) : (s.healStore a n f).core = s.core := rfl
@[simp] theorem State.healStore_focus (s : State) (a n : Nat) (f : Nat → Bool) : (s.healStore a n f).focus = s.focus := rfl
@[simp] theorem State.healStore_others (s : State) (a n : Nat) (f : Nat → Bool) : (s.healStore a n f).others = s.others := rfl
@[simp] theorem State.healStore_agenda (s : State) (a n : Nat) (f : Nat → Bool) : (s.healStore a n f).agenda = s.agenda := rfl
@[simp] theorem State.healStore_now (s : State) (a n : Nat) (f : Nat → Bool) : (s.healStore a n f).now = s.now := rfl
@[simp] theorem State.healStore_moved (s : State) (a n : Nat) (f : Nat → Bool) : (s.healStore a n f).moved = s.moved := rfl
@[simp] theorem State.healStore_deposited (s : State) (a n : Nat) (f : Nat → Bool) : (s.healStore a n f).deposited = s.deposited := rfl
@[simp] theorem State.healStore_dieBase (s : State) (a n : Nat) (f : Nat → Bool) : (s.healStore a n f).dieBase = s.dieBase := rfl
@[simp] theorem State.healStore_freeCtr (s : State) (a n : Nat) (f : Nat → Bool) : (s.healStore a n f).freeCtr = s.freeCtr := rfl
@[simp] theorem State.healStore_mem (s : State) (a n : Nat) (f : Nat → Bool) : (s.healStore a n f).mem = s.mem := rfl
@[simp] theorem State.healStore_home (s : State) (a n : Nat) (f : Nat → Bool) : (s.healStore a n f).home = s.home := rfl
@[simp] theorem State.healStore_poison (s : State) (a n : Nat) (f : Nat → Bool) : (s.healStore a n f).poison = s.poison := rfl
@[simp] theorem State.healStore_spad (s : State) (a n : Nat) (f : Nat → Bool) : (s.healStore a n f).spad = s.spad := rfl
@[simp] theorem State.healStore_lstore (s : State) (a n : Nat) (f : Nat → Bool) : (s.healStore a n f).lstore = s.lstore := rfl
@[simp] theorem State.healStore_clusters (s : State) (a n : Nat) (f : Nat → Bool) : (s.healStore a n f).clusters = s.clusters := rfl
@[simp] theorem State.healStore_dcaches (s : State) (a n : Nat) (f : Nat → Bool) : (s.healStore a n f).dcaches = s.dcaches := rfl
@[simp] theorem State.healStore_parts (s : State) (a n : Nat) (f : Nat → Bool) : (s.healStore a n f).parts = s.parts := rfl
@[simp] theorem State.healStore_tilePart (s : State) (a n : Nat) (f : Nat → Bool) : (s.healStore a n f).tilePart = s.tilePart := rfl
@[simp] theorem State.healStore_stlb (s : State) (a n : Nat) (f : Nat → Bool) : (s.healStore a n f).stlb = s.stlb := rfl
@[simp] theorem State.healStore_wcache (s : State) (a n : Nat) (f : Nat → Bool) : (s.healStore a n f).wcache = s.wcache := rfl
@[simp] theorem State.healStore_btlb (s : State) (a n : Nat) (f : Nat → Bool) : (s.healStore a n f).btlb = s.btlb := rfl
@[simp] theorem State.healStore_wire (s : State) (a n : Nat) (f : Nat → Bool) : (s.healStore a n f).wire = s.wire := rfl
@[simp] theorem State.healStore_counts (s : State) (a n : Nat) (f : Nat → Bool) : (s.healStore a n f).counts = s.counts := rfl
@[simp] theorem State.healStore_acks (s : State) (a n : Nat) (f : Nat → Bool) : (s.healStore a n f).acks = s.acks := rfl
@[simp] theorem State.healStore_forms (s : State) (a n : Nat) (f : Nat → Bool) : (s.healStore a n f).forms = s.forms := rfl
@[simp] theorem State.healStore_launches (s : State) (a n : Nat) (f : Nat → Bool) : (s.healStore a n f).launches = s.launches := rfl
@[simp] theorem State.healStore_nextLaunch (s : State) (a n : Nat) (f : Nat → Bool) : (s.healStore a n f).nextLaunch = s.nextLaunch := rfl
@[simp] theorem State.healStore_bulks (s : State) (a n : Nat) (f : Nat → Bool) : (s.healStore a n f).bulks = s.bulks := rfl
@[simp] theorem State.healStore_tickets (s : State) (a n : Nat) (f : Nat → Bool) : (s.healStore a n f).tickets = s.tickets := rfl
@[simp] theorem State.healStore_dir (s : State) (a n : Nat) (f : Nat → Bool) : (s.healStore a n f).dir = s.dir := rfl
@[simp] theorem State.healStore_tiles (s : State) (a n : Nat) (f : Nat → Bool) : (s.healStore a n f).tiles = s.tiles := rfl
@[simp] theorem State.healStore_l2 (s : State) (a n : Nat) (f : Nat → Bool) : (s.healStore a n f).l2 = s.l2 := rfl
@[simp] theorem State.healStore_snoops (s : State) (a n : Nat) (f : Nat → Bool) : (s.healStore a n f).snoops = s.snoops := rfl
@[simp] theorem State.healStore_lineOps (s : State) (a n : Nat) (f : Nat → Bool) : (s.healStore a n f).lineOps = s.lineOps := rfl
@[simp] theorem State.healStore_net (s : State) (a n : Nat) (f : Nat → Bool) : (s.healStore a n f).net = s.net := rfl
@[simp] theorem State.healStore_zones (s : State) (a n : Nat) (f : Nat → Bool) : (s.healStore a n f).zones = s.zones := rfl
@[simp] theorem State.healStore_sluice (s : State) (a n : Nat) (f : Nat → Bool) : (s.healStore a n f).sluice = s.sluice := rfl
@[simp] theorem State.healStore_spills (s : State) (a n : Nat) (f : Nat → Bool) : (s.healStore a n f).spills = s.spills := rfl
@[simp] theorem State.healStore_expanders (s : State) (a n : Nat) (f : Nat → Bool) : (s.healStore a n f).expanders = s.expanders := rfl
@[simp] theorem State.healStore_peers (s : State) (a n : Nat) (f : Nat → Bool) : (s.healStore a n f).peers = s.peers := rfl
@[simp] theorem State.healStore_ports (s : State) (a n : Nat) (f : Nat → Bool) : (s.healStore a n f).ports = s.ports := rfl
@[simp] theorem State.healStore_stage (s : State) (a n : Nat) (f : Nat → Bool) : (s.healStore a n f).stage = s.stage := rfl

@[simp] theorem State.poisonLine_poison (s : State) (n : Nat) : (s.poisonLine n).poison = setAt s.poison n (BitVec.allOnes 128) := rfl
@[simp] theorem State.poisonLine_core (s : State) (n : Nat) : (s.poisonLine n).core = s.core := rfl
@[simp] theorem State.poisonLine_focus (s : State) (n : Nat) : (s.poisonLine n).focus = s.focus := rfl
@[simp] theorem State.poisonLine_others (s : State) (n : Nat) : (s.poisonLine n).others = s.others := rfl
@[simp] theorem State.poisonLine_agenda (s : State) (n : Nat) : (s.poisonLine n).agenda = s.agenda := rfl
@[simp] theorem State.poisonLine_now (s : State) (n : Nat) : (s.poisonLine n).now = s.now := rfl
@[simp] theorem State.poisonLine_moved (s : State) (n : Nat) : (s.poisonLine n).moved = s.moved := rfl
@[simp] theorem State.poisonLine_deposited (s : State) (n : Nat) : (s.poisonLine n).deposited = s.deposited := rfl
@[simp] theorem State.poisonLine_dieBase (s : State) (n : Nat) : (s.poisonLine n).dieBase = s.dieBase := rfl
@[simp] theorem State.poisonLine_freeCtr (s : State) (n : Nat) : (s.poisonLine n).freeCtr = s.freeCtr := rfl
@[simp] theorem State.poisonLine_mem (s : State) (n : Nat) : (s.poisonLine n).mem = s.mem := rfl
@[simp] theorem State.poisonLine_home (s : State) (n : Nat) : (s.poisonLine n).home = s.home := rfl
@[simp] theorem State.poisonLine_spad (s : State) (n : Nat) : (s.poisonLine n).spad = s.spad := rfl
@[simp] theorem State.poisonLine_badStore (s : State) (n : Nat) : (s.poisonLine n).badStore = s.badStore := rfl
@[simp] theorem State.poisonLine_lstore (s : State) (n : Nat) : (s.poisonLine n).lstore = s.lstore := rfl
@[simp] theorem State.poisonLine_clusters (s : State) (n : Nat) : (s.poisonLine n).clusters = s.clusters := rfl
@[simp] theorem State.poisonLine_dcaches (s : State) (n : Nat) : (s.poisonLine n).dcaches = s.dcaches := rfl
@[simp] theorem State.poisonLine_parts (s : State) (n : Nat) : (s.poisonLine n).parts = s.parts := rfl
@[simp] theorem State.poisonLine_tilePart (s : State) (n : Nat) : (s.poisonLine n).tilePart = s.tilePart := rfl
@[simp] theorem State.poisonLine_stlb (s : State) (n : Nat) : (s.poisonLine n).stlb = s.stlb := rfl
@[simp] theorem State.poisonLine_wcache (s : State) (n : Nat) : (s.poisonLine n).wcache = s.wcache := rfl
@[simp] theorem State.poisonLine_btlb (s : State) (n : Nat) : (s.poisonLine n).btlb = s.btlb := rfl
@[simp] theorem State.poisonLine_wire (s : State) (n : Nat) : (s.poisonLine n).wire = s.wire := rfl
@[simp] theorem State.poisonLine_counts (s : State) (n : Nat) : (s.poisonLine n).counts = s.counts := rfl
@[simp] theorem State.poisonLine_acks (s : State) (n : Nat) : (s.poisonLine n).acks = s.acks := rfl
@[simp] theorem State.poisonLine_forms (s : State) (n : Nat) : (s.poisonLine n).forms = s.forms := rfl
@[simp] theorem State.poisonLine_launches (s : State) (n : Nat) : (s.poisonLine n).launches = s.launches := rfl
@[simp] theorem State.poisonLine_nextLaunch (s : State) (n : Nat) : (s.poisonLine n).nextLaunch = s.nextLaunch := rfl
@[simp] theorem State.poisonLine_bulks (s : State) (n : Nat) : (s.poisonLine n).bulks = s.bulks := rfl
@[simp] theorem State.poisonLine_tickets (s : State) (n : Nat) : (s.poisonLine n).tickets = s.tickets := rfl
@[simp] theorem State.poisonLine_dir (s : State) (n : Nat) : (s.poisonLine n).dir = s.dir := rfl
@[simp] theorem State.poisonLine_tiles (s : State) (n : Nat) : (s.poisonLine n).tiles = s.tiles := rfl
@[simp] theorem State.poisonLine_l2 (s : State) (n : Nat) : (s.poisonLine n).l2 = s.l2 := rfl
@[simp] theorem State.poisonLine_snoops (s : State) (n : Nat) : (s.poisonLine n).snoops = s.snoops := rfl
@[simp] theorem State.poisonLine_lineOps (s : State) (n : Nat) : (s.poisonLine n).lineOps = s.lineOps := rfl
@[simp] theorem State.poisonLine_net (s : State) (n : Nat) : (s.poisonLine n).net = s.net := rfl
@[simp] theorem State.poisonLine_zones (s : State) (n : Nat) : (s.poisonLine n).zones = s.zones := rfl
@[simp] theorem State.poisonLine_sluice (s : State) (n : Nat) : (s.poisonLine n).sluice = s.sluice := rfl
@[simp] theorem State.poisonLine_spills (s : State) (n : Nat) : (s.poisonLine n).spills = s.spills := rfl
@[simp] theorem State.poisonLine_expanders (s : State) (n : Nat) : (s.poisonLine n).expanders = s.expanders := rfl
@[simp] theorem State.poisonLine_peers (s : State) (n : Nat) : (s.poisonLine n).peers = s.peers := rfl
@[simp] theorem State.poisonLine_ports (s : State) (n : Nat) : (s.poisonLine n).ports = s.ports := rfl
@[simp] theorem State.poisonLine_stage (s : State) (n : Nat) : (s.poisonLine n).stage = s.stage := rfl

/-! ### Poison of the cluster stores (R413) -/

/-- A byte is poisoned after a write where it was before and the write did not replace it whole. -/
theorem State.healStore_storeBad (s : State) (a n b : Nat) (f : Nat → Bool) :
    (s.healStore a n f).storeBad b 1 = (s.storeBad b 1 && !(decide (a ≤ b ∧ b < a + n) && f (b - a))) := by
  rw [Bool.eq_iff_iff]
  simp only [State.storeBad, State.healStore, List.any_filter, List.any_eq_true, Bool.and_eq_true]
  constructor
  · rintro ⟨k, hk, h1, h2⟩
    obtain rfl : k = b := by simp only [decide_eq_true_eq] at h2; omega
    exact ⟨⟨k, hk, h2⟩, h1⟩
  · rintro ⟨⟨k, hk, h2⟩, h1⟩
    obtain rfl : k = b := by simp only [decide_eq_true_eq] at h2; omega
    exact ⟨k, hk, h1, h2⟩

/-- Without poison a write lifts none. -/
@[simp] theorem State.healStore_sound (s : State) (a n : Nat) (f : Nat → Bool) (h : s.badStore = []) : s.healStore a n f = s := by
  cases s; simp_all [State.healStore]

/-- A store without poison has none in any of its bytes. -/
@[simp] theorem State.storeBad_sound (s : State) (a n : Nat) (h : s.badStore = []) : s.storeBad a n = false := by
  simp [State.storeBad, h]

/-! ### Time and taken messages -/

@[simp] theorem State.tick_now (s : State) (d : Nat) : (s.tick d).now = s.reach (s.now + d) := rfl
@[simp] theorem State.tick_freeCtr (s : State) (d : Nat) : (s.tick d).freeCtr = s.freeCtr + 65536 := rfl
@[simp] theorem State.tick_core (s : State) (d : Nat) : (s.tick d).core = s.core := rfl
@[simp] theorem State.tick_focus (s : State) (d : Nat) : (s.tick d).focus = s.focus := rfl
@[simp] theorem State.tick_others (s : State) (d : Nat) : (s.tick d).others = s.others := rfl
@[simp] theorem State.tick_agenda (s : State) (d : Nat) : (s.tick d).agenda = s.agenda := rfl
@[simp] theorem State.tick_dieBase (s : State) (d : Nat) : (s.tick d).dieBase = s.dieBase := rfl
@[simp] theorem State.tick_mem (s : State) (d : Nat) : (s.tick d).mem = s.mem := rfl
@[simp] theorem State.tick_home (s : State) (d : Nat) : (s.tick d).home = s.home := rfl
@[simp] theorem State.tick_poison (s : State) (d : Nat) : (s.tick d).poison = s.poison := rfl
@[simp] theorem State.tick_spad (s : State) (d : Nat) : (s.tick d).spad = s.spad := rfl
@[simp] theorem State.tick_badStore (s : State) (d : Nat) : (s.tick d).badStore = s.badStore := rfl
@[simp] theorem State.tick_lstore (s : State) (d : Nat) : (s.tick d).lstore = s.lstore := rfl
@[simp] theorem State.tick_clusters (s : State) (d : Nat) : (s.tick d).clusters = s.clusters := rfl
@[simp] theorem State.tick_dcaches (s : State) (d : Nat) : (s.tick d).dcaches = s.dcaches := rfl
@[simp] theorem State.tick_parts (s : State) (d : Nat) : (s.tick d).parts = s.parts := rfl
@[simp] theorem State.tick_tilePart (s : State) (d : Nat) : (s.tick d).tilePart = s.tilePart := rfl
@[simp] theorem State.tick_stlb (s : State) (d : Nat) : (s.tick d).stlb = s.stlb := rfl
@[simp] theorem State.tick_wcache (s : State) (d : Nat) : (s.tick d).wcache = s.wcache := rfl
@[simp] theorem State.tick_btlb (s : State) (d : Nat) : (s.tick d).btlb = s.btlb := rfl
@[simp] theorem State.tick_wire (s : State) (d : Nat) : (s.tick d).wire = s.wire := rfl
@[simp] theorem State.tick_counts (s : State) (d : Nat) : (s.tick d).counts = s.counts := rfl
@[simp] theorem State.tick_acks (s : State) (d : Nat) : (s.tick d).acks = s.acks := rfl
@[simp] theorem State.tick_forms (s : State) (d : Nat) : (s.tick d).forms = s.forms := rfl
@[simp] theorem State.tick_launches (s : State) (d : Nat) : (s.tick d).launches = s.launches := rfl
@[simp] theorem State.tick_nextLaunch (s : State) (d : Nat) : (s.tick d).nextLaunch = s.nextLaunch := rfl
@[simp] theorem State.tick_bulks (s : State) (d : Nat) : (s.tick d).bulks = s.bulks := rfl
@[simp] theorem State.tick_tickets (s : State) (d : Nat) : (s.tick d).tickets = s.tickets := rfl
@[simp] theorem State.tick_dir (s : State) (d : Nat) : (s.tick d).dir = s.dir := rfl
@[simp] theorem State.tick_tiles (s : State) (d : Nat) : (s.tick d).tiles = s.tiles := rfl
@[simp] theorem State.tick_l2 (s : State) (d : Nat) : (s.tick d).l2 = s.l2 := rfl
@[simp] theorem State.tick_snoops (s : State) (d : Nat) : (s.tick d).snoops = s.snoops := rfl
@[simp] theorem State.tick_lineOps (s : State) (d : Nat) : (s.tick d).lineOps = s.lineOps := rfl
@[simp] theorem State.tick_net (s : State) (d : Nat) : (s.tick d).net = s.net := rfl
@[simp] theorem State.tick_zones (s : State) (d : Nat) : (s.tick d).zones = s.zones := rfl
@[simp] theorem State.tick_sluice (s : State) (d : Nat) : (s.tick d).sluice = s.sluice := rfl
@[simp] theorem State.tick_spills (s : State) (d : Nat) : (s.tick d).spills = s.spills := rfl
@[simp] theorem State.tick_expanders (s : State) (d : Nat) : (s.tick d).expanders = s.expanders := rfl
@[simp] theorem State.tick_peers (s : State) (d : Nat) : (s.tick d).peers = s.peers := rfl
@[simp] theorem State.tick_ports (s : State) (d : Nat) : (s.tick d).ports = s.ports := rfl
@[simp] theorem State.tick_stage (s : State) (d : Nat) : (s.tick d).stage = s.stage := rfl

/-- Time for an agent's turn moves time, what has moved or landed in its cycle, and the counter of free values, and nothing else. -/
theorem State.tickCore_frame {s t : State} {d sid : Nat} (h : s.tickCore d sid = some t) :
    t = { s with now := t.now, moved := t.moved, deposited := t.deposited, freeCtr := s.freeCtr + 65536 } := by
  simp only [State.tickCore] at h
  generalize hu : (if d = 0 ∧ s.late sid then s.tick 1 else s.tick d) = u at h
  split at h
  · cases h
  · cases h
    subst hu
    split <;> rfl

/-- Without flits, packets and an open damper window time passes as asked. -/
theorem State.reach_noFlits (s : State) (t : Nat) (h : s.net.flits = []) (hp : s.net.pkts = []) (hd : s.damperIdle = true) :
    s.reach t = t := by simp [State.reach, h, hp, hd]

@[simp] theorem State.takeWire_wire (s : State) (n : Nat) (w : Wire) : (s.takeWire n w).wire = s.wire.eraseIdx n := rfl
@[simp] theorem State.takeWire_core (s : State) (n : Nat) (w : Wire) : (s.takeWire n w).core = s.core := rfl
@[simp] theorem State.takeWire_focus (s : State) (n : Nat) (w : Wire) : (s.takeWire n w).focus = s.focus := rfl
@[simp] theorem State.takeWire_others (s : State) (n : Nat) (w : Wire) : (s.takeWire n w).others = s.others := rfl
@[simp] theorem State.takeWire_agenda (s : State) (n : Nat) (w : Wire) : (s.takeWire n w).agenda = s.agenda := rfl
@[simp] theorem State.takeWire_now (s : State) (n : Nat) (w : Wire) : (s.takeWire n w).now = s.now := rfl
@[simp] theorem State.takeWire_moved (s : State) (n : Nat) (w : Wire) : (s.takeWire n w).moved = s.moved := rfl
@[simp] theorem State.takeWire_deposited (s : State) (n : Nat) (w : Wire) : (s.takeWire n w).deposited = s.deposited := rfl
@[simp] theorem State.takeWire_dieBase (s : State) (n : Nat) (w : Wire) : (s.takeWire n w).dieBase = s.dieBase := rfl
@[simp] theorem State.takeWire_freeCtr (s : State) (n : Nat) (w : Wire) : (s.takeWire n w).freeCtr = s.freeCtr := rfl
@[simp] theorem State.takeWire_mem (s : State) (n : Nat) (w : Wire) : (s.takeWire n w).mem = s.mem := rfl
@[simp] theorem State.takeWire_home (s : State) (n : Nat) (w : Wire) : (s.takeWire n w).home = s.home := rfl
@[simp] theorem State.takeWire_poison (s : State) (n : Nat) (w : Wire) : (s.takeWire n w).poison = s.poison := rfl
@[simp] theorem State.takeWire_spad (s : State) (n : Nat) (w : Wire) : (s.takeWire n w).spad = s.spad := rfl
@[simp] theorem State.takeWire_badStore (s : State) (n : Nat) (w : Wire) : (s.takeWire n w).badStore = s.badStore := rfl
@[simp] theorem State.takeWire_lstore (s : State) (n : Nat) (w : Wire) : (s.takeWire n w).lstore = s.lstore := rfl
@[simp] theorem State.takeWire_clusters (s : State) (n : Nat) (w : Wire) : (s.takeWire n w).clusters = s.clusters := rfl
@[simp] theorem State.takeWire_dcaches (s : State) (n : Nat) (w : Wire) : (s.takeWire n w).dcaches = s.dcaches := rfl
@[simp] theorem State.takeWire_parts (s : State) (n : Nat) (w : Wire) : (s.takeWire n w).parts = s.parts := rfl
@[simp] theorem State.takeWire_tilePart (s : State) (n : Nat) (w : Wire) : (s.takeWire n w).tilePart = s.tilePart := rfl
@[simp] theorem State.takeWire_stlb (s : State) (n : Nat) (w : Wire) : (s.takeWire n w).stlb = s.stlb := rfl
@[simp] theorem State.takeWire_wcache (s : State) (n : Nat) (w : Wire) : (s.takeWire n w).wcache = s.wcache := rfl
@[simp] theorem State.takeWire_btlb (s : State) (n : Nat) (w : Wire) : (s.takeWire n w).btlb = s.btlb := rfl
@[simp] theorem State.takeWire_counts (s : State) (n : Nat) (w : Wire) : (s.takeWire n w).counts = s.counts := rfl
@[simp] theorem State.takeWire_forms (s : State) (n : Nat) (w : Wire) : (s.takeWire n w).forms = s.forms := rfl
@[simp] theorem State.takeWire_launches (s : State) (n : Nat) (w : Wire) : (s.takeWire n w).launches = s.launches := rfl
@[simp] theorem State.takeWire_nextLaunch (s : State) (n : Nat) (w : Wire) : (s.takeWire n w).nextLaunch = s.nextLaunch := rfl
@[simp] theorem State.takeWire_bulks (s : State) (n : Nat) (w : Wire) : (s.takeWire n w).bulks = s.bulks := rfl
@[simp] theorem State.takeWire_tickets (s : State) (n : Nat) (w : Wire) : (s.takeWire n w).tickets = s.tickets := rfl
@[simp] theorem State.takeWire_dir (s : State) (n : Nat) (w : Wire) : (s.takeWire n w).dir = s.dir := rfl
@[simp] theorem State.takeWire_tiles (s : State) (n : Nat) (w : Wire) : (s.takeWire n w).tiles = s.tiles := rfl
@[simp] theorem State.takeWire_l2 (s : State) (n : Nat) (w : Wire) : (s.takeWire n w).l2 = s.l2 := rfl
@[simp] theorem State.takeWire_snoops (s : State) (n : Nat) (w : Wire) : (s.takeWire n w).snoops = s.snoops := rfl
@[simp] theorem State.takeWire_lineOps (s : State) (n : Nat) (w : Wire) : (s.takeWire n w).lineOps = s.lineOps := rfl
@[simp] theorem State.takeWire_net (s : State) (n : Nat) (w : Wire) : (s.takeWire n w).net = s.net := rfl
@[simp] theorem State.takeWire_zones (s : State) (n : Nat) (w : Wire) : (s.takeWire n w).zones = s.zones := rfl
@[simp] theorem State.takeWire_sluice (s : State) (n : Nat) (w : Wire) : (s.takeWire n w).sluice = s.sluice := rfl
@[simp] theorem State.takeWire_spills (s : State) (n : Nat) (w : Wire) : (s.takeWire n w).spills = s.spills := rfl
@[simp] theorem State.takeWire_expanders (s : State) (n : Nat) (w : Wire) : (s.takeWire n w).expanders = s.expanders := rfl
@[simp] theorem State.takeWire_peers (s : State) (n : Nat) (w : Wire) : (s.takeWire n w).peers = s.peers := rfl
@[simp] theorem State.takeWire_ports (s : State) (n : Nat) (w : Wire) : (s.takeWire n w).ports = s.ports := rfl
@[simp] theorem State.takeWire_stage (s : State) (n : Nat) (w : Wire) : (s.takeWire n w).stage = s.stage := rfl

end Sys2Proof.Machine
end

