-- ==== Sys2Proof/Laws/Run.lean ====
section
/-! SUPPORT. What running an instruction can do, said once: the equations of the frame in which every instruction runs, by
the way its body ends; the quiet boundary; and the closure of a property under a whole run. -/

namespace Sys2Proof.Machine

/-! ### Parts and attributes -/

/-- The length of an instruction's words. -/
theorem bytes_of_parts {i : Instr} {p : Parts} (h : i.parts = some p) : i.bytes = partsLen p := by
  simp [Instr.bytes, encode, h, partsLen]

/-! ### Waits for hosts -/

/-- Nothing that a commit waits for keeps it waiting. -/
@[simp] theorem whenClear_none {s : State} (o : Out) (h : s.commitBlock = none) : s.whenClear o = o := by
  simp [State.whenClear, h]

/-- No line operation of the agent keeps the instruction waiting. -/
theorem whenLinesDone_clear {i : Instr} {s : State} (o : Out) (h : afterLines i = true → s.hostBlock s.ownStops = none) :
    s.whenLinesDone i o = o := by
  cases ha : afterLines i with
  | false => simp [State.whenLinesDone, ha]
  | true => simp [State.whenLinesDone, ha, h ha]

/-- A boundary that waits for no host goes on in its state. -/
theorem atBoundary_clear {s : State} (k : State → Out) (h : s.landDue.boundaryDue = true → s.landDue.commitBlock = none) :
    s.atBoundary k = k s.boundary := by
  cases hd : s.landDue.boundaryDue with
  | false => simp [State.atBoundary, State.boundary, hd]
  | true => simp [State.atBoundary, State.boundary, hd, h hd]

/-! ### Running by outcome -/

/-- A decode fault in context is taken at the boundary. -/
theorem runInstr_fault {i : Instr} {s : State} {k : Body} {p : Parts} {a : Attrs} {t : Trap} (hp : i.parts = some p)
    (ha : attrsOf i = some a) (hb : s.landDue.boundaryDue = true → s.landDue.commitBlock = none)
    (hf : s.boundary.contextFault p a = some t) :
    runInstr i s k = .next (s.boundary.takeFault (s.boundary.site p) t) := by
  simp [runInstr, hp, ha, hf, atBoundary_clear _ hb]

/-- A body that completes, of an instruction that is no commit point. -/
theorem runInstr_plain {i : Instr} {s t : State} {k : Body} {p : Parts} {a : Attrs} (hp : i.parts = some p)
    (ha : attrsOf i = some a) (hb : s.landDue.boundaryDue = true → s.landDue.commitBlock = none)
    (hf : s.boundary.contextFault p a = none)
    (hl : afterLines i = true → s.boundary.hostBlock s.boundary.ownStops = none)
    (hc : a.commit = false)
    (hk : k false s.boundary.tickLong = .ok t) : runInstr i s k = .next (t.retire s.boundary (partsLen p)) := by
  simp [runInstr, hp, ha, hf, hc, atBoundary_clear _ hb, whenLinesDone_clear _ hl, State.runPlain, hk]

/-- A body that completes, of a commit point. -/
theorem runInstr_commit {i : Instr} {s t : State} {k : Body} {p : Parts} {a : Attrs} (hp : i.parts = some p)
    (ha : attrsOf i = some a) (hb : s.landDue.boundaryDue = true → s.landDue.commitBlock = none)
    (hf : s.boundary.contextFault p a = none)
    (hl : afterLines i = true → s.boundary.hostBlock s.boundary.ownStops = none)
    (hc : a.commit = true) (hw : s.boundary.commitBlock = none)
    (hk : k true s.boundary.commit = .ok t) :
    runInstr i s k = .next (t.retire s.boundary.commit (partsLen p)).close := by
  simp [runInstr, hp, ha, hf, hc, atBoundary_clear _ hb, whenLinesDone_clear _ hl, State.runCommitted, hw, hk]

/-- A body that traps, of an instruction that is no commit point. -/
theorem runInstr_plain_trap {i : Instr} {s : State} {k : Body} {p : Parts} {a : Attrs} {t : Trap} (hp : i.parts = some p)
    (ha : attrsOf i = some a) (hb : s.landDue.boundaryDue = true → s.landDue.commitBlock = none)
    (hf : s.boundary.contextFault p a = none)
    (hl : afterLines i = true → s.boundary.hostBlock s.boundary.ownStops = none)
    (hc : a.commit = false)
    (hk : k false s.boundary.tickLong = .error (.trap t)) :
    runInstr i s k = .next (s.boundary.takeFault (s.boundary.site p) t) := by
  simp [runInstr, hp, ha, hf, hc, atBoundary_clear _ hb, whenLinesDone_clear _ hl, State.runPlain, hk, State.stopped]

/-- A body that traps, of a commit point. -/
theorem runInstr_commit_trap {i : Instr} {s : State} {k : Body} {p : Parts} {a : Attrs} {t : Trap}
    (hp : i.parts = some p) (ha : attrsOf i = some a) (hb : s.landDue.boundaryDue = true → s.landDue.commitBlock = none)
    (hf : s.boundary.contextFault p a = none)
    (hl : afterLines i = true → s.boundary.hostBlock s.boundary.ownStops = none)
    (hc : a.commit = true) (hw : s.boundary.commitBlock = none)
    (hk : k true s.boundary.commit = .error (.trap t)) :
    runInstr i s k = .next (s.boundary.commit.takeFault (s.boundary.commit.site p) t) := by
  simp [runInstr, hp, ha, hf, hc, atBoundary_clear _ hb, whenLinesDone_clear _ hl, State.runCommitted, hw, hk, State.stopped]

/-- A jump that is taken. -/
theorem runJump_taken {i : Instr} {s t : State} {k : State → Except Stop (State × Option Word)} {p : Parts} {a : Attrs}
    {x : Word} (hp : i.parts = some p) (ha : attrsOf i = some a)
    (hb : s.landDue.boundaryDue = true → s.landDue.commitBlock = none) (hf : s.boundary.contextFault p a = none)
    (hk : k s.boundary.tickLong = .ok (t, some x)) (hx : x.getLsbD 0 = false) :
    runJump i s k = .next (t.jumpTo x) := by
  simp only [runJump, hp, ha, hf, hk, hx, atBoundary_clear _ hb, State.goTo, Bool.false_eq_true, ↓reduceIte]

/-- A jump that is not taken. -/
theorem runJump_not_taken {i : Instr} {s t : State} {k : State → Except Stop (State × Option Word)} {p : Parts}
    {a : Attrs} (hp : i.parts = some p) (ha : attrsOf i = some a)
    (hb : s.landDue.boundaryDue = true → s.landDue.commitBlock = none) (hf : s.boundary.contextFault p a = none)
    (hk : k s.boundary.tickLong = .ok (t, none)) : runJump i s k = .next (t.retire s.boundary (partsLen p)) := by
  simp [runJump, hp, ha, hf, hk, atBoundary_clear _ hb, State.goTo]

/-! ### What a run keeps

`Kept P` names what a property must survive for a whole run to keep it. -/

/-- A property of states that landing, commit, the start of a Back-Invalidate, fault entry, retiring, a jump and the counting of
windows all keep, and that a captured entry does not touch. -/
structure Kept (P : State → Prop) : Prop where
  land : ∀ u, P u → P u.landDue
  commit : ∀ u, P u → P u.commit
  snoop : ∀ u l v w, P u → P (u.startSnoop l v w)
  fault : ∀ u x r, P u → P (u.takeFault x r)
  retire : ∀ u v n, P u → P (u.retire v n)
  jump : ∀ u x, P u → P (u.jumpTo x)
  tick : ∀ u, P u → P u.tickLong
  held : ∀ (u : State) c, P u → P { u with core := { u.core with capt := c } }

/-- Waiting for hosts keeps it. -/
theorem whenClear_keeps {P : State → Prop} (hP : Kept P) {s t : State} {o : Out} (hs : P s) (ho : o = .next t → P t)
    (h : s.whenClear o = .next t) : P t := by
  unfold State.whenClear at h
  split at h
  · cases h; exact hP.snoop _ _ _ _ hs
  · exact ho h

/-- Waiting for line operations keeps it. -/
theorem whenLinesDone_keeps {P : State → Prop} (hP : Kept P) {i : Instr} {s t : State} {o : Out} (hs : P s)
    (ho : o = .next t → P t) (h : s.whenLinesDone i o = .next t) : P t := by
  unfold State.whenLinesDone at h
  split at h
  · cases h; exact hP.snoop _ _ _ _ hs
  · exact ho h

/-- The boundary keeps it. -/
theorem atBoundary_keeps {P : State → Prop} (hP : Kept P) {s t : State} {k : State → Out} (hs : P s)
    (hk : ∀ u, P u → k u = .next t → P t) (h : s.atBoundary k = .next t) : P t := by
  simp only [State.atBoundary] at h
  split at h
  · exact whenClear_keeps hP (hP.land _ hs) (hk _ (hP.commit _ (hP.land _ hs))) h
  · exact hk _ (hP.land _ hs) h

/-- A body that stops keeps it. -/
theorem stopped_keeps {P : State → Prop} (hP : Kept P) {s t : State} {p : Parts} {e : Stop} (hs : P s)
    (h : s.stopped p e = .next t) : P t := by
  cases e <;> simp only [State.stopped, State.awaitHost, Host.Outcome.next.injEq] at h <;> subst h
  · exact hP.fault _ _ _ hs
  · exact hs
  · exact hs
  · exact hs
  · exact hP.held _ _ hs
  · exact hP.snoop _ _ _ _ hs

/-- A committed run keeps it. -/
theorem runCommitted_keeps {P : State → Prop} (hP : Kept P) {s t : State} {p : Parts} {k : Body} (hs : P s)
    (hk : ∀ b u v, P u → k b u = .ok v → P v) (h : s.runCommitted p k = .next t) : P t := by
  refine whenClear_keeps hP hs (fun h => ?_) h
  simp only at h
  split at h
  next u hu =>
    cases h
    have hr := hP.retire _ s.commit (partsLen p) (hk _ _ _ (hP.commit _ hs) hu)
    unfold State.close
    split
    · exact hr
    · exact hP.commit _ hr
  · exact stopped_keeps hP (hP.commit _ hs) h

/-- A device access keeps it. -/
theorem runDevice_keeps {P : State → Prop} (hP : Kept P) {s t : State} {p : Parts} {k : Body} (hs : P s)
    (hk : ∀ b u v, P u → k b u = .ok v → P v) (h : s.runDevice p k = .next t) : P t := by
  unfold State.runDevice at h
  split at h
  · cases h; exact hP.fault _ _ _ hs
  · exact runCommitted_keeps hP hs hk h

/-- A run without a commit of its own keeps it. -/
theorem runPlain_keeps {P : State → Prop} (hP : Kept P) {s t : State} {p : Parts} {k : Body} (hs : P s)
    (hk : ∀ b u v, P u → k b u = .ok v → P v) (h : s.runPlain p k = .next t) : P t := by
  unfold State.runPlain at h
  split at h
  next u hu => cases h; exact hP.retire _ _ _ (hk _ _ _ (hP.tick _ hs) hu)
  · exact runDevice_keeps hP hs hk h
  · refine whenClear_keeps hP hs (fun h => ?_) h
    simp only at h
    have hc := hP.commit _ hs
    split at h
    next u hu => cases h; exact hP.retire _ _ _ (hk _ _ _ (hP.tick _ hc) hu)
    · exact runDevice_keeps hP hc hk h
    · exact stopped_keeps hP hc h
  · exact stopped_keeps hP hs h

/-- A whole instruction keeps it. -/
theorem runInstr_keeps {P : State → Prop} (hP : Kept P) {i : Instr} {s t : State} {k : Body} (hs : P s)
    (hk : ∀ b u v, P u → k b u = .ok v → P v) (h : runInstr i s k = .next t) : P t := by
  unfold runInstr at h
  split at h
  · refine atBoundary_keeps hP hs (fun u hu h => ?_) h
    split at h
    · cases h; exact hP.fault _ _ _ hu
    · refine whenLinesDone_keeps hP hu (fun h => ?_) h
      split at h
      · exact runCommitted_keeps hP hu hk h
      · exact runPlain_keeps hP hu hk h
  · cases h

/-- Going where a body says keeps it. -/
theorem goTo_keeps {P : State → Prop} (hP : Kept P) {s t : State} {p : Parts} {r : Except Stop (State × Option Word)}
    (hs : P s) (hk : ∀ v x, r = .ok (v, x) → P v) (h : s.goTo p r = .next t) : P t := by
  unfold State.goTo at h
  split at h
  next v => cases h; exact hP.retire _ _ _ (hk v _ rfl)
  next v x =>
    split at h
    · cases h; exact hP.fault _ _ _ hs
    · cases h; exact hP.jump _ _ (hk v _ rfl)
  · exact stopped_keeps hP hs h

/-- A jump keeps it. -/
theorem runJump_keeps {P : State → Prop} (hP : Kept P) {i : Instr} {s t : State} {k : State → Except Stop (State × Option Word)}
    (hs : P s) (hk : ∀ u v x, P u → k u = .ok (v, x) → P v) (h : runJump i s k = .next t) : P t := by
  unfold runJump at h
  split at h
  · refine atBoundary_keeps hP hs (fun u hu h => ?_) h
    split at h
    · cases h; exact hP.fault _ _ _ hu
    · split at h
      · have hc := hP.commit _ hu
        exact whenClear_keeps hP hu (goTo_keeps hP hc fun v x => hk _ v x (hP.tick _ hc)) h
      · exact goTo_keeps hP hu (fun v x => hk _ v x (hP.tick _ hu)) h
  · cases h

/-! ### The quiet boundary -/

/-- Long results none of which is due do not land. -/
theorem landList_quiet (s : State) (l : List LongRes) (h : ∀ x ∈ l, x.left ≠ 0) :
    State.landList s l false = (s, l, []) := by
  induction l with
  | nil => rfl
  | cons x t ih =>
    have hx := h x (by simp)
    have ht := ih (fun y hy => h y (by simp [hy]))
    simp [State.landList, hx, ht]

/-- With no due result and fewer than 65,536 instructions in the region, the boundary changes nothing. -/
theorem boundary_quiet (s : State) (h : ∀ x ∈ s.core.long, x.left ≠ 0) (hi : s.core.icount < 65536) : s.boundary = s := by
  have hl : s.landDue = s := by simp [State.landDue, landList_quiet s s.core.long h]
  have hn : ¬ 65536 ≤ s.core.icount := by omega
  have hb : s.boundaryDue = false := by
    simp only [State.boundaryDue, hn, decide_false, Bool.false_or, List.any_eq_false, beq_iff_eq]
    exact h
  simp [State.boundary, hl, hb]

/-- With no outstanding result, counting the windows changes nothing. -/
theorem tickLong_nil (s : State) (h : s.core.long = []) : s.tickLong = s := by
  have hm : (s.core.long.map fun l => { l with left := l.left - 1 }) = s.core.long := by simp [h]
  simp only [State.tickLong, hm]

end Sys2Proof.Machine
end

