-- ==== Sys2Proof/Laws/Complete.lean ====
section
/-! SUPPORT. Completion of an instruction by the way it runs: what its body must answer for `exec` to answer `done`, or the
fault entry `faulted`. -/

namespace Sys2Proof.Claims

open Sys2Proof.Machine

theorem commits_of {i : Instr} {a : Attrs} (ha : attrsOf i = some a) : commits i = a.commit := by simp [commits, ha]

/-- The two forms of the frame: no commit point, and a commit point. -/
theorem work_plain {i : Instr} {s : State} (h : commits i = false) : work i s = s.boundary.tickLong := by simp [work, h]
theorem work_commit {i : Instr} {s : State} (h : commits i = true) : work i s = s.boundary.commit := by simp [work, h]
theorem base_plain {i : Instr} {s : State} (h : commits i = false) : base i s = s.boundary := by simp [base, h]
theorem base_commit {i : Instr} {s : State} (h : commits i = true) : base i s = s.boundary.commit := by simp [base, h]

/-- An instruction run by `runInstr` completes where its body does, whichever form it has. -/
theorem runInstr_done {i : Instr} {s t : State} {k : Body} (hc : Clean i s) (hk : k (commits i) (work i s) = .ok t) :
    runInstr i s k = .next (done i s t) := by
  obtain ⟨⟨hb, hw, hl⟩, p, a, hp, ha, hf⟩ := hc
  cases hx : commits i with
  | false =>
    have ha' : a.commit = false := by rw [← commits_of ha, hx]
    rw [hx, work_plain hx] at hk
    rw [runInstr_plain hp ha hb hf hl ha' hk, done, base_plain hx, hx, bytes_of_parts hp, if_neg Bool.false_ne_true]
  | true =>
    have ha' : a.commit = true := by rw [← commits_of ha, hx]
    rw [hx, work_commit hx] at hk
    rw [runInstr_commit hp ha hb hf hl ha' (hw hx) hk, done, base_commit hx, hx, bytes_of_parts hp, if_pos rfl]

/-- An instruction run by `runInstr` faults where its body traps. -/
theorem runInstr_faulted {i : Instr} {s : State} {t : Trap} {k : Body} (hc : Clean i s)
    (hk : k (commits i) (work i s) = .error (.trap t)) : runInstr i s k = .next (faulted i s t) := by
  obtain ⟨⟨hb, hw, hl⟩, p, a, hp, ha, hf⟩ := hc
  cases hx : commits i with
  | false =>
    have ha' : a.commit = false := by rw [← commits_of ha, hx]
    rw [hx, work_plain hx] at hk
    rw [runInstr_plain_trap hp ha hb hf hl ha' hk, faulted, hp, base_plain hx]
  | true =>
    have ha' : a.commit = true := by rw [← commits_of ha, hx]
    rw [hx, work_commit hx] at hk
    rw [runInstr_commit_trap hp ha hb hf hl ha' (hw hx) hk, faulted, hp, base_commit hx]

/-- A jump that is not taken completes as an instruction without an effect of its own. -/
theorem runJump_done {i : Instr} {s t : State} {k : State → Except Stop (State × Option Word)} (hc : Clean i s)
    (hx : commits i = false) (hk : k (work i s) = .ok (t, none)) : runJump i s k = .next (done i s t) := by
  obtain ⟨⟨hb, hw, hl⟩, p, a, hp, ha, hf⟩ := hc
  rw [work_plain hx] at hk
  rw [runJump_not_taken hp ha hb hf hk, done, base_plain hx, hx, bytes_of_parts hp, if_neg Bool.false_ne_true]

/-- A taken jump continues at its target. -/
theorem runJump_jumps {i : Instr} {s t : State} {k : State → Except Stop (State × Option Word)} {x : Word}
    (hc : Clean i s) (hx : commits i = false) (hk : k (work i s) = .ok (t, some x)) (h0 : x.getLsbD 0 = false) :
    runJump i s k = .next (t.jumpTo x) := by
  obtain ⟨⟨hb, hw, hl⟩, p, a, hp, ha, hf⟩ := hc
  rw [work_plain hx] at hk
  exact runJump_taken hp ha hb hf hk h0

end Sys2Proof.Claims
end

