-- ==== Sys2Proof/Laws/Memory.lean ====
section
/-! SUPPORT. Laws of memory (R164, log 1): a read after a write, and that every memory operation keeps the canonical
form. -/

namespace Sys2Proof.Machine

/-- Every listed address is above `k`. -/
def Memory.above (k : Nat) (m : Memory) : Prop := ∀ e ∈ m, k < e.1

theorem Memory.wf_nil : Memory.wf [] = true := rfl

theorem Memory.wf_cons (k : Nat) (b : Byte) (t : Memory) :
    Memory.wf ((k, b) :: t) = true ↔ b ≠ 0 ∧ Memory.above k t ∧ Memory.wf t = true := by
  induction t generalizing k b with
  | nil => simp [Memory.wf, Memory.above]
  | cons e t ih =>
    obtain ⟨k', b'⟩ := e
    simp only [Memory.wf, Bool.and_eq_true, decide_eq_true_eq, bne_iff_ne, ne_eq]
    constructor
    · rintro ⟨⟨hk, hb⟩, ht⟩
      refine ⟨hb, ?_, ht⟩
      intro e he
      rcases List.mem_cons.1 he with rfl | he
      · exact hk
      · exact Nat.lt_trans hk (((ih k' b').1 ht).2.1 e he)
    · rintro ⟨hb, ha, ht⟩
      exact ⟨⟨ha (k', b') (List.mem_cons_self ..), hb⟩, ht⟩

theorem Memory.read_of_above (m : Memory) (a k : Nat) (h : Memory.above k m) (hk : a ≤ k) : m.read a = 0 := by
  cases m with
  | nil => rfl
  | cons e t =>
    obtain ⟨k', b⟩ := e
    have : k < k' := h (k', b) (List.mem_cons_self ..)
    simp [Memory.read, Nat.ne_of_lt (Nat.lt_of_le_of_lt hk this), Nat.lt_of_le_of_lt hk this]

theorem Memory.mem_write (m : Memory) (a : Nat) (b : Byte) (e : Host.Cell) (h : e ∈ m.write a b) :
    e = (a, b) ∨ e ∈ m := by
  induction m with
  | nil =>
    simp only [Memory.write] at h
    split at h <;> simp_all
  | cons c t ih =>
    obtain ⟨k, d⟩ := c
    simp only [Memory.write] at h
    split at h
    · split at h <;> simp_all
    · split at h
      · split at h
        · exact .inr (List.mem_cons_of_mem _ h)
        · rcases List.mem_cons.1 h with h | h
          · exact .inl h
          · exact .inr (List.mem_cons_of_mem _ h)
      · rcases List.mem_cons.1 h with h | h
        · exact .inr (h ▸ List.mem_cons_self ..)
        · rcases ih h with h | h
          · exact .inl h
          · exact .inr (List.mem_cons_of_mem _ h)

/-- Writing a byte keeps the canonical form. -/
theorem Memory.write_wf (m : Memory) (a : Nat) (b : Byte) (h : m.wf = true) : (m.write a b).wf = true := by
  induction m with
  | nil =>
    simp only [Memory.write]
    split
    · rfl
    · rw [Memory.wf_cons]; exact ⟨by assumption, by simp [Memory.above], rfl⟩
  | cons c t ih =>
    obtain ⟨k, d⟩ := c
    obtain ⟨hd, ha, ht⟩ := (Memory.wf_cons k d t).1 h
    simp only [Memory.write]
    split
    · rename_i hlt
      split
      · exact h
      · rw [Memory.wf_cons]
        refine ⟨by assumption, ?_, h⟩
        intro e he
        rcases List.mem_cons.1 he with rfl | he
        · exact hlt
        · exact Nat.lt_trans hlt (ha e he)
    · split
      · rename_i hak
        split
        · exact ht
        · rw [Memory.wf_cons]; exact ⟨by assumption, by rw [hak]; exact ha, ht⟩
      · rw [Memory.wf_cons]
        refine ⟨hd, ?_, ih ht⟩
        intro e he
        rcases Memory.mem_write t a b e he with rfl | he
        · simp only; omega
        · exact ha e he

/-- The byte written is read back. -/
theorem Memory.read_write_same (m : Memory) (a : Nat) (b : Byte) (h : m.wf = true) : (m.write a b).read a = b := by
  induction m with
  | nil =>
    simp only [Memory.write]
    split
    · simp_all [Memory.read]
    · simp [Memory.read]
  | cons c t ih =>
    obtain ⟨k, d⟩ := c
    obtain ⟨-, ha, ht⟩ := (Memory.wf_cons k d t).1 h
    simp only [Memory.write]
    split
    · split
      · rename_i hlt hb
        simp [Memory.read, Nat.ne_of_lt hlt, hlt, hb]
      · simp [Memory.read]
    · split
      · split
        · rename_i hak hb
          rw [Memory.read_of_above t a k ha (by omega), hb]
        · simp [Memory.read]
      · rename_i h1 h2
        simp [Memory.read, h1, h2, ih ht]

/-- Every other byte reads as before. -/
theorem Memory.read_write_other (m : Memory) (a x : Nat) (b : Byte) (h : m.wf = true) (hx : x ≠ a) :
    (m.write a b).read x = m.read x := by
  induction m with
  | nil =>
    simp only [Memory.write]
    split
    · rfl
    · simp [Memory.read, hx]
  | cons c t ih =>
    obtain ⟨k, d⟩ := c
    obtain ⟨-, ha, ht⟩ := (Memory.wf_cons k d t).1 h
    simp only [Memory.write]
    split
    · rename_i hlt
      split
      · rfl
      · simp only [Memory.read, if_neg hx]
        split
        · rename_i hxa
          have h1 : x ≠ k := by omega
          have h2 : x < k := by omega
          simp [h1, h2]
        · rfl
    · split
      · rename_i hak
        subst hak
        split
        · simp only [Memory.read, if_neg hx]
          split
          · rename_i hxk
            exact Memory.read_of_above t x a ha (by omega)
          · rfl
        · simp [Memory.read, hx]
      · simp only [Memory.read]
        rw [ih ht]

/-- A write of bytes keeps the canonical form. -/
theorem Memory.writeLE_wf (m : Memory) (a n v : Nat) (h : m.wf = true) : (m.writeLE a n v).wf = true := by
  induction n generalizing m a v with
  | zero => exact h
  | succ n ih => exact ih _ _ _ (Memory.write_wf _ _ _ h)

/-- A write of bytes leaves every other byte. -/
theorem Memory.read_writeLE_other (m : Memory) (a n v x : Nat) (h : m.wf = true) (hx : x < a ∨ a + n ≤ x) :
    (m.writeLE a n v).read x = m.read x := by
  induction n generalizing m a v with
  | zero => rfl
  | succ n ih =>
    rw [Memory.writeLE, ih _ _ _ (Memory.write_wf _ _ _ h) (by omega), Memory.read_write_other _ _ _ _ h (by omega)]

/-- A masked write of bytes keeps the canonical form. -/
theorem Memory.writeMask_wf (m : Memory) (a n mask v : Nat) (h : m.wf = true) : (m.writeMask a n mask v).wf = true := by
  induction n generalizing m a mask v with
  | zero => exact h
  | succ n ih =>
    refine ih _ _ _ _ ?_
    split
    · exact Memory.write_wf _ _ _ h
    · exact h

/-- A masked write of bytes leaves every byte outside its extent. -/
theorem Memory.read_writeMask_other (m : Memory) (a n mask v x : Nat) (h : m.wf = true) (hx : x < a ∨ a + n ≤ x) :
    (m.writeMask a n mask v).read x = m.read x := by
  induction n generalizing m a mask v with
  | zero => rfl
  | succ n ih =>
    have hw : (if mask % 2 = 1 then m.write a (BitVec.ofNat 8 v) else m).wf = true := by
      split
      · exact Memory.write_wf _ _ _ h
      · exact h
    rw [Memory.writeMask, ih _ _ _ _ hw (by omega)]
    split
    · exact Memory.read_write_other _ _ _ _ h (by omega)
    · rfl

/-- Writing the bytes of a list keeps the canonical form. -/
theorem Memory.foldl_write_wf {α : Type} (l : List α) (f : Memory → α → Memory)
    (hf : ∀ m x, m.wf = true → (f m x).wf = true) (m : Memory) (h : m.wf = true) : (l.foldl f m).wf = true := by
  induction l generalizing m with
  | nil => exact h
  | cons x t ih => exact ih _ (hf m x h)

/-- Dropping addresses keeps the canonical form. -/
theorem Memory.filter_wf (m : Memory) (p : Host.Cell → Bool) (h : m.wf = true) : Memory.wf (m.filter p) = true := by
  induction m with
  | nil => rfl
  | cons c t ih =>
    obtain ⟨k, b⟩ := c
    obtain ⟨hb, ha, ht⟩ := (Memory.wf_cons k b t).1 h
    rw [List.filter_cons]
    split
    · rw [Memory.wf_cons]
      exact ⟨hb, fun e he => ha e (List.mem_of_mem_filter he), ih ht⟩
    · exact ih ht

/-- The memory that a loss of power leaves keeps the canonical form. -/
theorem outside_wf (m : Memory) (h : m.wf = true) : Memory.wf (m.filter fun c => decide (0x1000000000000 ≤ c.1)) = true :=
  Memory.filter_wf m _ h

/-- A write of nibbles keeps the canonical form. -/
theorem Memory.writeNibbles_wf (m : Memory) (a n mask v : Nat) (h : m.wf = true) :
    (m.writeNibbles a n mask v).wf = true := by
  induction n generalizing m a mask v with
  | zero => exact h
  | succ n ih =>
    refine ih _ _ _ _ ?_
    split
    · exact h
    · exact Memory.write_wf _ _ _ h

/-- A write of nibbles leaves every byte outside its extent. -/
theorem Memory.read_writeNibbles_other (m : Memory) (a n mask v x : Nat) (h : m.wf = true) (hx : x < a ∨ a + n ≤ x) :
    (m.writeNibbles a n mask v).read x = m.read x := by
  induction n generalizing m a mask v with
  | zero => rfl
  | succ n ih =>
    rw [Memory.writeNibbles]
    split
    · exact ih _ _ _ _ h (by omega)
    · rw [ih _ _ _ _ (Memory.write_wf _ _ _ h) (by omega)]
      exact Memory.read_write_other _ _ _ _ h (by omega)

/-- Copying bytes keeps the canonical form. -/
theorem copyBytes_wf (src dst : Memory) (a n : Nat) (h : dst.wf = true) : (copyBytes src dst a n).wf = true := by
  induction n generalizing dst a with
  | zero => exact h
  | succ n ih => exact ih _ _ (Memory.write_wf _ _ _ h)

/-- Writing doublewords keeps the canonical form. -/
theorem writeDws_wf (m : Memory) (a : Nat) (l : List Word) (h : m.wf = true) : (writeDws m a l).wf = true := by
  induction l generalizing m a with
  | nil => exact h
  | cons w t ih => exact ih _ _ (Memory.writeLE_wf _ _ _ _ h)

end Sys2Proof.Machine
end

