-- ==== Sys2Proof/Laws/PerInstr.lean ====
section
/-! SUPPORT. The family `Encodable`, one lemma per constructor: an instruction has words exactly when it has attributes that
R43 judges, an event has neither, and the prefix words are those of its words. -/

namespace Sys2Proof.Laws.Encodable

/-- What the family says of an instruction. -/
def Statement (i : Instr) : Prop :=
  i.parts.isSome = (Machine.attrsOf i).isSome ∧ i.parts.isSome = !i.isEvent ∧
  i.prefixes = (match i.parts with | some p => p.px | none => [])

theorem trap (px : List Prefix) (n : BitVec 8) : Statement (.trap px n) := ⟨rfl, rfl, rfl⟩
theorem nop (px : List Prefix) : Statement (.nop px) := ⟨rfl, rfl, rfl⟩
theorem done (px : List Prefix) : Statement (.done px) := ⟨rfl, rfl, rfl⟩
theorem commit (px : List Prefix) : Statement (.commit px) := ⟨rfl, rfl, rfl⟩
theorem yield (px : List Prefix) : Statement (.yield px) := ⟨rfl, rfl, rfl⟩
theorem ret (px : List Prefix) : Statement (.ret px) := ⟨rfl, rfl, rfl⟩
theorem eret (px : List Prefix) : Statement (.eret px) := ⟨rfl, rfl, rfl⟩
theorem lda (px : List Prefix) (s : BitVec 6) : Statement (.lda px s) := ⟨rfl, rfl, rfl⟩
theorem sta (px : List Prefix) (s : BitVec 6) : Statement (.sta px s) := ⟨rfl, rfl, rfl⟩
theorem add (px : List Prefix) (s : BitVec 6) : Statement (.add px s) := ⟨rfl, rfl, rfl⟩
theorem adc (px : List Prefix) (s : BitVec 6) : Statement (.adc px s) := ⟨rfl, rfl, rfl⟩
theorem sub (px : List Prefix) (s : BitVec 6) : Statement (.sub px s) := ⟨rfl, rfl, rfl⟩
theorem sbc (px : List Prefix) (s : BitVec 6) : Statement (.sbc px s) := ⟨rfl, rfl, rfl⟩
theorem rsb (px : List Prefix) (s : BitVec 6) : Statement (.rsb px s) := ⟨rfl, rfl, rfl⟩
theorem cmp (px : List Prefix) (s : BitVec 6) : Statement (.cmp px s) := ⟨rfl, rfl, rfl⟩
theorem and (px : List Prefix) (s : BitVec 6) : Statement (.and px s) := ⟨rfl, rfl, rfl⟩
theorem or (px : List Prefix) (s : BitVec 6) : Statement (.or px s) := ⟨rfl, rfl, rfl⟩
theorem xor (px : List Prefix) (s : BitVec 6) : Statement (.xor px s) := ⟨rfl, rfl, rfl⟩
theorem andn (px : List Prefix) (s : BitVec 6) : Statement (.andn px s) := ⟨rfl, rfl, rfl⟩
theorem tst (px : List Prefix) (s : BitVec 6) : Statement (.tst px s) := ⟨rfl, rfl, rfl⟩
theorem shl (px : List Prefix) (s : BitVec 6) : Statement (.shl px s) := ⟨rfl, rfl, rfl⟩
theorem shr (px : List Prefix) (s : BitVec 6) : Statement (.shr px s) := ⟨rfl, rfl, rfl⟩
theorem sar (px : List Prefix) (s : BitVec 6) : Statement (.sar px s) := ⟨rfl, rfl, rfl⟩
theorem rol (px : List Prefix) (s : BitVec 6) : Statement (.rol px s) := ⟨rfl, rfl, rfl⟩
theorem ror (px : List Prefix) (s : BitVec 6) : Statement (.ror px s) := ⟨rfl, rfl, rfl⟩
theorem mul (px : List Prefix) (s : BitVec 6) : Statement (.mul px s) := ⟨rfl, rfl, rfl⟩
theorem mulh (px : List Prefix) (s : BitVec 6) : Statement (.mulh px s) := ⟨rfl, rfl, rfl⟩
theorem mulhn (px : List Prefix) (s : BitVec 6) : Statement (.mulhn px s) := ⟨rfl, rfl, rfl⟩
theorem min (px : List Prefix) (s : BitVec 6) : Statement (.min px s) := ⟨rfl, rfl, rfl⟩
theorem max (px : List Prefix) (s : BitVec 6) : Statement (.max px s) := ⟨rfl, rfl, rfl⟩
theorem minn (px : List Prefix) (s : BitVec 6) : Statement (.minn px s) := ⟨rfl, rfl, rfl⟩
theorem maxn (px : List Prefix) (s : BitVec 6) : Statement (.maxn px s) := ⟨rfl, rfl, rfl⟩
theorem neg (px : List Prefix) (s : BitVec 6) : Statement (.neg px s) := ⟨rfl, rfl, rfl⟩
theorem not (px : List Prefix) (s : BitVec 6) : Statement (.not px s) := ⟨rfl, rfl, rfl⟩
theorem clz (px : List Prefix) (s : BitVec 6) : Statement (.clz px s) := ⟨rfl, rfl, rfl⟩
theorem ctz (px : List Prefix) (s : BitVec 6) : Statement (.ctz px s) := ⟨rfl, rfl, rfl⟩
theorem popc (px : List Prefix) (s : BitVec 6) : Statement (.popc px s) := ⟨rfl, rfl, rfl⟩
theorem brev (px : List Prefix) (s : BitVec 6) : Statement (.brev px s) := ⟨rfl, rfl, rfl⟩
theorem bswp (px : List Prefix) (s : BitVec 6) : Statement (.bswp px s) := ⟨rfl, rfl, rfl⟩
theorem sext (px : List Prefix) (s : BitVec 6) : Statement (.sext px s) := ⟨rfl, rfl, rfl⟩
theorem zext (px : List Prefix) (s : BitVec 6) : Statement (.zext px s) := ⟨rfl, rfl, rfl⟩
theorem bfx (px : List Prefix) (s : BitVec 6) : Statement (.bfx px s) := ⟨rfl, rfl, rfl⟩
theorem bfi (px : List Prefix) (s : BitVec 6) : Statement (.bfi px s) := ⟨rfl, rfl, rfl⟩
theorem selz (px : List Prefix) (s : BitVec 6) : Statement (.selz px s) := ⟨rfl, rfl, rfl⟩
theorem selnz (px : List Prefix) (s : BitVec 6) : Statement (.selnz px s) := ⟨rfl, rfl, rfl⟩
theorem mac (px : List Prefix) (s : BitVec 6) : Statement (.mac px s) := ⟨rfl, rfl, rfl⟩
theorem xchg (px : List Prefix) (s : BitVec 6) : Statement (.xchg px s) := ⟨rfl, rfl, rfl⟩
theorem adds (px : List Prefix) (s : BitVec 6) : Statement (.adds px s) := ⟨rfl, rfl, rfl⟩
theorem subs (px : List Prefix) (s : BitVec 6) : Statement (.subs px s) := ⟨rfl, rfl, rfl⟩
theorem abs (px : List Prefix) (s : BitVec 6) : Statement (.abs px s) := ⟨rfl, rfl, rfl⟩
theorem fadd (px : List Prefix) (s : BitVec 6) (t : BitVec 2) : Statement (.fadd px s t) := ⟨rfl, rfl, rfl⟩
theorem fsub (px : List Prefix) (s : BitVec 6) (t : BitVec 2) : Statement (.fsub px s t) := ⟨rfl, rfl, rfl⟩
theorem fmul (px : List Prefix) (s : BitVec 6) (t : BitVec 2) : Statement (.fmul px s t) := ⟨rfl, rfl, rfl⟩
theorem ffma (px : List Prefix) (s : BitVec 6) (t : BitVec 2) : Statement (.ffma px s t) := ⟨rfl, rfl, rfl⟩
theorem fscl (px : List Prefix) (s : BitVec 6) (t : BitVec 2) : Statement (.fscl px s t) := ⟨rfl, rfl, rfl⟩
theorem frsub (px : List Prefix) (s : BitVec 6) (t : BitVec 2) : Statement (.frsub px s t) := ⟨rfl, rfl, rfl⟩
theorem fmin (px : List Prefix) (s : BitVec 6) (t : BitVec 2) : Statement (.fmin px s t) := ⟨rfl, rfl, rfl⟩
theorem fmax (px : List Prefix) (s : BitVec 6) (t : BitVec 2) : Statement (.fmax px s t) := ⟨rfl, rfl, rfl⟩
theorem fcmp (px : List Prefix) (s : BitVec 6) (t : BitVec 2) : Statement (.fcmp px s t) := ⟨rfl, rfl, rfl⟩
theorem fabs (px : List Prefix) (s : BitVec 6) (t : BitVec 2) : Statement (.fabs px s t) := ⟨rfl, rfl, rfl⟩
theorem fneg (px : List Prefix) (s : BitVec 6) (t : BitVec 2) : Statement (.fneg px s t) := ⟨rfl, rfl, rfl⟩
theorem fclass (px : List Prefix) (s : BitVec 6) (t : BitVec 2) : Statement (.fclass px s t) := ⟨rfl, rfl, rfl⟩
theorem frint (px : List Prefix) (s : BitVec 6) (t : BitVec 2) : Statement (.frint px s t) := ⟨rfl, rfl, rfl⟩
theorem fsgnj (px : List Prefix) (s : BitVec 6) (t : BitVec 2) : Statement (.fsgnj px s t) := ⟨rfl, rfl, rfl⟩
theorem fminn (px : List Prefix) (s : BitVec 6) (t : BitVec 2) : Statement (.fminn px s t) := ⟨rfl, rfl, rfl⟩
theorem fmaxn (px : List Prefix) (s : BitVec 6) (t : BitVec 2) : Statement (.fmaxn px s t) := ⟨rfl, rfl, rfl⟩
theorem cvt (px : List Prefix) (s : BitVec 6) (d : BitVec 3) (c : BitVec 3) : Statement (.cvt px s d c) := ⟨rfl, rfl, rfl⟩
theorem ldi (px : List Prefix) (imm : BitVec 8) : Statement (.ldi px imm) := ⟨rfl, rfl, rfl⟩
theorem addi (px : List Prefix) (imm : BitVec 8) : Statement (.addi px imm) := ⟨rfl, rfl, rfl⟩
theorem cmpi (px : List Prefix) (imm : BitVec 8) : Statement (.cmpi px imm) := ⟨rfl, rfl, rfl⟩
theorem andi (px : List Prefix) (imm : BitVec 8) : Statement (.andi px imm) := ⟨rfl, rfl, rfl⟩
theorem ori (px : List Prefix) (imm : BitVec 8) : Statement (.ori px imm) := ⟨rfl, rfl, rfl⟩
theorem xori (px : List Prefix) (imm : BitVec 8) : Statement (.xori px imm) := ⟨rfl, rfl, rfl⟩
theorem shli (px : List Prefix) (imm : BitVec 8) : Statement (.shli px imm) := ⟨rfl, rfl, rfl⟩
theorem shri (px : List Prefix) (imm : BitVec 8) : Statement (.shri px imm) := ⟨rfl, rfl, rfl⟩
theorem sari (px : List Prefix) (imm : BitVec 8) : Statement (.sari px imm) := ⟨rfl, rfl, rfl⟩
theorem muli (px : List Prefix) (imm : BitVec 8) : Statement (.muli px imm) := ⟨rfl, rfl, rfl⟩
theorem mfc (px : List Prefix) (imm : BitVec 8) : Statement (.mfc px imm) := ⟨rfl, rfl, rfl⟩
theorem mtc (px : List Prefix) (imm : BitVec 8) : Statement (.mtc px imm) := ⟨rfl, rfl, rfl⟩
theorem spres (px : List Prefix) (imm : BitVec 8) : Statement (.spres px imm) := ⟨rfl, rfl, rfl⟩
theorem sclr (px : List Prefix) (imm : BitVec 8) : Statement (.sclr px imm) := ⟨rfl, rfl, rfl⟩
theorem pset (px : List Prefix) (pr : BitVec 3) (imm : BitVec 6) : Statement (.pset px pr imm) := ⟨rfl, rfl, rfl⟩
theorem pget (px : List Prefix) (pr : BitVec 3) (imm : BitVec 6) : Statement (.pget px pr imm) := ⟨rfl, rfl, rfl⟩
theorem padd (px : List Prefix) (pr : BitVec 3) (imm : BitVec 6) : Statement (.padd px pr imm) := ⟨rfl, rfl, rfl⟩
theorem pstep (px : List Prefix) (pr : BitVec 3) (imm : BitVec 6) : Statement (.pstep px pr imm) := ⟨rfl, rfl, rfl⟩
theorem pmod (px : List Prefix) (pr : BitVec 3) (imm : BitVec 6) : Statement (.pmod px pr imm) := ⟨rfl, rfl, rfl⟩
theorem plea (px : List Prefix) (pr : BitVec 3) (imm : BitVec 6) : Statement (.plea px pr imm) := ⟨rfl, rfl, rfl⟩
theorem pswp (px : List Prefix) (pr : BitVec 3) (imm : BitVec 6) : Statement (.pswp px pr imm) := ⟨rfl, rfl, rfl⟩
theorem pcmp (px : List Prefix) (pr : BitVec 3) (imm : BitVec 6) : Statement (.pcmp px pr imm) := ⟨rfl, rfl, rfl⟩
theorem vfadd (px : List Prefix) (va : BitVec 2) (pp : BitVec 3) (m : Bool) (t : BitVec 2) : Statement (.vfadd px va pp m t) := ⟨rfl, rfl, rfl⟩
theorem vfsub (px : List Prefix) (va : BitVec 2) (pp : BitVec 3) (m : Bool) (t : BitVec 2) : Statement (.vfsub px va pp m t) := ⟨rfl, rfl, rfl⟩
theorem vfmul (px : List Prefix) (va : BitVec 2) (pp : BitVec 3) (m : Bool) (t : BitVec 2) : Statement (.vfmul px va pp m t) := ⟨rfl, rfl, rfl⟩
theorem vfma (px : List Prefix) (va : BitVec 2) (pp : BitVec 3) (m : Bool) (t : BitVec 2) : Statement (.vfma px va pp m t) := ⟨rfl, rfl, rfl⟩
theorem vfscl (px : List Prefix) (va : BitVec 2) (pp : BitVec 3) (m : Bool) (t : BitVec 2) : Statement (.vfscl px va pp m t) := ⟨rfl, rfl, rfl⟩
theorem vfrsub (px : List Prefix) (va : BitVec 2) (pp : BitVec 3) (m : Bool) (t : BitVec 2) : Statement (.vfrsub px va pp m t) := ⟨rfl, rfl, rfl⟩
theorem vfmin (px : List Prefix) (va : BitVec 2) (pp : BitVec 3) (m : Bool) (t : BitVec 2) : Statement (.vfmin px va pp m t) := ⟨rfl, rfl, rfl⟩
theorem vfmax (px : List Prefix) (va : BitVec 2) (pp : BitVec 3) (m : Bool) (t : BitVec 2) : Statement (.vfmax px va pp m t) := ⟨rfl, rfl, rfl⟩
theorem vfceq (px : List Prefix) (va : BitVec 2) (pp : BitVec 3) (m : Bool) (t : BitVec 2) : Statement (.vfceq px va pp m t) := ⟨rfl, rfl, rfl⟩
theorem vfclt (px : List Prefix) (va : BitVec 2) (pp : BitVec 3) (m : Bool) (t : BitVec 2) : Statement (.vfclt px va pp m t) := ⟨rfl, rfl, rfl⟩
theorem vfcle (px : List Prefix) (va : BitVec 2) (pp : BitVec 3) (m : Bool) (t : BitVec 2) : Statement (.vfcle px va pp m t) := ⟨rfl, rfl, rfl⟩
theorem vfabs (px : List Prefix) (va : BitVec 2) (pp : BitVec 3) (m : Bool) (t : BitVec 2) : Statement (.vfabs px va pp m t) := ⟨rfl, rfl, rfl⟩
theorem vfneg (px : List Prefix) (va : BitVec 2) (pp : BitVec 3) (m : Bool) (t : BitVec 2) : Statement (.vfneg px va pp m t) := ⟨rfl, rfl, rfl⟩
theorem vfminn (px : List Prefix) (va : BitVec 2) (pp : BitVec 3) (m : Bool) (t : BitVec 2) : Statement (.vfminn px va pp m t) := ⟨rfl, rfl, rfl⟩
theorem vfmaxn (px : List Prefix) (va : BitVec 2) (pp : BitVec 3) (m : Bool) (t : BitVec 2) : Statement (.vfmaxn px va pp m t) := ⟨rfl, rfl, rfl⟩
theorem vfreds (px : List Prefix) (va : BitVec 2) (pp : BitVec 3) (m : Bool) (t : BitVec 2) : Statement (.vfreds px va pp m t) := ⟨rfl, rfl, rfl⟩
theorem vld (px : List Prefix) (va : BitVec 2) (pp : BitVec 3) (m : Bool) : Statement (.vld px va pp m) := ⟨rfl, rfl, rfl⟩
theorem vst (px : List Prefix) (va : BitVec 2) (pp : BitVec 3) (m : Bool) : Statement (.vst px va pp m) := ⟨rfl, rfl, rfl⟩
theorem vbcstI64 (px : List Prefix) (va : BitVec 2) (pp : BitVec 3) (m : Bool) : Statement (.vbcstI64 px va pp m) := ⟨rfl, rfl, rfl⟩
theorem vbcstI32 (px : List Prefix) (va : BitVec 2) (pp : BitVec 3) (m : Bool) : Statement (.vbcstI32 px va pp m) := ⟨rfl, rfl, rfl⟩
theorem vbcstI16 (px : List Prefix) (va : BitVec 2) (pp : BitVec 3) (m : Bool) : Statement (.vbcstI16 px va pp m) := ⟨rfl, rfl, rfl⟩
theorem vbcstI8 (px : List Prefix) (va : BitVec 2) (pp : BitVec 3) (m : Bool) : Statement (.vbcstI8 px va pp m) := ⟨rfl, rfl, rfl⟩
theorem vmov (px : List Prefix) (va : BitVec 2) (pp : BitVec 3) (m : Bool) : Statement (.vmov px va pp m) := ⟨rfl, rfl, rfl⟩
theorem vshuf (px : List Prefix) (va : BitVec 2) (pp : BitVec 3) (m : Bool) : Statement (.vshuf px va pp m) := ⟨rfl, rfl, rfl⟩
theorem vsel (px : List Prefix) (va : BitVec 2) (pp : BitVec 3) (m : Bool) : Statement (.vsel px va pp m) := ⟨rfl, rfl, rfl⟩
theorem viadd (px : List Prefix) (va : BitVec 2) (pp : BitVec 3) (m : Bool) (t : BitVec 2) : Statement (.viadd px va pp m t) := ⟨rfl, rfl, rfl⟩
theorem visub (px : List Prefix) (va : BitVec 2) (pp : BitVec 3) (m : Bool) (t : BitVec 2) : Statement (.visub px va pp m t) := ⟨rfl, rfl, rfl⟩
theorem vimul (px : List Prefix) (va : BitVec 2) (pp : BitVec 3) (m : Bool) (t : BitVec 2) : Statement (.vimul px va pp m t) := ⟨rfl, rfl, rfl⟩
theorem vimin (px : List Prefix) (va : BitVec 2) (pp : BitVec 3) (m : Bool) (t : BitVec 2) : Statement (.vimin px va pp m t) := ⟨rfl, rfl, rfl⟩
theorem vimax (px : List Prefix) (va : BitVec 2) (pp : BitVec 3) (m : Bool) (t : BitVec 2) : Statement (.vimax px va pp m t) := ⟨rfl, rfl, rfl⟩
theorem viminn (px : List Prefix) (va : BitVec 2) (pp : BitVec 3) (m : Bool) (t : BitVec 2) : Statement (.viminn px va pp m t) := ⟨rfl, rfl, rfl⟩
theorem vimaxn (px : List Prefix) (va : BitVec 2) (pp : BitVec 3) (m : Bool) (t : BitVec 2) : Statement (.vimaxn px va pp m t) := ⟨rfl, rfl, rfl⟩
theorem vand (px : List Prefix) (va : BitVec 2) (pp : BitVec 3) (m : Bool) (t : BitVec 2) : Statement (.vand px va pp m t) := ⟨rfl, rfl, rfl⟩
theorem vor (px : List Prefix) (va : BitVec 2) (pp : BitVec 3) (m : Bool) (t : BitVec 2) : Statement (.vor px va pp m t) := ⟨rfl, rfl, rfl⟩
theorem vxor (px : List Prefix) (va : BitVec 2) (pp : BitVec 3) (m : Bool) (t : BitVec 2) : Statement (.vxor px va pp m t) := ⟨rfl, rfl, rfl⟩
theorem vshl (px : List Prefix) (va : BitVec 2) (pp : BitVec 3) (m : Bool) (t : BitVec 2) : Statement (.vshl px va pp m t) := ⟨rfl, rfl, rfl⟩
theorem vshr (px : List Prefix) (va : BitVec 2) (pp : BitVec 3) (m : Bool) (t : BitVec 2) : Statement (.vshr px va pp m t) := ⟨rfl, rfl, rfl⟩
theorem br (px : List Prefix) (cc : BitVec 3) (off : BitVec 9) : Statement (.br px cc off) := ⟨rfl, rfl, rfl⟩
theorem jmp (px : List Prefix) (off : BitVec 11) : Statement (.jmp px off) := ⟨rfl, rfl, rfl⟩
theorem brl (px : List Prefix) (off : BitVec 11) : Statement (.brl px off) := ⟨rfl, rfl, rfl⟩
theorem chen (px : List Prefix) (arg : BitVec 8) : Statement (.chen px arg) := ⟨rfl, rfl, rfl⟩
theorem chdis (px : List Prefix) (arg : BitVec 8) : Statement (.chdis px arg) := ⟨rfl, rfl, rfl⟩
theorem chpend (px : List Prefix) (arg : BitVec 8) : Statement (.chpend px arg) := ⟨rfl, rfl, rfl⟩
theorem chclr (px : List Prefix) (arg : BitVec 8) : Statement (.chclr px arg) := ⟨rfl, rfl, rfl⟩
theorem chpri (px : List Prefix) (arg : BitVec 8) : Statement (.chpri px arg) := ⟨rfl, rfl, rfl⟩
theorem jmps (px : List Prefix) (arg : BitVec 8) : Statement (.jmps px arg) := ⟨rfl, rfl, rfl⟩
theorem brls (px : List Prefix) (arg : BitVec 8) : Statement (.brls px arg) := ⟨rfl, rfl, rfl⟩
theorem kand (px : List Prefix) (arg : BitVec 8) : Statement (.kand px arg) := ⟨rfl, rfl, rfl⟩
theorem kor (px : List Prefix) (arg : BitVec 8) : Statement (.kor px arg) := ⟨rfl, rfl, rfl⟩
theorem kxor (px : List Prefix) (arg : BitVec 8) : Statement (.kxor px arg) := ⟨rfl, rfl, rfl⟩
theorem knot (px : List Prefix) (arg : BitVec 8) : Statement (.knot px arg) := ⟨rfl, rfl, rfl⟩
theorem kmov (px : List Prefix) (arg : BitVec 8) : Statement (.kmov px arg) := ⟨rfl, rfl, rfl⟩
theorem kany (px : List Prefix) (arg : BitVec 8) : Statement (.kany px arg) := ⟨rfl, rfl, rfl⟩
theorem kall (px : List Prefix) (arg : BitVec 8) : Statement (.kall px arg) := ⟨rfl, rfl, rfl⟩
theorem kpop (px : List Prefix) (arg : BitVec 8) : Statement (.kpop px arg) := ⟨rfl, rfl, rfl⟩
theorem rep (px : List Prefix) (arg : BitVec 8) : Statement (.rep px arg) := ⟨rfl, rfl, rfl⟩
theorem cmask (px : List Prefix) (arg : BitVec 8) : Statement (.cmask px arg) := ⟨rfl, rfl, rfl⟩
theorem cunmask (px : List Prefix) (arg : BitVec 8) : Statement (.cunmask px arg) := ⟨rfl, rfl, rfl⟩
theorem kseti (px : List Prefix) (arg : BitVec 8) : Statement (.kseti px arg) := ⟨rfl, rfl, rfl⟩
theorem ldg (px : List Prefix) (s : BitVec 6) (w1 : W1) : Statement (.ldg px s w1) := ⟨rfl, rfl, rfl⟩
theorem stg (px : List Prefix) (s : BitVec 6) (w1 : W1) : Statement (.stg px s w1) := ⟨rfl, rfl, rfl⟩
theorem vldg (px : List Prefix) (s : BitVec 6) (w1 : W1) : Statement (.vldg px s w1) := ⟨rfl, rfl, rfl⟩
theorem vstg (px : List Prefix) (s : BitVec 6) (w1 : W1) : Statement (.vstg px s w1) := ⟨rfl, rfl, rfl⟩
theorem ldx (px : List Prefix) (s : BitVec 6) (w1 : W1) : Statement (.ldx px s w1) := ⟨rfl, rfl, rfl⟩
theorem stx (px : List Prefix) (s : BitVec 6) (w1 : W1) : Statement (.stx px s w1) := ⟨rfl, rfl, rfl⟩
theorem stn (px : List Prefix) (s : BitVec 6) (w1 : W1) : Statement (.stn px s w1) := ⟨rfl, rfl, rfl⟩
theorem pref (px : List Prefix) (s : BitVec 6) (w1 : W1) : Statement (.pref px s w1) := ⟨rfl, rfl, rfl⟩
theorem amoadd (px : List Prefix) (s : BitVec 6) (w1 : W1) : Statement (.amoadd px s w1) := ⟨rfl, rfl, rfl⟩
theorem amoand (px : List Prefix) (s : BitVec 6) (w1 : W1) : Statement (.amoand px s w1) := ⟨rfl, rfl, rfl⟩
theorem amoor (px : List Prefix) (s : BitVec 6) (w1 : W1) : Statement (.amoor px s w1) := ⟨rfl, rfl, rfl⟩
theorem amoxor (px : List Prefix) (s : BitVec 6) (w1 : W1) : Statement (.amoxor px s w1) := ⟨rfl, rfl, rfl⟩
theorem amomin (px : List Prefix) (s : BitVec 6) (w1 : W1) : Statement (.amomin px s w1) := ⟨rfl, rfl, rfl⟩
theorem amomax (px : List Prefix) (s : BitVec 6) (w1 : W1) : Statement (.amomax px s w1) := ⟨rfl, rfl, rfl⟩
theorem amominn (px : List Prefix) (s : BitVec 6) (w1 : W1) : Statement (.amominn px s w1) := ⟨rfl, rfl, rfl⟩
theorem amomaxn (px : List Prefix) (s : BitVec 6) (w1 : W1) : Statement (.amomaxn px s w1) := ⟨rfl, rfl, rfl⟩
theorem amoswp (px : List Prefix) (s : BitVec 6) (w1 : W1) : Statement (.amoswp px s w1) := ⟨rfl, rfl, rfl⟩
theorem amocas (px : List Prefix) (s : BitVec 6) (w1 : W1) : Statement (.amocas px s w1) := ⟨rfl, rfl, rfl⟩
theorem amofadd (px : List Prefix) (s : BitVec 6) (w1 : W1) : Statement (.amofadd px s w1) := ⟨rfl, rfl, rfl⟩
theorem fence (px : List Prefix) (s : BitVec 6) (w1 : W1) : Statement (.fence px s w1) := ⟨rfl, rfl, rfl⟩
theorem xfence (px : List Prefix) (s : BitVec 6) (w1 : W1) : Statement (.xfence px s w1) := ⟨rfl, rfl, rfl⟩
theorem tdecl (px : List Prefix) (s : BitVec 6) (w1 : W1) : Statement (.tdecl px s w1) := ⟨rfl, rfl, rfl⟩
theorem tund (px : List Prefix) (s : BitVec 6) (w1 : W1) : Statement (.tund px s w1) := ⟨rfl, rfl, rfl⟩
theorem tfwd (px : List Prefix) (s : BitVec 6) (w1 : W1) : Statement (.tfwd px s w1) := ⟨rfl, rfl, rfl⟩
theorem twb (px : List Prefix) (s : BitVec 6) (w1 : W1) : Statement (.twb px s w1) := ⟨rfl, rfl, rfl⟩
theorem tinv (px : List Prefix) (s : BitVec 6) (w1 : W1) : Statement (.tinv px s w1) := ⟨rfl, rfl, rfl⟩
theorem clwb (px : List Prefix) (s : BitVec 6) (w1 : W1) : Statement (.clwb px s w1) := ⟨rfl, rfl, rfl⟩
theorem clinv (px : List Prefix) (s : BitVec 6) (w1 : W1) : Statement (.clinv px s w1) := ⟨rfl, rfl, rfl⟩
theorem clfl (px : List Prefix) (s : BitVec 6) (w1 : W1) : Statement (.clfl px s w1) := ⟨rfl, rfl, rfl⟩
theorem sgo (px : List Prefix) (s : BitVec 6) (w1 : W1) : Statement (.sgo px s w1) := ⟨rfl, rfl, rfl⟩
theorem sbuf (px : List Prefix) (s : BitVec 6) (w1 : W1) : Statement (.sbuf px s w1) := ⟨rfl, rfl, rfl⟩
theorem speek (px : List Prefix) (s : BitVec 6) (w1 : W1) : Statement (.speek px s w1) := ⟨rfl, rfl, rfl⟩
theorem sfree (px : List Prefix) (s : BitVec 6) (w1 : W1) : Statement (.sfree px s w1) := ⟨rfl, rfl, rfl⟩
theorem scnt (px : List Prefix) (s : BitVec 6) (w1 : W1) : Statement (.scnt px s w1) := ⟨rfl, rfl, rfl⟩
theorem cpgo (px : List Prefix) (s : BitVec 6) (w1 : W1) : Statement (.cpgo px s w1) := ⟨rfl, rfl, rfl⟩
theorem cpst (px : List Prefix) (s : BitVec 6) (w1 : W1) : Statement (.cpst px s w1) := ⟨rfl, rfl, rfl⟩
theorem mxgo (px : List Prefix) (s : BitVec 6) (w1 : W1) : Statement (.mxgo px s w1) := ⟨rfl, rfl, rfl⟩
theorem mxrd (px : List Prefix) (s : BitVec 6) (w1 : W1) : Statement (.mxrd px s w1) := ⟨rfl, rfl, rfl⟩
theorem mxwr (px : List Prefix) (s : BitVec 6) (w1 : W1) : Statement (.mxwr px s w1) := ⟨rfl, rfl, rfl⟩
theorem mxst (px : List Prefix) (s : BitVec 6) (w1 : W1) : Statement (.mxst px s w1) := ⟨rfl, rfl, rfl⟩
theorem mxcfg (px : List Prefix) (s : BitVec 6) (w1 : W1) : Statement (.mxcfg px s w1) := ⟨rfl, rfl, rfl⟩
theorem mxmsk (px : List Prefix) (s : BitVec 6) (w1 : W1) : Statement (.mxmsk px s w1) := ⟨rfl, rfl, rfl⟩
theorem mxabt (px : List Prefix) (s : BitVec 6) (w1 : W1) : Statement (.mxabt px s w1) := ⟨rfl, rfl, rfl⟩
theorem send (px : List Prefix) (s : BitVec 6) (w1 : W1) : Statement (.send px s w1) := ⟨rfl, rfl, rfl⟩
theorem bcast (px : List Prefix) (s : BitVec 6) (w1 : W1) : Statement (.bcast px s w1) := ⟨rfl, rfl, rfl⟩
theorem wrs (px : List Prefix) (s : BitVec 6) (w1 : W1) : Statement (.wrs px s w1) := ⟨rfl, rfl, rfl⟩
theorem psend (px : List Prefix) (s : BitVec 6) (w1 : W1) : Statement (.psend px s w1) := ⟨rfl, rfl, rfl⟩
theorem launch (px : List Prefix) (s : BitVec 6) (w1 : W1) : Statement (.launch px s w1) := ⟨rfl, rfl, rfl⟩
theorem trig (px : List Prefix) (s : BitVec 6) (w1 : W1) : Statement (.trig px s w1) := ⟨rfl, rfl, rfl⟩
theorem bar (px : List Prefix) (s : BitVec 6) (w1 : W1) : Statement (.bar px s w1) := ⟨rfl, rfl, rfl⟩
theorem svc (px : List Prefix) (s : BitVec 6) (w1 : W1) : Statement (.svc px s w1) := ⟨rfl, rfl, rfl⟩
theorem hint (px : List Prefix) (s : BitVec 6) (w1 : W1) : Statement (.hint px s w1) := ⟨rfl, rfl, rfl⟩
theorem gred (px : List Prefix) (s : BitVec 6) (w1 : W1) : Statement (.gred px s w1) := ⟨rfl, rfl, rfl⟩
theorem vmaxx (px : List Prefix) (s : BitVec 6) (w1 : W1) : Statement (.vmaxx px s w1) := ⟨rfl, rfl, rfl⟩
theorem tlbi (px : List Prefix) (s : BitVec 6) (w1 : W1) : Statement (.tlbi px s w1) := ⟨rfl, rfl, rfl⟩
theorem tlbsync (px : List Prefix) (s : BitVec 6) (w1 : W1) : Statement (.tlbsync px s w1) := ⟨rfl, rfl, rfl⟩
theorem probe (px : List Prefix) (s : BitVec 6) (w1 : W1) : Statement (.probe px s w1) := ⟨rfl, rfl, rfl⟩
theorem pstop (px : List Prefix) (s : BitVec 6) (w1 : W1) : Statement (.pstop px s w1) := ⟨rfl, rfl, rfl⟩
theorem pgo (px : List Prefix) (s : BitVec 6) (w1 : W1) : Statement (.pgo px s w1) := ⟨rfl, rfl, rfl⟩
theorem cswap (px : List Prefix) (s : BitVec 6) (w1 : W1) : Statement (.cswap px s w1) := ⟨rfl, rfl, rfl⟩
theorem scrub (px : List Prefix) (s : BitVec 6) (w1 : W1) : Statement (.scrub px s w1) := ⟨rfl, rfl, rfl⟩
theorem exp2 (px : List Prefix) (s : BitVec 6) (w1 : W1) : Statement (.exp2 px s w1) := ⟨rfl, rfl, rfl⟩
theorem log2 (px : List Prefix) (s : BitVec 6) (w1 : W1) : Statement (.log2 px s w1) := ⟨rfl, rfl, rfl⟩
theorem rcp (px : List Prefix) (s : BitVec 6) (w1 : W1) : Statement (.rcp px s w1) := ⟨rfl, rfl, rfl⟩
theorem rsq (px : List Prefix) (s : BitVec 6) (w1 : W1) : Statement (.rsq px s w1) := ⟨rfl, rfl, rfl⟩
theorem tanh (px : List Prefix) (s : BitVec 6) (w1 : W1) : Statement (.tanh px s w1) := ⟨rfl, rfl, rfl⟩
theorem sinp (px : List Prefix) (s : BitVec 6) (w1 : W1) : Statement (.sinp px s w1) := ⟨rfl, rfl, rfl⟩
theorem cosp (px : List Prefix) (s : BitVec 6) (w1 : W1) : Statement (.cosp px s w1) := ⟨rfl, rfl, rfl⟩
theorem rcps (px : List Prefix) (s : BitVec 6) (w1 : W1) : Statement (.rcps px s w1) := ⟨rfl, rfl, rfl⟩
theorem rsqs (px : List Prefix) (s : BitVec 6) (w1 : W1) : Statement (.rsqs px s w1) := ⟨rfl, rfl, rfl⟩
theorem vexp2 (px : List Prefix) (s : BitVec 6) (w1 : W1) : Statement (.vexp2 px s w1) := ⟨rfl, rfl, rfl⟩
theorem vlog2 (px : List Prefix) (s : BitVec 6) (w1 : W1) : Statement (.vlog2 px s w1) := ⟨rfl, rfl, rfl⟩
theorem vrcp (px : List Prefix) (s : BitVec 6) (w1 : W1) : Statement (.vrcp px s w1) := ⟨rfl, rfl, rfl⟩
theorem vrsq (px : List Prefix) (s : BitVec 6) (w1 : W1) : Statement (.vrsq px s w1) := ⟨rfl, rfl, rfl⟩
theorem vtanh (px : List Prefix) (s : BitVec 6) (w1 : W1) : Statement (.vtanh px s w1) := ⟨rfl, rfl, rfl⟩
theorem vcvt (px : List Prefix) (s : BitVec 6) (w1 : W1) : Statement (.vcvt px s w1) := ⟨rfl, rfl, rfl⟩
theorem vqnt (px : List Prefix) (s : BitVec 6) (w1 : W1) : Statement (.vqnt px s w1) := ⟨rfl, rfl, rfl⟩
theorem vdqnt (px : List Prefix) (s : BitVec 6) (w1 : W1) : Statement (.vdqnt px s w1) := ⟨rfl, rfl, rfl⟩
theorem xadd (px : List Prefix) (s : BitVec 6) (w1 : W1) : Statement (.xadd px s w1) := ⟨rfl, rfl, rfl⟩
theorem vxadd (px : List Prefix) (s : BitVec 6) (w1 : W1) : Statement (.vxadd px s w1) := ⟨rfl, rfl, rfl⟩
theorem xrnd (px : List Prefix) (s : BitVec 6) (w1 : W1) : Statement (.xrnd px s w1) := ⟨rfl, rfl, rfl⟩
theorem xmrg (px : List Prefix) (s : BitVec 6) (w1 : W1) : Statement (.xmrg px s w1) := ⟨rfl, rfl, rfl⟩
theorem xclr (px : List Prefix) (s : BitVec 6) (w1 : W1) : Statement (.xclr px s w1) := ⟨rfl, rfl, rfl⟩
theorem fdiv (px : List Prefix) (s : BitVec 6) (w1 : W1) : Statement (.fdiv px s w1) := ⟨rfl, rfl, rfl⟩
theorem fsqrt (px : List Prefix) (s : BitVec 6) (w1 : W1) : Statement (.fsqrt px s w1) := ⟨rfl, rfl, rfl⟩
theorem div (px : List Prefix) (s : BitVec 6) (w1 : W1) : Statement (.div px s w1) := ⟨rfl, rfl, rfl⟩
theorem divn (px : List Prefix) (s : BitVec 6) (w1 : W1) : Statement (.divn px s w1) := ⟨rfl, rfl, rfl⟩
theorem rem (px : List Prefix) (s : BitVec 6) (w1 : W1) : Statement (.rem px s w1) := ⟨rfl, rfl, rfl⟩
theorem remn (px : List Prefix) (s : BitVec 6) (w1 : W1) : Statement (.remn px s w1) := ⟨rfl, rfl, rfl⟩
theorem vfdiv (px : List Prefix) (s : BitVec 6) (w1 : W1) : Statement (.vfdiv px s w1) := ⟨rfl, rfl, rfl⟩
theorem vfsqrt (px : List Prefix) (s : BitVec 6) (w1 : W1) : Statement (.vfsqrt px s w1) := ⟨rfl, rfl, rfl⟩
theorem selection : Statement (.selection) := ⟨rfl, rfl, rfl⟩
theorem longResult (sid : Nat) : Statement (.longResult sid) := ⟨rfl, rfl, rfl⟩
theorem instructionLimit (sid : Nat) : Statement (.instructionLimit sid) := ⟨rfl, rfl, rfl⟩
theorem faultMessageRetry (n : Nat) : Statement (.faultMessageRetry n) := ⟨rfl, rfl, rfl⟩
theorem migrationRetry (sid : Nat) (slot : BitVec 2) : Statement (.migrationRetry sid slot) := ⟨rfl, rfl, rfl⟩
theorem regionReply (n : Nat) : Statement (.regionReply n) := ⟨rfl, rfl, rfl⟩
theorem frameReturn (n : Nat) : Statement (.frameReturn n) := ⟨rfl, rfl, rfl⟩
theorem agentReply (n : Nat) : Statement (.agentReply n) := ⟨rfl, rfl, rfl⟩
theorem uncorrectableError (site : ErrSite) : Statement (.uncorrectableError site) := ⟨rfl, rfl, rfl⟩
theorem patrolScrub : Statement (.patrolScrub) := ⟨rfl, rfl, rfl⟩
theorem fingerprintCompare (sid : Nat) (other : Word) (effect : Bool) : Statement (.fingerprintCompare sid other effect) := ⟨rfl, rfl, rfl⟩
theorem messageArrival (n : Nat) (down : Bool) : Statement (.messageArrival n down) := ⟨rfl, rfl, rfl⟩
theorem messageRetry (n : Nat) (down : Bool) : Statement (.messageRetry n down) := ⟨rfl, rfl, rfl⟩
theorem messageAck (sid : Nat) : Statement (.messageAck sid) := ⟨rfl, rfl, rfl⟩
theorem wrsDeposit (n : Nat) : Statement (.wrsDeposit n) := ⟨rfl, rfl, rfl⟩
theorem peerArrival (dst : BitVec 12) (src : BitVec 12) (seq : BitVec 16) (payload : List Word) : Statement (.peerArrival dst src seq payload) := ⟨rfl, rfl, rfl⟩
theorem psendAck (n : Nat) : Statement (.psendAck n) := ⟨rfl, rfl, rfl⟩
theorem launchStart (num : Nat) : Statement (.launchStart num) := ⟨rfl, rfl, rfl⟩
theorem initialMessagePlacement (num : Nat) : Statement (.initialMessagePlacement num) := ⟨rfl, rfl, rfl⟩
theorem quiescenceSweep (num : Nat) : Statement (.quiescenceSweep num) := ⟨rfl, rfl, rfl⟩
theorem hostChannelWrite (port : Nat) (part : Nat) (w : Nat) (off : Nat) (len : Nat) (dws : List Word) : Statement (.hostChannelWrite port part w off len dws) := ⟨rfl, rfl, rfl⟩
theorem hostChannelDelivery (port : Nat) (part : Nat) (w : Nat) : Statement (.hostChannelDelivery port part w) := ⟨rfl, rfl, rfl⟩
theorem mxgoStart (sid : Nat) : Statement (.mxgoStart sid) := ⟨rfl, rfl, rfl⟩
theorem gangFormation (sid : Nat) : Statement (.gangFormation sid) := ⟨rfl, rfl, rfl⟩
theorem gangTimeout (sid : Nat) : Statement (.gangTimeout sid) := ⟨rfl, rfl, rfl⟩
theorem kStep (sid : Nat) : Statement (.kStep sid) := ⟨rfl, rfl, rfl⟩
theorem mxstPerform (sid : Nat) : Statement (.mxstPerform sid) := ⟨rfl, rfl, rfl⟩
theorem mxwrPerform (sid : Nat) : Statement (.mxwrPerform sid) := ⟨rfl, rfl, rfl⟩
theorem mxcfgPerform (sid : Nat) : Statement (.mxcfgPerform sid) := ⟨rfl, rfl, rfl⟩
theorem mxmskPerform (sid : Nat) : Statement (.mxmskPerform sid) := ⟨rfl, rfl, rfl⟩
theorem mxCompletion (sid : Nat) : Statement (.mxCompletion sid) := ⟨rfl, rfl, rfl⟩
theorem gredStart (sid : Nat) : Statement (.gredStart sid) := ⟨rfl, rfl, rfl⟩
theorem gredCompletion (sid : Nat) : Statement (.gredCompletion sid) := ⟨rfl, rfl, rfl⟩
theorem gredTimeout (sid : Nat) : Statement (.gredTimeout sid) := ⟨rfl, rfl, rfl⟩
theorem vmaxxCompletion (sid : Nat) : Statement (.vmaxxCompletion sid) := ⟨rfl, rfl, rfl⟩
theorem barrierCompletion (sid : Nat) : Statement (.barrierCompletion sid) := ⟨rfl, rfl, rfl⟩
theorem barrierTimeout (sid : Nat) : Statement (.barrierTimeout sid) := ⟨rfl, rfl, rfl⟩
theorem sbufPerform (sid : Nat) : Statement (.sbufPerform sid) := ⟨rfl, rfl, rfl⟩
theorem sgoStart (sid : Nat) : Statement (.sgoStart sid) := ⟨rfl, rfl, rfl⟩
theorem streamSlot (sid : Nat) : Statement (.streamSlot sid) := ⟨rfl, rfl, rfl⟩
theorem bulkCopyTake (dk : Nat) : Statement (.bulkCopyTake dk) := ⟨rfl, rfl, rfl⟩
theorem bulkCopyPiece (dk : Nat) (part : Nat) (ticket : Nat) (piece : Nat) : Statement (.bulkCopyPiece dk part ticket piece) := ⟨rfl, rfl, rfl⟩
theorem readShared (cl : Nat) (line : Nat) : Statement (.readShared cl line) := ⟨rfl, rfl, rfl⟩
theorem readForOwnership (cl : Nat) (line : Nat) : Statement (.readForOwnership cl line) := ⟨rfl, rfl, rfl⟩
theorem upgrade (cl : Nat) (line : Nat) : Statement (.upgrade cl line) := ⟨rfl, rfl, rfl⟩
theorem writeBack (cl : Nat) (line : Nat) : Statement (.writeBack cl line) := ⟨rfl, rfl, rfl⟩
theorem cleanEvictionNotice (cl : Nat) (line : Nat) : Statement (.cleanEvictionNotice cl line) := ⟨rfl, rfl, rfl⟩
theorem probeAnswer (cl : Nat) (line : Nat) (inv : Bool) : Statement (.probeAnswer cl line inv) := ⟨rfl, rfl, rfl⟩
theorem tileGranuleRequest (cl : Nat) (line : Nat) (own : Bool) : Statement (.tileGranuleRequest cl line own) := ⟨rfl, rfl, rfl⟩
theorem lineGranuleWrite (line : Nat) : Statement (.lineGranuleWrite line) := ⟨rfl, rfl, rfl⟩
theorem homeAtomic (line : Nat) : Statement (.homeAtomic line) := ⟨rfl, rfl, rfl⟩
theorem remoteWindowAccess (cl : Nat) : Statement (.remoteWindowAccess cl) := ⟨rfl, rfl, rfl⟩
theorem l2Fill (line : Nat) (part : Nat) (elig : Bool) : Statement (.l2Fill line part elig) := ⟨rfl, rfl, rfl⟩
theorem cxlMemRead (port : Nat) (line : Nat) (excl : Bool) : Statement (.cxlMemRead port line excl) := ⟨rfl, rfl, rfl⟩
theorem cxlMemWrite (port : Nat) (pa : Nat) (data : List Byte) : Statement (.cxlMemWrite port pa data) := ⟨rfl, rfl, rfl⟩
theorem birsp (port : Nat) (line : Nat) : Statement (.birsp port line) := ⟨rfl, rfl, rfl⟩
theorem biconflict (port : Nat) (line : Nat) (excl : Bool) : Statement (.biconflict port line excl) := ⟨rfl, rfl, rfl⟩
theorem snpinv (port : Nat) (line : Nat) : Statement (.snpinv port line) := ⟨rfl, rfl, rfl⟩
theorem snpdata (port : Nat) (line : Nat) : Statement (.snpdata port line) := ⟨rfl, rfl, rfl⟩
theorem snpcur (port : Nat) (line : Nat) : Statement (.snpcur port line) := ⟨rfl, rfl, rfl⟩
theorem hostTimeout (sid : Nat) (line : Nat) : Statement (.hostTimeout sid line) := ⟨rfl, rfl, rfl⟩
theorem hostPostedWrite (port : Nat) (pa : Nat) (data : List Byte) : Statement (.hostPostedWrite port pa data) := ⟨rfl, rfl, rfl⟩
theorem powerGate (cl : Nat) : Statement (.powerGate cl) := ⟨rfl, rfl, rfl⟩
theorem packetAdmission (src : Nat) (dst : Nat) (what : Traffic) (cls : BitVec 3) (len : Nat) (charge : Nat) : Statement (.packetAdmission src dst what cls len charge) := ⟨rfl, rfl, rfl⟩
theorem flitArrival (die : Nat) (net : Nat) (x : Nat) (y : Nat) (ports : List Nat) : Statement (.flitArrival die net x y ports) := ⟨rfl, rfl, rfl⟩
theorem resendRequest (pkt : Nat) : Statement (.resendRequest pkt) := ⟨rfl, rfl, rfl⟩
theorem starvationMark (pkt : Nat) : Statement (.starvationMark pkt) := ⟨rfl, rfl, rfl⟩
theorem damperWindow : Statement (.damperWindow) := ⟨rfl, rfl, rfl⟩
theorem partialPacketTimeout (ep : Nat) (pkt : Nat) : Statement (.partialPacketTimeout ep pkt) := ⟨rfl, rfl, rfl⟩
theorem ackTimeout (pkt : Nat) : Statement (.ackTimeout pkt) := ⟨rfl, rfl, rfl⟩
theorem sequenceGap (link : Nat) (seq : BitVec 12) : Statement (.sequenceGap link seq) := ⟨rfl, rfl, rfl⟩
theorem retrain (link : Nat) (ok : Bool) : Statement (.retrain link ok) := ⟨rfl, rfl, rfl⟩
theorem rclsWrite (part : Nat) (c : BitVec 2) (v : Word) : Statement (.rclsWrite part c v) := ⟨rfl, rfl, rfl⟩
theorem ptrootWrite (who : Nat) (v : Word) : Statement (.ptrootWrite who v) := ⟨rfl, rfl, rfl⟩
theorem migcfgWrite (tile : Nat) (v : Word) : Statement (.migcfgWrite tile v) := ⟨rfl, rfl, rfl⟩
theorem mgdAccess (write : Bool) (v : Word) : Statement (.mgdAccess write v) := ⟨rfl, rfl, rfl⟩
theorem load (who : Nat) : Statement (.load who) := ⟨rfl, rfl, rfl⟩
theorem registerWrite (agent : Nat) (off : Nat) (v : Word) : Statement (.registerWrite agent off v) := ⟨rfl, rfl, rfl⟩
theorem sensorSample (z : Nat) (s0 : Word) (s1 : Word) : Statement (.sensorSample z s0 s1) := ⟨rfl, rfl, rfl⟩
theorem valveAdjust (z : Nat) (v : BitVec 6) : Statement (.valveAdjust z v) := ⟨rfl, rfl, rfl⟩
theorem flowLimitedLeave (z : Nat) : Statement (.flowLimitedLeave z) := ⟨rfl, rfl, rfl⟩
theorem close (z : Nat) : Statement (.close z) := ⟨rfl, rfl, rfl⟩
theorem purge (z : Nat) : Statement (.purge z) := ⟨rfl, rfl, rfl⟩
theorem verify (z : Nat) : Statement (.verify z) := ⟨rfl, rfl, rfl⟩
theorem verifyExpiry (z : Nat) : Statement (.verifyExpiry z) := ⟨rfl, rfl, rfl⟩
theorem restoreComplete (z : Nat) : Statement (.restoreComplete z) := ⟨rfl, rfl, rfl⟩
theorem catWrite (agent : Nat) (z : Nat) (v : Word) : Statement (.catWrite agent z v) := ⟨rfl, rfl, rfl⟩
theorem fncWrite (agent : Nat) (z : Nat) : Statement (.fncWrite agent z) := ⟨rfl, rfl, rfl⟩
theorem msemRead (agent : Nat) : Statement (.msemRead agent) := ⟨rfl, rfl, rfl⟩
theorem msemRelease (agent : Nat) : Statement (.msemRelease agent) := ⟨rfl, rfl, rfl⟩
theorem pmapWrite (agent : Nat) (part : Nat) (v : Word) : Statement (.pmapWrite agent part v) := ⟨rfl, rfl, rfl⟩
theorem leaseWrite (agent : Nat) (part : Nat) (v : Word) : Statement (.leaseWrite agent part v) := ⟨rfl, rfl, rfl⟩
theorem renew (port : Nat) (part : Nat) : Statement (.renew port part) := ⟨rfl, rfl, rfl⟩
theorem leaseTick : Statement (.leaseTick) := ⟨rfl, rfl, rfl⟩
theorem leaseExpiry (part : Nat) : Statement (.leaseExpiry part) := ⟨rfl, rfl, rfl⟩
theorem hostLinkDown (port : Nat) (hot : Bool) : Statement (.hostLinkDown port hot) := ⟨rfl, rfl, rfl⟩
theorem flr (port : Nat) (part : Nat) : Statement (.flr port part) := ⟨rfl, rfl, rfl⟩
theorem partitionResetScrub (part : Nat) : Statement (.partitionResetScrub part) := ⟨rfl, rfl, rfl⟩
theorem dieReset (die : Nat) : Statement (.dieReset die) := ⟨rfl, rfl, rfl⟩
theorem drainack (die : Nat) (link : Nat) : Statement (.drainack die link) := ⟨rfl, rfl, rfl⟩
theorem drainTimeout (die : Nat) (link : Nat) : Statement (.drainTimeout die link) := ⟨rfl, rfl, rfl⟩
theorem pwrOk (flash : List (Nat × BitVec 8)) : Statement (.pwrOk flash) := ⟨rfl, rfl, rfl⟩
theorem sysResetN : Statement (.sysResetN) := ⟨rfl, rfl, rfl⟩
theorem stageB1 (hold : Bool) (up0 : Bool) (up1 : Bool) : Statement (.stageB1 hold up0 up1) := ⟨rfl, rfl, rfl⟩
theorem bstatHold : Statement .bstatHold := ⟨rfl, rfl, rfl⟩
theorem stageB2 (tables : List (Nat × Word)) (trained : Bool) : Statement (.stageB2 tables trained) := ⟨rfl, rfl, rfl⟩
theorem coolantPriming (z : Nat) : Statement (.coolantPriming z) := ⟨rfl, rfl, rfl⟩
theorem stageB3 (ports : BitVec 4) (expanders : List (Nat × Nat)) (peers : BitVec 32) : Statement (.stageB3 ports expanders peers) := ⟨rfl, rfl, rfl⟩
theorem getVersion (port : Nat) (req : List Byte) : Statement (.getVersion port req) := ⟨rfl, rfl, rfl⟩
theorem getCapabilities (port : Nat) (req : List Byte) : Statement (.getCapabilities port req) := ⟨rfl, rfl, rfl⟩
theorem negotiateAlgorithms (port : Nat) (req : List Byte) : Statement (.negotiateAlgorithms port req) := ⟨rfl, rfl, rfl⟩
theorem getDigests (port : Nat) (req : List Byte) : Statement (.getDigests port req) := ⟨rfl, rfl, rfl⟩
theorem getCertificate (port : Nat) (req : List Byte) : Statement (.getCertificate port req) := ⟨rfl, rfl, rfl⟩
theorem challenge (port : Nat) (req : List Byte) : Statement (.challenge port req) := ⟨rfl, rfl, rfl⟩
theorem getMeasurements (port : Nat) (req : List Byte) : Statement (.getMeasurements port req) := ⟨rfl, rfl, rfl⟩
theorem partitionHalt (part : Nat) : Statement (.partitionHalt part) := ⟨rfl, rfl, rfl⟩
theorem partitionResume (part : Nat) : Statement (.partitionResume part) := ⟨rfl, rfl, rfl⟩
theorem scrubComplete (part : Nat) : Statement (.scrubComplete part) := ⟨rfl, rfl, rfl⟩
theorem spill (part : Nat) : Statement (.spill part) := ⟨rfl, rfl, rfl⟩
theorem fill (part : Nat) : Statement (.fill part) := ⟨rfl, rfl, rfl⟩
theorem vmaxxTimeout (sid : Nat) : Statement (.vmaxxTimeout sid) := ⟨rfl, rfl, rfl⟩
theorem expanderBisnp (line : Nat) : Statement (.expanderBisnp line) := ⟨rfl, rfl, rfl⟩
theorem peerAccess (pa : Nat) (write : Bool) (data : List Byte) : Statement (.peerAccess pa write data) := ⟨rfl, rfl, rfl⟩
theorem powerDown : Statement (.powerDown) := ⟨rfl, rfl, rfl⟩
theorem timeSlot (table : Nat) (slot : Nat) : Statement (.timeSlot table slot) := ⟨rfl, rfl, rfl⟩
theorem ucieFlitArrival (link : Nat) (seq : BitVec 12) : Statement (.ucieFlitArrival link seq) := ⟨rfl, rfl, rfl⟩

end Sys2Proof.Laws.Encodable
end

