-- ==== Sys2Proof/Tests/Slice0.lean ====
section
/-! SUPPORT. Tests: words and results written out from the spec, the well-formedness checks refusing an ill-formed term each,
and for each statement states and operands that meet its hypotheses. -/

open Sys2Proof Sys2Proof.Machine Sys2Proof.Claims

namespace Sys2Proof.Tests

set_option Elab.async false

/-! ### Helpers -/

/-- `Unhindered` as a test. -/
def unhindered (i : Instr) (s : State) : Bool :=
  (!s.landDue.boundaryDue || s.landDue.commitBlock.isNone) && (!commits i || s.boundary.commitBlock.isNone) &&
    (!afterLines i || (s.boundary.hostBlock s.boundary.ownStops).isNone)

/-- `Clean` as a test. -/
def clean (i : Instr) (s : State) : Bool :=
  unhindered i s &&
  match i.parts, attrsOf i with
  | some p, some a => (s.boundary.contextFault p a).isNone
  | _, _ => false

theorem unhindered_sound {i : Instr} {s : State} (h : unhindered i s = true) : Unhindered i s := by
  simp only [unhindered, Bool.and_eq_true, Bool.or_eq_true, Bool.not_eq_true', Option.isNone_iff_eq_none] at h
  exact ⟨fun hd => h.1.1.resolve_left (by simp [hd]), fun hc => h.1.2.resolve_left (by simp [hc]), fun hl => h.2.resolve_left (by simp [hl])⟩

theorem clean_sound {i : Instr} {s : State} (h : clean i s = true) : Clean i s := by
  unfold clean at h
  rw [Bool.and_eq_true] at h
  refine ⟨unhindered_sound h.1, ?_⟩
  have h2 := h.2
  split at h2
  · next p a hp ha => exact ⟨p, a, hp, ha, Option.isNone_iff_eq_none.mp h2⟩
  · cases h2

/-- A running small core with a code page, nothing else placed. -/
def core : State := State.reset.withFetchWord 16 0x0001

/-- The same core with a persistent region of 64 KiB and channel queues. -/
def spad : State := core.setCluster 0 { Cluster.zero with regions := [⟨0, 65536, false⟩], qd := some (2, 2, 2) }

/-- A running service core. -/
def service : State := { core with focus := svcOf 0 }

/-- The values of a result. -/
def val {α : Type} (e : Except Stop α) : Option α := match e with | .ok v => some v | .error _ => none
def trapOf {α : Type} (e : Except Stop α) : Option Trap := match e with | .error (.trap t) => some t | _ => none
def nextOf (o : Out) : Option State := match o with | .next t => some t | _ => none
def enabled (i : Instr) (s : State) : Bool := (nextOf (exec i s)).isSome

/-- The running core with a register of its own set. -/
def withA (v : Word) (s : State) : State := s.setA v
def withP (n : BitVec 3) (v : Word) (s : State) : State := s.setPtr n v
def withM (n : Nat) (h : n < 32) (v : Word) (s : State) : State :=
  { s with core := { s.core with r := { s.core.r with m := s.core.r.m.set n v } } }
def withFlg (v : Word) (s : State) : State := { s with core := { s.core with r := { s.core.r with flg := v } } }

/-- A and FLG's Z, N, C, V behind an instruction. -/
def aFlags (i : Instr) (s : State) : Option (Word × BitVec 4) :=
  (nextOf (exec i s)).map fun t => (t.core.r.a, t.core.r.flg.extractLsb' 0 4)

/-! ### Words of the spec's encodings, and what is no instruction -/

theorem test_words_z : decode [0x0100] = .ok (.nop [], []) ∧ encode (.nop []) = [0x0100] := ⟨rfl, rfl⟩
theorem test_words_fadd : decode [0x2141] = .ok (.fadd [] 5 1, []) := rfl
theorem test_words_cvt : decode [0x3148] = .ok (.cvt [] 5 1 0, []) := rfl
theorem test_words_sta : decode [0x1241] = .ok (.sta [] 9, []) := rfl
theorem test_words_ldi : decode [0x40FF] = .ok (.ldi [] 0xFF, []) := rfl
theorem test_words_pset : decode [0xF004, 0x5200] = .ok (.pset [.immx 4] 1 0, []) := rfl
theorem test_words_vfma : decode [0x610C] = .ok (.vfma [] 0 2 false 0, []) := rfl
theorem test_words_vfreds : decode [0x603C] = .ok (.vfreds [] 0 0 false 0, []) := rfl
theorem test_words_vld : decode [0x7480] = .ok (.vld [] 1 1 false, []) := rfl
theorem test_words_kand : decode [0xB06C] = .ok (.kand [] 0x6C, []) := rfl
theorem test_words_ldg : decode [0xF4A3, 0xC027, 0x0840] = .ok (.ldg [.dst 10 3] 0x27 ⟨0, 4, 1, 0⟩, []) := rfl
theorem test_words_amoadd : decode [0xF7C0, 0xC209, 0x0881] = .ok (.amoadd [.dst 0x3C 0] 9 ⟨0, 4, 2, 1⟩, []) := rfl
theorem test_words_sfree : decode [0xC871, 0x0000] = .ok (.sfree [] 0x31 ⟨0, 0, 0, 0⟩, []) := rfl
theorem test_words_speek : decode [0xC83C, 0x0000] = .ok (.speek [] 0x3C ⟨0, 0, 0, 0⟩, []) := rfl
theorem test_words_mxgo : decode [0xD028, 0x0000] = .ok (.mxgo [] 0x28 ⟨0, 0, 0, 0⟩, []) := rfl
theorem test_words_mxrd : decode [0xD049, 0x0016] = .ok (.mxrd [] 9 ⟨0, 0, 0, 0x16⟩, []) := rfl
theorem test_words_mxmsk : decode [0xD14C, 0x0000] = .ok (.mxmsk [] 12 ⟨0, 0, 0, 0⟩, []) := rfl
theorem test_words_fdiv : decode [0xE589, 0x2000] = .ok (.fdiv [] 9 ⟨2, 0, 0, 0⟩, []) := rfl

/-- The well-formedness check refuses a fifth prefix word, TRAP 0 and a conversion of a format to itself. -/
theorem test_wf_prefixes : (Instr.nop [.page 0, .page 0, .page 0, .page 0, .page 0]).wf = false := rfl
theorem test_wf_trap : (Instr.trap [] 0).wf = false ∧ (Instr.trap [] 1).wf = true := ⟨rfl, rfl⟩
theorem test_wf_cvt : (Instr.cvt [] 5 1 1).wf = false ∧ (Instr.cvt [] 5 1 0).wf = true := ⟨rfl, rfl⟩

theorem witness_DecodeEncode : (Instr.ldg [.dst 10 3] 0x27 ⟨0, 4, 1, 0⟩).wf = true ∧
    (Instr.ldg [.dst 10 3] 0x27 ⟨0, 4, 1, 0⟩).isEvent = false := ⟨rfl, rfl⟩
theorem witness_EncodeDecode : decode [0xF4A0, 0x1242, 0x0100] = .ok (.add [.dst 10 0] 9, [0x0100]) := rfl

/-- Fetching: the code page of the running core; address 0 is outside its code; a window address inside a code region that wraps up
to it; a poisoned code page; an odd program counter. -/
theorem witness_FetchReadsInstruction :
    (match core.fetchHalf 0x1000 0 with | (_, .ok w) => some w | _ => none) = some 0x0001 ∧
    core.inCode 0 = false ∧ core.inCode 0x1000 = true ∧ core.inCode 0x2000 = false ∧
    (match core.translate core.focus 0x1000 .exec with | (u, .ok x) => some (x.pa, u.poisoned x.pa 2) | _ => none) =
      some (0x10000, false) ∧
    inWindows 0x7E0000000000 = true ∧ core.core.pc.getLsbD 0 = false ∧ (0x1001#64).getLsbD 0 = true ∧
    (({ core with core := { core.core with seat := core.core.seat.map fun x => { x with code := 0x7E0000000000 } } } : State).inCode
      0x7E0000000000) = true ∧
    (match ({ core with poison := [(512, 3)] } : State).translate core.focus 0x1000 .exec with
      | (u, .ok x) => some (u.poisoned x.pa 2) | _ => none) = some true := by decide +kernel

/-- A NOP in the code page. -/
def coreNop : State := State.reset.withFetchWord 16 0x0100

theorem test_codeAt : ∃ t, codeAt coreNop coreNop.core.pc.toNat (encode (.nop [])) t := ⟨_, _, fun _ => rfl, rfl⟩

/-- The words fetched, and 0 for an instruction, 1 for the zero word, 2 for a prefix of an unassigned kind, 3 otherwise. -/
def fetched (s : State) : Option (List Half × Nat) :=
  match s.boundary.fetch with
  | (_, .ok ws) => some (ws,
      match decode ws with
      | .ok _ => 0
      | .error .zero => 1
      | .error (.prefixKind _) => 2
      | .error _ => 3)
  | _ => none

def fetchFault (s : State) : Option (BitVec 8) := match s.boundary.fetch with | (_, .error (.trap f)) => some f.cause | _ => none

/-- The running core with its code line exclusive at host port 0, so that fetching it recalls the line. -/
def heldCode : State := { core with dir := [(512, { DirRec.zero with h0 := true, hx := true })] }

def recalled (s : State) : Option (Nat × Bool) := match s.boundary.fetch with | (_, .error (.recall l i)) => some (l, i) | _ => none

theorem witness_StepRunsDecoded :
    core.dieRuns (dieOf core.focus) = true ∧ core.core.act ≠ none ∧ fetched coreNop = some ([0x0100], 0) ∧
    fetchFault { core with core := { core.core with pc := 0 } } = some 0x05 ∧ recalled heldCode = some (512, false) ∧
    core.landDue.boundaryDue = false ∧ core.net.flits = [] ∧ core.late 0 = false ∧ ({ core with moved := [1] } : State).late 0 = true ∧
    State.reset.dieRuns (dieOf State.reset.focus) = false := by decide +kernel

/-- Words that are no instruction: zero, and a prefix of an unassigned kind. -/
theorem witness_StepRunsDecoded_words : fetched (State.reset.withFetchWord 16 0x0000) = some ([0x0000], 1) ∧
    fetched (State.reset.withFetchWord 16 0xFC12) = some ([0xFC12], 2) := by decide +kernel

theorem test_step_nop : (nextOf (step coreNop)).map (fun t => t.core.pc) = some 0x1002 := by decide +kernel
theorem test_step_zero_faults : (nextOf (step (State.reset.withFetchWord 16 0))).map (fun t => t.core.ctl.fcode) =
    some 0x04000000 := by decide +kernel

/-! ### Operands (R32, R33, R54) -/

def ctx8 : OpCtx := ⟨8, false, 0, 0⟩

/-- A repetition body's state. -/
def inRep (pos b1 : BitVec 3) (left : BitVec 40) (s : State) : State :=
  { s with core := { s.core with rep := { Rep.idle with act := true, str := 1, iter := 1, pos := pos, b1 := b1, left := left } } }

/-- No repetition; one; an aligned pointer into working scratchpad of a small core, into the local store of a service core. -/
theorem witness_OperandReads :
    core.core.rep.act = false ∧ (inRep 0 0 2 core).core.rep.act = true ∧ core.svc = false ∧ service.svc = true ∧
    core.localKind core.focus 0 = .work ∧ core.localKind core.focus 0x3FFF8 = .work ∧
    service.localKind service.focus 0 = .work ∧ service.localKind service.focus 0x3FFF8 = .work ∧
    (core.core.r.ptr 0).toNat % 8 = 0 := by decide +kernel

/-- An address that is not aligned; the first one past the scratchpad; the first and last of the channel queues. -/
theorem witness_OperandReads_faults :
    trapOf ((withP 0 1 core).readOp ctx8 0b100000) = some (opnd 0x06 0x00 1) ∧
    core.localKind core.focus 0x40000 = .none ∧ spad.localKind spad.focus 65535 = .pers ∧
    spad.localKind spad.focus 65536 = .queue ∧ spad.localKind spad.focus (65536 + 64 * 320 - 1) = .queue ∧
    spad.localKind spad.focus (65536 + 64 * 320) = .work := by decide +kernel

/-- A slot below 24, one above without a record, one with a record. -/
theorem witness_OperandWrites :
    core.core.rep.act = false ∧ core.core.persUsed < 512 ∧
    (val (core.writeOp ctx8 0b010111 7)).isSome = true ∧ (val (core.writeOp ctx8 0b011000 7)).isSome = true ∧
    (val ((((val (core.writeOp ctx8 0b011000 7)).getD core)).writeOp ctx8 0b011000 8)).map (fun t => t.core.rsave) =
      some [⟨24, 0, false⟩] := by decide +kernel

/-- A write to working scratchpad and one to a persistent region. -/
theorem witness_OperandWrites_memory :
    core.spad.wf = true ∧ spad.core.persUsed < 512 ∧ spad.core.buf = [] ∧ spad.localKind spad.focus 0 = .pers ∧
    (val (core.writeOp ctx8 0b100000 0x1122)).map (fun t => t.spad) = some [⟨0, 0x22⟩, ⟨1, 0x11⟩] ∧
    (val (spad.writeOp ctx8 0b100000 0x1122)).map (fun t => t.core.buf) = some [.pers 0 (.bytes 0xFFFF 0x1122)] := by
  decide +kernel

/-- A byte of the cluster store poisoned, in working scratchpad and in a persistent region (R413): a read of it raises POISON, a
write of the whole byte lifts it, and the region's own buffered byte stands before it. -/
def poisonedStore (s : State) : State := { s with badStore := [3] }
theorem test_poisoned_read :
    trapOf ((poisonedStore core).readOp ctx8 0b100000) = some (opnd 0x11 0x01 0) ∧
    trapOf ((poisonedStore spad).readOp ctx8 0b100000) = some (opnd 0x11 0x01 0) ∧
    val ((poisonedStore core).readOp { ctx8 with n := 1 } 0b100000) = some 0 := by decide +kernel
theorem test_poison_written :
    (val ((poisonedStore core).writeOp ctx8 0b100000 5)).map (fun t => t.badStore) = some [] ∧
    (val ((poisonedStore core).writeOp { ctx8 with n := 2 } 0b100000 5)).map (fun t => t.badStore) = some [3] ∧
    (val ((poisonedStore spad).writeOp ctx8 0b100000 5)).map (fun t => (t.badStore, val (t.readOp ctx8 0b100000))) =
      some ([3], some 5) := by decide +kernel

theorem witness_RegisterWindow : (3 ≤ 3 ∧ 3 < 8) ∧ (20 ≤ 31 ∧ 31 < 32) ∧ (96 ≤ 127 ∧ 127 < 128) ∧ (1023 < 1024 ∧ 1023 % 8 ≠ 0) ∧
    val (core.loadLocal 0xFFF000 8 .scalar) = some 0 ∧
    trapOf (core.loadLocal 0xFFF018 8 .scalar) = some (opnd 0x0A 0x00 0xFFF018) := by decide +kernel

/-- Pointers without a buffer and with the spec's buffer of 256 bytes (R33); immediates with and without a chain (R36). -/
theorem witness_PostStepAndImmediates :
    (0x0000000800000010#64).extractLsb' 48 16 = 0 ∧ (0x00040040000003E0#64).extractLsb' 48 16 ≠ 0 ∧
    (0xFF : Nat) < 2 ^ 8 ∧ immxCount [.dst 1 0] = 0 ∧ immxCount [.immx 1] ≠ 0 ∧ immSigned [.immx 0x3FF] 8 0xFF = -1 := by
  decide

/-! ### The region -/

/-- No repetition; a middle position; the last position of the last and of an earlier iteration, its body's start known. -/
theorem witness_InstructionBoundary :
    core.core.rep.act = false ∧ (inRep 0 1 1 core).core.rep.pos ≠ (inRep 0 1 1 core).core.rep.b1 ∧
    (inRep 1 1 1 core).core.rep.left.toNat ≤ 1 ∧ 1 < (inRep 1 1 2 core).core.rep.left.toNat ∧
    (inRep 1 1 2 core).core.rep.pos = (inRep 1 1 2 core).core.rep.b1 := by decide

def longA : LongRes := ⟨0, [⟨.a, 0xFF, 5⟩], 0, 8, 0, []⟩
def withLong (l : List LongRes) (s : State) : State := { s with core := { s.core with long := l } }
def icountMax : State := { core with core := { core.core with icount := 65536 } }

theorem witness_InstructionBoundary_landing : core.core.icount < 65536 ∧ core.core.long = [] ∧
    (withLong [longA, { longA with left := 1 }] core).core.long = [longA, { longA with left := 1 }] ∧
    65536 ≤ icountMax.core.icount ∧ icountMax.core.long = [] ∧
    (withLong [longA] core).boundary.core.r.a = 5 := by decide +kernel

theorem witness_CommitCheckpoint : core.core.long = [] ∧ core.core.buf = [] := by decide

def withSave (l : List SlotSave) (s : State) : State := { s with core := { s.core with rsave := l } }

theorem witness_DiscardRestores :
    (withSave [⟨24, 7, true⟩, ⟨31, 0, false⟩] core).core.rsave.Pairwise (fun a b => a.n ≠ b.n) ∧
    (∀ e ∈ (withSave [⟨24, 7, true⟩, ⟨31, 0, false⟩] core).core.rsave, 24 ≤ e.n.toNat) ∧
    ((withSave [⟨24, 7, true⟩, ⟨31, 0, false⟩] core).discard.core.r.slot 24 = 7) := by decide +kernel

theorem witness_FaultParksRegion : core.svc = false ∧ core.core.act = some 1 ∧ core.core.freePark = some 0 := by decide +kernel

/-- A field fault, and a privileged instruction (ERET) on a small core. -/
theorem witness_DecodeFaultTaken :
    (Instr.sclr [] 0x3F).parts.isSome = true ∧ clean (.sclr [] 0x3F) core = false ∧
    (Instr.eret []).parts.isSome = true ∧ (attrsOf (.eret [])).map (·.priv) = some true ∧
    (nextOf (exec (.eret []) core)).map (fun t => t.core.ctl.fcode.extractLsb' 16 16) = some 0x0300 := by decide +kernel

theorem witness_MemoryInvariant : MemInv core ∧ (nextOf (step coreNop)).isSome = true := by
  unfold MemInv
  decide +kernel

/-- R283: a discard restores A from the checkpoint. -/
theorem test_discard_a : (withA 9 core).discard.core.r.a = 0 := by decide +kernel

/-! ### Integer instructions -/

/-- Slot 9 as operand of A, of a DST slot; a pointer operand that faults; a DST that faults. -/
theorem witness_IntegerResults :
    (∀ e ∈ aluTable [] 9, clean e.1 core = true) ∧ (∀ e ∈ aluTable [.dst 10 0] 9, clean e.1 core = true) ∧
    val (core.readOp (ctxS [] 9 8) 9) = some 0 ∧ (val (result core [] 9 1)).isSome = true ∧
    (val (result core [.dst 10 0] 9 1)).isSome = true ∧
    trapOf ((withP 0 1 core).readOp (ctxS [] 0x20 8) 0x20) = some (opnd 0x06 0x00 1) ∧
    trapOf (result (withP 0 1 core) [.dst 0x20 0] 9 1) = some (opnd 0x06 0x00 1) := by decide +kernel

/-- The worked example `add m10, m9` (R95): 0x7FFF…F + 1. -/
theorem test_add_dst : (nextOf (exec (.add [.dst 10 0] 9) (withA 0x7FFFFFFFFFFFFFFF (withM 9 (by decide) 1 core)))).map
    (fun t => (t.core.r.slot 10, t.core.r.flg.extractLsb' 0 4, t.core.r.pres.getLsbD 10)) =
    some (0x8000000000000000, 0b0101, true) := by decide +kernel
theorem test_sub_borrow : aFlags (.sub [] 9) (withM 9 (by decide) 1 core) = some (0xFFFFFFFFFFFFFFFF, 0b0110) := by decide +kernel
theorem test_adc_carry : aFlags (.adc [] 9) (withFlg 2 (withA 0xFFFFFFFFFFFFFFFF core)) = some (0, 0b1010) := by decide +kernel
theorem test_shl_64 : aFlags (.shl [] 9) (withA 1 (withM 9 (by decide) 64 core)) = some (0, 0b1010) := by decide +kernel
theorem test_sar_big : aFlags (.sar [] 9) (withA (-8) (withM 9 (by decide) 200 core)) = some (-1, 0b0110) := by decide +kernel
theorem test_mulh : aFlags (.mulh [] 9) (withA (-1) (withM 9 (by decide) 2 core)) = some (-1, 0b0100) := by decide +kernel
theorem test_clz_zero : (aFlags (.clz [] 9) core).map (·.1) = some 64 := by decide +kernel
theorem test_brev : (aFlags (.brev [] 9) (withM 9 (by decide) 1 core)).map (·.1) = some 0x8000000000000000 := by decide +kernel
theorem test_adds_clamps : aFlags (.adds [] 9) (withA 0x7FFFFFFFFFFFFFFF (withM 9 (by decide) 1 core)) =
    some (0x7FFFFFFFFFFFFFFF, 0b0001) := by decide +kernel
theorem test_min_signed : (aFlags (.min [] 9) (withM 9 (by decide) (-1) core)).map (·.1) = some (-1) := by decide +kernel

def cmpForms : List Instr := [.cmp [] 9, .tst [] 9, .sta [] 9, .mac [.dst 10 0] 9, .xchg [.dst 10 0] 9, .xchg [] 0x20]

theorem witness_CompareMoveBitFields : (∀ i ∈ cmpForms, clean i core = true) ∧
    val (first core [.dst 10 0] 9) = some 0 ∧ (val (core.writeOp (ctxS [] 9 8) 9 1)).isSome = true ∧
    specPtr 9 = false ∧ specPtr 0x20 = true ∧ core.svc = false ∧
    core.localKind core.focus (core.eaOf (specPtrNo 0x20) (ctxS [] 0x20 8).disp) = .work := by decide +kernel

/-- R101: a field at the top of the word, one beyond it, and a value of 4096. -/
theorem witness_CompareMoveBitFields_fields :
    (∀ i ∈ [Instr.bfx [.immx 0, .immx 0x3F] 9, .bfi [.immx 0x3F] 9, .bfx [.immx 0x7F] 9, .bfi [.immx 4, .immx 0] 9], clean i core = true) ∧
    (immxVal [.immx 0, .immx 0x3F] 0 < 4096 ∧ 63 + 1 ≤ 64) ∧ 64 < immxVal [.immx 0x7F] 0 % 64 + (immxVal [.immx 0x7F] 0 / 64 % 64 + 1) ∧
    4096 ≤ immxVal [.immx 4, .immx 0] 0 := by decide +kernel
theorem test_xchg_slot : (nextOf (exec (.xchg [] 9) (withA 3 (withM 9 (by decide) 4 core)))).map
    (fun t => (t.core.r.a, t.core.r.slot 9)) = some (4, 3) := by decide +kernel
/-- Position 4, length 8: v = 7 · 64 + 4 = 0x1C4. -/
theorem test_bfx : (aFlags (.bfx [.immx 0x1C4] 9) (withM 9 (by decide) 0xABCDEF core)).map (·.1) = some 0xDE := by decide +kernel

theorem witness_ImmediateForms : (∀ e ∈ immTable [.dst 10 0] 0xFF, clean e.1 core = true) ∧
    (∀ e ∈ immTable [] 0, clean e.1 core = true) ∧ clean (.cmpi [] 1) core = true ∧
    clean (.spres [] 0x18) core = true ∧ (0x18#8).getLsbD 5 = false ∧
    clean (.spres [] 0x37) core = true ∧ (0x37#8).getLsbD 5 = true ∧ (0x37#8).toNat % 32 < 24 := by decide +kernel
theorem test_ldi_minus_one : aFlags (.ldi [] 0xFF) core = some (-1, 0b0100) := by decide +kernel
theorem test_spres_clears : (nextOf (exec (.spres [] 0x29) ((nextOf (exec (.sta [] 9) core)).getD core))).map
    (fun t => (t.core.r.pres, t.core.r.flg.extractLsb' 3 1)) = some (0, 0) := by decide +kernel

def ptrForms : List Instr := [.pset [.immx 4] 1 0, .pget [] 1 0, .padd [] 1 63, .pstep [] 1 63, .pmod [] 1 4, .plea [] 1 2, .pswp [] 1 0, .pcmp [] 1 0]
def maskOps : List Instr := [.kand [] 0x6C, .kor [] 0x6C, .kxor [] 0x6C, .knot [] 0x60, .kmov [] 0x60, .kany [] 0x20, .kall [] 0x20,
  .kpop [] 0x20, .kseti [] 0x60]

/-- Pointer immediates inside and just outside their ranges (R105), and every mask instruction. -/
theorem witness_PointerAndMaskForms : (∀ i ∈ ptrForms, clean i core = true) ∧ (∀ i ∈ maskOps, clean i core = true) ∧
    (immUnsigned [.immx 4] 6 0).toNat < 2 ^ 24 ∧ (immUnsigned [.immx 0x100, .immx 0, .immx 0] 6 0).toNat ≥ 2 ^ 24 ∧
    clean (.pset [.immx 0x100, .immx 0, .immx 0] 1 0) core = true ∧
    (-2 ^ 15 ≤ (immSigned [.immx 0x200] 6 0).toInt ∧ (immSigned [.immx 0x200] 6 0).toInt < 2 ^ 15) ∧
    2 ^ 15 ≤ (immSigned [.immx 0, .immx 0x200] 6 0).toInt ∧ clean (.pstep [.immx 0, .immx 0x200] 1 0) core = true ∧
    (immSigned [.immx 0x3FF, .immx 0x100] 6 0).toInt < -2 ^ 15 ∧
    2 ^ 16 ≤ (immUnsigned [.immx 1, .immx 0] 6 0).toNat ∧ clean (.pmod [.immx 1, .immx 0] 1 0) core = true := by decide +kernel
theorem test_pset : (nextOf (exec (.pset [.immx 4] 1 0) (withP 1 0xFFFF000000000001 core))).map (fun t => t.core.r.ptr 1) =
    some 0xFFFF000000000100 := by decide +kernel
theorem test_knot : (nextOf (exec (.knot [] 0x60) core)).map (fun t => t.core.r.mask 1) = some 0xFFFFFFFFFFFFFFFF := by decide +kernel

theorem witness_SlotsCleared : clean (.sclr [] 0x69) core = true ∧ core.core.persUsed + 8 ≤ 512 ∧
    32 < (0xFF#8).toNat % 32 + ((0xFF#8).toNat / 32 + 1) ∧ (0xF8#8).toNat % 32 + ((0xF8#8).toNat / 32 + 1) ≤ 32 ∧
    clean (.sclr [] 0xF8) core = true := by decide +kernel
theorem test_sclr : (nextOf (exec (.sclr [] 0xE0) (withM 7 (by decide) 5 (withM 8 (by decide) 6 core)))).map
    (fun t => (t.core.r.slot 7, t.core.r.slot 8)) = some (0, 6) := by decide +kernel

/-! ### Floating point and vectors -/

/-- NaNs, infinities, zeros and a negative value, in FP32: the operand classes of R84 to R90. -/
theorem witness_FloatArithmetic :
    (f32.decode 0x7FC00000).isNan = true ∧ (f32.decode 0x7F800001).isSnan = true ∧ f32.decode 0x7F800000 = .inf false ∧
    f32.decode 0xFF800000 = .inf true ∧ (match f32.decode 0x80000000 with | .fin true 0 _ => true | _ => false) = true ∧
    (match f32.decode 0xC0000000 with | .fin true k _ => decide (k ≠ 0) | _ => false) = true ∧ 0x3F800000 < 2 ^ f32.bits := by
  decide +kernel

theorem witness_ScalarFloat : (∀ t : BitVec 2, ∀ e ∈ fpTable [] 9 t, clean e.1 core = true) ∧
    (∀ e ∈ fpTable [.dst 10 0] 9 1, clean e.1 core = true) ∧ clean (.ffma [.dst 10 0] 9 1) core = true ∧
    clean (.cvt [] 9 1 0) core = true ∧ clean (.cvt [] 9 4 0) core = true ∧
    val (core.readOp (ctxFp [] 9 4) 9) = some 0 ∧ (val (fpResult core [] 9 4 1)).isSome = true ∧
    (val (fpResult core [.dst 10 0] 9 4 1)).isSome = true := by decide +kernel
/-- 1.0 + 2.0 = 3.0, zero-extended; FP64 overflow sets OF and NX. -/
theorem test_fadd : (nextOf (exec (.fadd [] 9 1) (withA 0xFFFFFFFF3F800000 (withM 9 (by decide) 0x40000000 core)))).map
    (fun t => t.core.r.a) = some 0x40400000 := by decide +kernel
theorem test_fadd_overflow : (nextOf (exec (.fadd [] 9 0) (withA 0x7FEFFFFFFFFFFFFF (withM 9 (by decide) 0x7FEFFFFFFFFFFFFF core)))).map
    (fun t => t.core.r.a) = some 0x7FF0000000000000 := by decide +kernel
theorem witness_FclassValue : clean (.fclass [] 9 1) core = true ∧ (val (fpResult core [] 9 4 16)).isSome = true ∧
    0xFFFFFFFF < 2 ^ f32.bits := by decide +kernel
theorem test_fclass : (nextOf (exec (.fclass [] 9 1) (withM 9 (by decide) 0xFF800000 core))).map (fun t => t.core.r.a) =
    some 1 := by decide +kernel
theorem witness_FcmpOrder : clean (.fcmp [] 9 1) core = true ∧ clean (.fcmp [.dst 10 0] 9 1) core = true ∧
    val (core.readOp (ctxFpD [.dst 10 0] 9 10 4) 10) = some 0 := by decide +kernel
/-- −0 is less than +0 (R89): Z, N, C, V = 0110; a quiet NaN is unordered without IV (R107). -/
theorem test_fcmp_zeros : aFlags (.fcmp [] 9 1) (withA 0x80000000 core) = some (0x80000000, 0b0110) := by decide +kernel
theorem test_fcmp_nan : aFlags (.fcmp [] 9 1) (withA 0x7FC00000 core) = some (0x7FC00000, 0b0001) := by decide +kernel

theorem witness_VectorLanes : (∀ t : BitVec 2, ∀ e ∈ vfTable [] 1 0 true t, clean e.1 core = true) ∧
    (∀ t : BitVec 2, ∀ e ∈ viTable [.page 0x005] 1 0 false t, clean e.1 core = true) ∧
    (∀ t : BitVec 2, ∀ e ∈ viTable [] 1 0 false t, clean e.1 core = true) ∧
    val (core.loadLocal (core.eaOf 0 (dispOf [])) 64 .vec) = some 0 := by decide +kernel

def withVa (v : BitVec 2) (x : Nat) (s : State) : State := s.setVec v x

def moves : List Instr := [.vfceq [] 1 0 true 1, .vfclt [] 1 0 true 1, .vfcle [] 1 0 true 1, .vfreds [] 0 0 false 0, .vfreds [] 0 0 false 1,
  .vld [] 1 0 true, .vst [] 1 0 true, .vbcstI64 [] 1 0 true, .vbcstI32 [] 1 0 true, .vbcstI16 [] 1 0 true, .vbcstI8 [] 1 0 true,
  .vmov [] 1 2 false, .vshuf [] 1 0 true, .vsel [] 1 2 false]

theorem witness_VectorMoves : (∀ i ∈ moves, clean i core = true) ∧
    (val (core.storeLocal (core.eaOf 0 (dispOf [])) 64 1 .vec)).isSome = true ∧ val (core.loadLocal 0 8 .bcast) = some 0 := by
  decide +kernel
theorem test_vbcst : (nextOf (exec (.vbcstI8 [] 1 0 false) ((val (core.storeLocal 0 8 0xAB .scalar)).getD core))).map
    (fun (t : State) => (Claims.lane (t.core.r.vec 1) 8 63, t.core.r.a)) = some (0xAB, 0) := by decide +kernel
theorem test_viadd : (nextOf (exec (.viadd [] 1 0 false 0) (withVa 1 0xFF ((val (core.storeLocal 0 8 0x0102 .scalar)).getD core)))).map
    (fun (t : State) => Claims.lane (t.core.r.vec 1) 16 0) = some 0x0101 := by decide +kernel
/-- The eight lanes 1.0 sum to 8.0 (R114). -/
theorem test_vfreds : (nextOf (exec (.vfreds [] 0 0 false 0) (withVa 0 (0x3FF0000000000000 * ((2 ^ 512 - 1) / (2 ^ 64 - 1))) core))).map
    (fun t => t.core.r.a) = some 0x4020000000000000 := by decide +kernel

/-! ### Long instructions and exact accumulators -/

def w1la (la : BitVec 4) (aux : BitVec 6) : W1 := ⟨la, 0, 0, aux⟩

theorem witness_LongScalars : (∀ e ∈ longTable [] 9 (w1la 2 0), clean e.1 core = true) ∧
    (∀ e ∈ divTable [.dst 10 0] 9 (w1la 15 0), clean e.1 core = true) ∧ (∀ e ∈ divTable [] 9 (w1la 0 0), clean e.1 core = true) ∧
    (val (longTarget core [] 9 4 1)).isSome = true ∧ (val (longTarget core [.dst 10 0] 9 4 1)).isSome = true ∧
    (val (core.addLong longA)).isSome = true ∧ (val (core.addLong { longA with left := 2 })).isSome = true := by decide +kernel
theorem test_div_min : aFlags (.div [] 9 (w1la 0 0)) (withA 0x8000000000000000 (withM 9 (by decide) (-1) core)) =
    some (0x8000000000000000, 0b0101) := by decide +kernel
theorem test_rem_zero : aFlags (.rem [] 9 (w1la 0 0)) (withA 7 core) = some (7, 0b0001) := by decide +kernel
/-- With LA = 2 the quotient has not landed behind the instruction. -/
theorem test_div_window : aFlags (.divn [] 9 (w1la 2 0)) (withA 7 (withM 9 (by decide) 2 core)) = some (7, 0) := by decide +kernel

theorem witness_LongVectors : (∀ e ∈ vlongTable [] 0x20 (w1la 2 0x4), clean e.1 core = true) ∧
    clean (.vcvt [] 0x20 (w1la 0 0x08)) core = true ∧ clean (.vqnt [] 0x20 (w1la 0 0x4)) core = true ∧
    clean (.vdqnt [] 0x20 (w1la 0 0x4)) core = true ∧ core.extentBad core.focus 0 64 = none ∧
    val (core.localRead (core.localKind core.focus 0) 0 64) = some 0 ∧ 256 ≤ (withA 256 core).core.r.a.toNat ∧
    clean (.vqnt [] 0x20 (w1la 0 0x4)) (withA 256 core) = true := by decide +kernel

/-- A working-scratchpad accumulator of zero, one with a reserved bit, and slot numbers and addresses out of range. -/
theorem witness_ExactAccumulators :
    (∀ i ∈ [Instr.xadd [] 0x20 (w1la 0 1), .vxadd [] 0x20 (w1la 0 1), .xmrg [] 0x20 (w1la 0 8), .xmrg [] 0x20 (w1la 0 0),
      .xclr [] 0x20 (w1la 0 0), .xrnd [] 0x20 (w1la 0 1)], clean i core = true) ∧
    core.svc = false ∧ core.extentBad core.focus 0 272 = none ∧ (∀ k ∈ List.range 5, core.localKind core.focus (64 * k) = .work) ∧
    xaccOf true 0 = some ⟨0, 0⟩ ∧ xaccOf false 0 = some ⟨0, 0⟩ ∧ 2 ^ 314 ≤ 2 ^ 319 ∧
    27 < (withA 28 core).core.r.a.toNat ∧ 2 ^ 24 ≤ (withA 0x1000000 core).core.r.a.toNat ∧
    (val ((withA 512 core).readXacc false 512)).isSome = true := by decide +kernel
theorem witness_ExactAccumulators_poison : core.storeBad 0 272 = false ∧ (poisonedStore core).storeBad 0 40 = true ∧
    (∀ i ∈ [Instr.xadd [] 0x20 (w1la 0 1), .vxadd [] 0x20 (w1la 0 1), .xmrg [] 0x20 (w1la 0 8), .xrnd [] 0x20 (w1la 0 1)],
      clean i (poisonedStore core) = true) := by decide +kernel
theorem test_xadd_xrnd : (nextOf (exec (.xrnd [] 0x20 (w1la 0 1)) ((nextOf (exec (.xadd [] 0x20 (w1la 0 1))
    (withA 0x3F800000 core))).getD core))).map (fun t => t.core.r.a) = some 0x3F800000 := by decide +kernel

/-! ### Control, channels, exceptions -/

theorem witness_ControlTransfers : (∀ e ∈ transfers [] 0x1FF 2 0x17, clean e.1 core = true) ∧
    ((transfers [] 0 0 0).map fun e => e.2.1 core) = [false, true, false, true, false, true, false, true, true, true, true, true, true] ∧
    ((withM 23 (by decide) 3 core).core.r.m[23]).getLsbD 0 = true := by decide +kernel
/-- BRL +2 at 0x1000: M23 = 0x1002, the target is 2 halfwords on. -/
theorem test_brl : (nextOf (exec (.brl [] 2) core)).map (fun t => (t.core.pc, t.core.r.slot 23, t.core.r.pres)) =
    some (0x1004, 0x1002, 0x00800000) := by decide +kernel
theorem test_ret_odd : (nextOf (exec (.ret []) (withM 23 (by decide) 3 core))).map (fun t => (t.core.ctl.fcode.extractLsb' 16 16, t.core.act)) =
    some (0x0603, none) := by decide +kernel

theorem witness_EndingForms : (∀ i ∈ [Instr.nop [], .commit [], .done [], .yield [], .svc [] 0 ⟨0, 0, 0, 5⟩], clean i core = true) ∧
    (Instr.svc [] 0 ⟨0, 0, 0, 5⟩).parts.isSome = true ∧
    ((core.boundary.retire core.boundary (Instr.yield []).bytes).commit).core.act = some 1 := by decide +kernel
theorem test_yield : (nextOf (exec (.yield []) core)).map (fun t => (t.core.act, (t.core.chan 1).bare, t.core.ck.pc)) =
    some (none, true, 0x1002) := by decide +kernel

/-- A service core of tile 0 with 64 frames from local address 0. -/
def withService : State := core.setCore (svcOf 0) { Core.zero with ctl := { Core.zero.ctl with migcfg := 0x80FC0000 } }
def serviceFrame (a busy : Word) : State :=
  withA a { service with core := { service.core with
    ctl := { service.core.ctl with migcfg := 0x80FC0000, migbusy := busy }, frames := [(0, (5, 7)), (63, (6, 8))] } }

theorem witness_TrapAndReturn : clean (.trap [] 0x30) core = true ∧ withService.svc = false ∧ withService.core.act = some 1 ∧
    withService.core.freePark = some 0 ∧ withService.lstore.wf = true ∧
    freeFrame (withService.coreAt (svcOf (tileOf withService.focus))).ctl.migcfg
      (withService.coreAt (svcOf (tileOf withService.focus))).ctl.migbusy = some 0 := by decide +kernel

/-- The first and the last frame in use; a frame with a reserved bit in CTL; an address that is no frame in use. -/
theorem witness_TrapAndReturn_frames :
    clean (.eret []) (serviceFrame 0 1) = true ∧ clean (.eret []) (serviceFrame 0x7E00 0x8000000000000000) = true ∧
    0 ≤ bits (0x80FC0000 : Word) 23 18 ∧ 63 ≤ bits (0x80FC0000 : Word) 23 18 ∧
    (0x7E00 : Word) = BitVec.ofNat 64 (512 * (bits (0x80FC0000 : Word) 17 9 + 63)) ∧
    (0x8000000000000000#64).getLsbD 63 = true ∧
    (serviceFrame 0 1).core.frames.find? (fun e => e.1 == 0) = some (0, (5, 7)) ∧
    (nextOf (exec (.eret []) { serviceFrame 0 1 with lstore := [⟨0x18, 2⟩] })).map (fun t => t.core.ctl.fcode.extractLsb' 16 16) = some 0x0772 ∧
    (nextOf (exec (.eret []) (serviceFrame 8 1))).map (fun t => t.core.ctl.fcode.extractLsb' 16 16) = some 0x0771 := by decide +kernel
theorem test_eret : (nextOf (exec (.eret []) (serviceFrame 0 1))).map (fun t => (t.core.ctl.migbusy, t.wire.length)) = some (0, 1) := by
  decide +kernel
theorem test_trap : (nextOf (exec (.trap [] 0x30) withService)).map
    (fun t => (t.core.ctl.fcode, t.core.act, (t.core.park 0).st, (t.coreAt (svcOf 0)).ctl.migbusy)) =
    some (0x30300000, none, .migrated, 1) := by decide +kernel


/-- The running core with words in its code page. -/
def code (ws : List Half) : State := { core with mem := placeWords (placeTables []) 0x10000 ws }

/-- The greatest slot stride; a count of 0 over NOP at the next word; a long instruction's base word. -/
theorem witness_Repetition : clean (.rep [.immx 0] 0x04) (code [0xF000, 0xB804, 0x0100]) = true ∧
    clean (.rep [] 0xFC) core = true ∧ immxCount [.immx 0] ≠ 0 ∧ immxVal [.immx 0] 0 = 0 ∧ (0x04#8).extractLsb' 5 3 = 0 ∧
    (val (((code [0xF000, 0xB804, 0x0100]).fetchHalf 0x1004 2).2.toOption.elim (.error .wait) .ok : Except Stop Half)) =
      some 0x0100 ∧ isLong (0x0100 : Half) = false ∧ isLong (0xC027 : Half) = true := by decide +kernel
theorem test_rep_zero : (nextOf (step (code [0xF000, 0xB804, 0x0100]))).map (fun t => (t.core.pc, t.core.rep.act)) =
    some (0x1006, false) := by decide +kernel
theorem test_rep : (nextOf (exec (.rep [] 0x24) (withA 9 core))).map (fun t => (t.core.rep.left, t.core.rep.b1, t.core.rep.str)) =
    some (10, 1, 1) := by decide +kernel

theorem witness_ChannelsAndControlRegisters :
    (∀ c ∈ [0x00, 0x37, 0x38, 0x3F], ∀ i ∈ [Instr.chen [] c, .chdis [] c, .chclr [] c,
      .cmask [] c, .cunmask [] c], clean i core = true) ∧
    clean (.chpend [] 0x38) core = true ∧ clean (.chpri [.immx 5] 0x38) core = true ∧ clean (.chpend [] 0x37) core = true ∧
    clean (.chpri [.immx 5] 0x37) core = true := by decide +kernel
theorem witness_ChannelsAndControlRegisters_numbers :
    (∀ n ∈ [0x00, 0x01, 0x02, 0x04, 0x05, 0x08, 0x09, 0x0A, 0x0C], clean (.mfc [] n) core = true) ∧
    (∀ n ∈ [0x81, 0x82, 0x84, 0x85, 0x88, 0x98], clean (.mfc [] n) service = true) ∧
    (∀ n ∈ [0x00, 0x01, 0x02, 0x03, 0x04, 0x05, 0x06, 0x07, 0x08, 0x09, 0x0A, 0x0B, 0x0C, 0x0D, 0x0E, 0x0F], clean (.mtc [] n) core = true) ∧
    clean (.mtc [] 0x98) service = true := by decide +kernel
theorem test_mtc_chen1 : (nextOf (exec (.mtc [] 0x05) (withA 0xFFFFFFFF core))).map (fun t => t.core.ctl.chen) =
    some 0xFEFFFFFF00000000 := by decide +kernel

/-! ### Global memory -/

/-- The core with a data page at virtual 0x2000: on physical 0x30000, and on host memory as a device page (POL 2, HP 2). -/
def pagedTo (leaf : Nat) : State := { core with mem := placeTables [] |>.writeLE 0x14010 8 leaf }
def paged : State := pagedTo 0x00400000000303C3
def device : State := pagedTo 0x0448000000000BC3

/-- The same with slot 9 holding an address. -/
def at9 (va : Word) (s : State) : State := withM 9 (by decide) va s

def spotOf (r : State × Except Stop Spot) : Option Spot := match r.2 with | .ok x => some x | .error _ => none
def dstX : List Prefix := [.dst 10 3]

theorem witness_GlobalLoads :
    (∀ i ∈ [Instr.ldg [] 9 ⟨0, 0, 0, 0⟩, .ldx [] 9 ⟨0, 0, 0, 0⟩, .ldg dstX 9 ⟨15, 4, 1, 0⟩, .vldg [] 9 ⟨0, 0, 0, 0⟩, .pref [] 9 ⟨0, 0, 0, 0⟩],
      clean i paged = true) ∧
    val (address (at9 0x2040 paged) [] 9) = some 0x2040 ∧
    spotOf ((at9 0x2040 paged).resolve .read 0x2040 8) = some (.phys 0x30040 0x00400000000303C3) ∧
    ptePol 0x00400000000303C3 = 0 ∧ paged.hostBlock (paged.readStops paged.focus true (0x30040 / 128)) = none ∧
    paged.fromMemory (.phys 0x30040 0x00400000000303C3) 8 ≠ [] ∧ paged.poisoned 0x30040 8 = false ∧
    ({ paged with poison := [(0x30040 / 128, -1)] } : State).poisoned 0x30040 8 = true ∧
    spotOf (paged.resolve .read 0x7F0000000000 8) = some (.loc 0) ∧ paged.core.buf = [] ∧
    byteOn paged [] ⟨0, 0, 0, 0⟩ 63 = true := by decide +kernel
theorem test_ldg : (nextOf (exec (.ldg [.dst 10 0x0B] 9 ⟨0, 0, 0, 0⟩) (at9 0x2004 { paged with
    mem := paged.mem.writeLE 0x30004 4 0x80000001 }))).map (fun t => t.core.r.slot 10) = some 0xFFFFFFFF80000001 := by decide +kernel
/-- A shareable region whose first doubleword the region has written and not published, read by the remote window (R169, R185). -/
def ownRemote : State := at9 0x7E0000000000 ({ core.setCluster 0 { Cluster.zero with regions := [⟨0, 64, true⟩], qd := some (2, 2, 2) } with
  core := { core.core with buf := [.pers 0 (.bytes 0xFFFF 0x1122)] } })
theorem witness_GlobalLoads_remote :
    (∀ i ∈ [Instr.ldg [] 9 ⟨0, 0, 0, 0⟩, .ldx [] 9 ⟨0, 0, 0, 0⟩], clean i ownRemote = true) ∧ ownRemote.boundary.commitBlock = none ∧
    val (address ownRemote.boundary.tickLong [] 9) = some 0x7E0000000000 ∧
    val (address ownRemote.boundary.commit.tickLong [] 9) = some 0x7E0000000000 ∧
    spotOf (ownRemote.boundary.tickLong.resolve .read 0x7E0000000000 8) = some (.rem 0 0) ∧
    (ownRemote.boundary.tickLong.resolve .read 0x7E0000000000 8).1.spotLE (.rem 0 0) 8 = none ∧
    spotOf (ownRemote.boundary.commit.tickLong.resolve .read 0x7E0000000000 8) = some (.rem 0 0) := by decide +kernel
theorem test_ldg_remote_own : (nextOf (exec (.ldg [] 9 ⟨0, 0, 0, 0⟩) ownRemote)).map
    (fun t => (t.core.r.a, t.core.buf.length, t.spad.readLE 0 8)) = some (0x1122, 0, 0x1122) := by decide +kernel
theorem test_ldg_misaligned : (nextOf (exec (.ldg [] 9 ⟨0, 0, 0, 0⟩) (at9 0x2004 paged))).map
    (fun t => t.core.ctl.fcode.extractLsb' 16 16) = some 0x0601 := by decide +kernel

theorem witness_GlobalStores :
    (∀ i ∈ [Instr.stg [] 9 ⟨0, 0, 0, 0⟩, .stx [] 9 ⟨0, 4, 2, 0⟩, .vstg [] 9 ⟨0, 0, 0, 0⟩, .stn [] 9 ⟨0, 0, 0, 0⟩], clean i paged = true) ∧
    val (stored paged [.dst 10 0] 8) = some 0 ∧
    spotOf (paged.resolve .write 0x2048 8) = some (.phys 0x30048 0x00400000000303C3) ∧
    block (.phys 0x30048 0x00400000000303C3) = some (.phys 0x30040, 8) ∧ block (.phys 0x30040 0x00400000000303C3) = some (.phys 0x30040, 0) ∧
    globUsed paged.core.buf < 256 ∧ spotOf (paged.resolve .write (0x4001 >>> 1) 1) = some (.phys 0x30000 0x00400000000303C3) ∧
    ptePol 0x0448000000000BC3 = 2 ∧ clean (.stn [] 9 ⟨0, 0, 0, 0⟩) device = true ∧
    spotOf (device.resolve .write (0x4001 >>> 1) 1) = some (.phys 0x8000000000000 0x0448000000000BC3) := by decide +kernel
/-- A store reaches memory at the commit, not before it. -/
theorem test_stg_commit : (nextOf (exec (.stg [] 9 ⟨0, 0, 0, 0⟩) (withA 0x1122 (at9 0x2048 paged)))).map
    (fun t => (t.mem.readLE 0x30048 8, t.commit.mem.readLE 0x30048 8, t.commit.mem.readLE 0x30040 8)) = some (0, 0x1122, 0) := by decide +kernel
theorem test_stn : (nextOf (exec (.stn [] 9 ⟨0, 0, 0, 0⟩) (withA 0xA5 (at9 0x4001 { paged with
    mem := paged.mem.writeLE 0x30000 1 0x3C })))).map (fun t => t.commit.mem.readLE 0x30000 1) = some 0x5C := by decide +kernel

theorem witness_CommitPublishes : MemInv core ∧ core.core.long = [] ∧ core.poisoned 0x30007 1 = false := by
  unfold MemInv
  decide +kernel

theorem witness_DeviceAccess :
    (∀ i ∈ [Instr.ldg [] 9 ⟨0, 0, 0, 0⟩, .ldx [] 9 ⟨0, 0, 0, 0⟩, .stg [] 9 ⟨0, 0, 0, 0⟩, .stx [] 9 ⟨0, 0, 0, 0⟩],
      clean i (at9 0x2000 device) = true ∧ commits i = false ∧ clean i (inRep 0 0 1 (at9 0x2000 device)) = true) ∧
    clean (.ldg [] 9 ⟨1, 0, 0, 0⟩) (at9 0x2000 device) = true ∧ (at9 0x2000 device).boundary.commitBlock = none ∧
    spotOf ((at9 0x2000 device).commit.resolve .read 0x2000 8) = some (.phys 0x8000000000000 0x0448000000000BC3) ∧
    spotOf ((at9 0x2000 device).commit.resolve .write 0x2000 8) = some (.phys 0x8000000000000 0x0448000000000BC3) := by decide +kernel
/-- An accumulated commit of a poisoned store, of one in a doomed line, and a remote read of an own region's unpublished bytes, which commits first
(R169, R185). -/
theorem witness_CommitPublishes_doomed :
    findAt ({ core with core := { core.core with doomed := [(0x30040 / 128, 0x13)] } } : State).core.doomed (0x30040 / 128) = some 0x13 ∧
    findAt core.core.doomed (0x30040 / 128) = none ∧ device.boundary.commitBlock = none ∧
    (({ spad with core := { spad.core with buf := [.pers 0 (.bytes 0xFFFF 0x1122)] } } : State).spotLE (.rem 0 0) 8) = none := by
  decide +kernel
theorem test_device_store : (nextOf (exec (.stg [] 9 ⟨0, 0, 0, 0⟩) (withA 0x55 (at9 0x2000 device)))).map
    (fun t => (t.mem.readLE 0x8000000000000 8, t.core.icount, t.core.ck.pc)) = some (0x55, 0, 0x1002 + 2) := by decide +kernel

/-- A leaf of a host page (HP 2). -/
def hostLeaf : Word := 0x04480000000003C3

theorem witness_Atomics :
    (∀ e ∈ amoTable core [] 9 ⟨0, 4, 0, 0⟩, clean e.1 core = true) ∧ (∀ e ∈ amoTable core [.dst 10 3] 9 ⟨0, 4, 0, 0⟩, clean e.1 core = true) ∧
    (∀ e ∈ amoTable core [.dst 0x3C 0] 9 ⟨0, 4, 2, 1⟩, clean e.1 core = true) ∧
    (∀ i ∈ [Instr.amocas [.dst 0x3C 0] 9 ⟨0, 4, 0, 0⟩, .amocas [.dst 0x3C 3] 9 ⟨0, 4, 0, 0⟩, .amocas [.dst 0x3C 5] 9 ⟨0, 4, 0, 0⟩,
      .fence [] 0 ⟨0, 4, 0, 4⟩, .xfence [] 0 ⟨0, 4, 0, 0⟩], clean i core = true) ∧ clean (.xfence [] 0 ⟨0, 4, 0, 0⟩) service = true ∧
    widthBytes 3 8 = 4 ∧ widthBytes 5 8 = 16 ∧ pteHp hostLeaf = 2 ∧
    spotOf ((pagedTo 0x04480000000003C3).resolve .rmw 0x2000 8) = some (.phys 0x8000000000000 hostLeaf) ∧
    (pagedTo 0x04480000000003C3).cachedLeaf 0x8000000000000 hostLeaf = false ∧
    (pagedTo 0x04480000000003C3).hostBlock ((pagedTo 0x04480000000003C3).writeStops (0x8000000000000 / 128)) = none ∧
    (pagedTo 0x04480000000003C3).poisoned 0x8000000000000 8 = false ∧
    (pagedTo 0x04480000000003C3).l1At (clusterOf 0) (0x8000000000000 / 128) = none ∧
    spotOf (paged.resolve .rmw 0x2000 8) = some (.phys 0x30000 0x00400000000303C3) := by decide +kernel

/-! ### Tiles, lines, streams, bulk copy -/

def tileSpot (r : State × Except Stop (Option Phys)) : Option (Option Nat) :=
  match r.2 with | .ok x => some (x.map fun (y : Phys) => y.pa) | .error _ => none

/-- Core 0's tile in partition 1 (whose tables are those of the data page), and a declared tile of two lines at 0x30000. -/
def tiled : State :=
  { paged with tilePart := [(0, 1)], parts := [(1, { Part.zero with ptroot := 0x11001 })]
               tiles := [⟨1, 0x30000 / 128, 0, [0x30000 / 128, 0x30080 / 128], DirRec.zero⟩] }

def geometry (rows ln pitch : Nat) : Word := BitVec.ofNat 64 (pitch * 65536 + (ln - 1) * 2048 + (rows - 1))
def xsOf (l : List Nat) : List Phys := l.map fun p => ⟨p, 0x00400000000303C3, 0⟩

theorem witness_TilesAndLines :
    (∀ i ∈ [Instr.tund [] 9 ⟨0, 0, 0, 0⟩, .twb [] 9 ⟨0, 0, 0, 0⟩, .tinv [] 9 ⟨0, 0, 0, 0⟩, .tfwd [] 9 ⟨0, 0, 0, 0⟩, .tdecl [] 9 ⟨0, 0, 0, 0⟩,
      .clwb [] 9 ⟨0, 0, 0, 0⟩, .clinv [] 9 ⟨0, 0, 0, 0⟩, .clfl [] 9 ⟨0, 0, 0, 0⟩], clean i tiled = true) ∧
    tiled.partOf tiled.focus = 1 ∧ tileSpot ((at9 0x2000 tiled).tileAddr .leaf 0x2000) = some (some 0x30000) ∧
    tileSpot ((at9 0x2080 tiled).tileAddr .leaf 0x2080) = some (some 0x30080) ∧
    (tiled.tiles.find? fun z => decide (z.base = 0x30080 / 128 ∧ z.part = 1)) = none ∧
    (tiled.tiles.find? fun z => decide (z.base = 0x30000 / 128 ∧ z.part = 1)).isSome = true ∧
    tileSpot (tiled.tileAddr .leaf 0x7F0000000000) = some none ∧ tiled.hostBlock (tiled.unitStops (0x30000 / 128)) = none ∧
    tiled.hostBlock (tiled.absorbStops [0x30100 / 128]) = none ∧ tiled.hostBlock [(0x30000 / 128, true)] = none ∧
    (tiled.tileAt (0x30000 / 128)).isSome = true ∧ tiled.home.wf = true ∧ tiled.paired 1 = false ∧
    (tiled.cluster 0).gated = false ∧ (tiled.cluster 0).spadBytes < 1048576 ∧
    (geometry 8 2 256).extractLsb' 40 24 = 0 ∧ 256 % 128 = 0 ∧ 128 * 2 ≤ 256 ∧ 8 * 2 * 128 ≤ 262144 ∧
    ¬ (128 * 32 ≤ 256) ∧ paged.tileAt (0x30000 / 128) = none ∧
    spotOf ((at9 0x2000 tiled).resolve .leaf 0x2000 1) = some (.phys 0x30000 0x00400000000303C3) := by decide +kernel
theorem test_tdecl_again : (nextOf (exec (.tdecl [] 9 ⟨0, 0, 0, 0⟩) (withA (geometry 1 1 128) (at9 0x2080 tiled)))).map
    (fun t => (t.core.r.a, t.tiles.length)) = some (1, 1) := by decide +kernel
theorem test_tund : (nextOf (exec (.tund [] 9 ⟨0, 0, 0, 0⟩) (at9 0x2000 tiled))).map
    (fun t => (t.core.r.a, t.core.r.flg.extractLsb' 3 1, t.tiles.length)) = some (0, 1, 0) := by decide +kernel

/-- A fill buffer 0 of four slots of 64 bytes, one filled, its channel 5 enabled. -/
def streamed : State := { core with core := { core.core with se := { core.core.se with
  bufs := core.core.se.bufs.set 0 ⟨true, false, true, 5, 1, 2, 3, 1, 4, 64, 0x400, 0⟩ } } }
def sbufDesc : Word := 0x0100030000000400

theorem witness_StreamInstructions :
    (∀ i ∈ [Instr.sbuf [] 9 ⟨0, 0, 0, 0⟩, .speek [] 0x3C ⟨0, 0, 0, 0⟩, .sfree [] 0x31 ⟨0, 0, 0, 0⟩, .scnt [] 0x3C ⟨0, 0, 0, 0⟩,
      .sgo [] 0x20 ⟨0, 0, 0, 0⟩], clean i streamed = true) ∧
    val (core.readOp (ctxLong [] 0x31) 0x31) = some 1 ∧ core.core.se.queue.length < 2 ∧
    sbufDesc.extractLsb' 57 7 = 0 ∧ sbufDesc.extractLsb' 24 8 = 0 ∧ sbufDesc.getLsbD 56 = true ∧
    core.extentBad core.focus 0x400 256 = none ∧ core.extentBad core.focus 0x40000 64 ≠ none ∧
    val (streamed.recordAt [] 0x20) = some 0 ∧ (val (streamed.recordDws 0)).map List.length = some 8 ∧
    (val (streamed.shapeDws [0, 64, 0, 0, 0, 0, 0, 0])).isSome = true ∧
    (streamed.core.se.bufs[0]).filled = 1 ∧ (streamed.core.se.bufs[0]).cfg = true ∧ (core.core.se.bufs[0]).cfg = false := by
  decide +kernel
theorem test_speek : (nextOf (exec (.speek [] 0x3C ⟨0, 0, 0, 0⟩) streamed)).map (fun t => (t.core.r.a, t.core.r.flg.extractLsb' 3 1)) =
    some (0x440, 0) := by decide +kernel
theorem test_sfree : (nextOf (exec (.sfree [] 0x31 ⟨0, 0, 0, 0⟩) streamed)).map
    (fun t => ((t.core.se.bufs[0]).head, (t.core.se.bufs[0]).filled, (t.core.se.bufs[0]).free)) = some (2, 0, 4) := by decide +kernel

/-- A record of 16 bytes from 0x2000 to 0x1000 at dike die 0. -/
def cpRecord : List Word := [0, 0x2000, 0x1000, 0x100000010, 0, 0, 0, 0]
/-- Ticket 1 of partition 1 at dike die 0, accepted, under way, done and ended. -/
def copied (taken : Bool) (st : Option (BitVec 8)) : State :=
  { tiled with tickets := [(1, 1)], bulks := [⟨0, 1, 1, 0, 0, cpRecord, taken, false, [], 16, st, 0xC8E0, false, []⟩] }

theorem witness_BulkCopyInstructions : clean (.cpgo [] 0x20 ⟨0, 0, 0, 0⟩) tiled = true ∧ clean (.cpst [] 9 ⟨0, 0, 0, 0⟩) tiled = true ∧
    (val (tiled.recordAt [] 0x20)).isSome = true ∧ (val (tiled.cpCheck cpRecord 0)).isSome = true ∧
    bits (dw cpRecord 0) 35 32 = 0 ∧ (∀ x ∈ [none, some 0, some 0x11], ((copied true x).bulks.find? fun b =>
      decide (b.dk = bits (0x0000020000000001 : Word) 51 48 ∧ b.part = 1 ∧ b.seq = bits (0x0000020000000001 : Word) 31 0)).isSome = true) ∧
    (getAt 0 (copied true none).tickets (bits (0x0000020000000001 : Word) 51 48 * 128 + 1) -
      (0x0000020000000001 : Word).extractLsb' 0 32).toNat < 256 ∧ bits (0x0000020000000001 : Word) 47 41 = 1 := by decide +kernel
theorem test_cpst_done : (aFlags (.cpst [] 9 ⟨0, 0, 0, 0⟩) (at9 0x0000020000000001 (copied true (some 0)))).map (·.1) =
    some 0x0200000000000010 := by decide +kernel

/-! ### Engine commands, barriers, messages, launches -/

/-- An FP64 1 × 1 × 1 command from descriptors of zeros, an MXST of one element, a GRED of one slot. -/
def mxRecord : List Word := [0, 0x0000000100010001, 0x1000, 0x1000, 0, 0, 0, 0]
def mxstRecord : List Word := [0, 0x0000000000010001, 0x1000, 0, 0, 0, 0, 0]
def gredRecord : List Word := [0x100000, 0x40, 0, 0, 0, 0, 0, 0]

/-- Doublewords at local address 0 of the core's cluster. -/
def placed (ws : List Word) (s : State) : State :=
  { s with spad := (List.range ws.length).foldl (fun m i => m.writeLE (8 * i) 8 (dw ws i).toNat) s.spad }

theorem witness_MatrixInstructions :
    (∀ i ∈ [Instr.mxgo [] 0x20 ⟨0, 0, 0, 0⟩, .mxst [] 0x20 ⟨0, 0, 0, 0⟩, .mxrd [] 9 ⟨0, 0, 0, 10⟩, .mxwr [] 9 ⟨0, 0, 0, 0⟩,
      .mxcfg [] 0x30 ⟨0, 0, 0, 0⟩, .mxmsk [] 28 ⟨0, 0, 0, 0⟩, .mxabt [] 9 ⟨0, 0, 0, 0⟩], clean i (placed mxRecord core) = true) ∧
    val ((placed mxRecord core).recordAt [] 0x20) = some 0 ∧ val ((placed mxRecord core).recordDws 0) = some mxRecord ∧
    val (core.mxCheck ⟨false, mxRecord, List.replicate 2 0, List.replicate 2 0, 0, 0, 0, 0xD020⟩ 0) = some () ∧
    val (core.mxCheck ⟨true, mxstRecord, List.replicate 2 0, List.replicate 8 0, 0, 0, 0, 0xD060⟩ 0) = some () ∧
    core.core.mx.queue.length < 2 ∧ core.core.mx.cfg = 0 ∧ core.core.mx.run = none ∧
    (0x7F : Word).extractLsb' 17 47 = 0 ∧ (0x7F : Word).toNat * 4 < 512 ∧ (0x20000 : Word).extractLsb' 17 47 ≠ 0 ∧
    val (core.readOp (ctxLong [] 0x30) 0x30) = some 0 ∧ (val (core.writeTarget (ctxLong [] 9) 9 1)).isSome = true := by
  decide +kernel
/-- Two entries wait, and an instruction holds its captured entry (R122). -/
def waiting (n : Nat) (c : Option Captured) : State := { placed mxRecord core with core := { core.core with
  capt := c, mx := { core.core.mx with queue := List.replicate n (.cfg 1) }
  vu := { core.core.vu with queue := List.replicate n (.gred gredRecord 1) }, bars := List.replicate n ⟨7, 0, 0, 5, 1⟩ } }
theorem witness_MatrixInstructions_waits :
    (∀ c ∈ [none, some (Captured.mx (.cfg 2))], ∀ n ∈ [1, 2], clean (.mxcfg [] 0x32 ⟨0, 0, 0, 0⟩) (waiting n c) = true) ∧
    (waiting 2 none).core.mx.queue.length = 2 ∧ mxRecord.length = 8 ∧ (dw [1] 0).extractLsb' 0 5 ≠ 0 ∧
    val ((withA 0 core).readOp (ctxLong [] 0x32) 0x32) = some 2 ∧ (0x80 : Word).extractLsb' 17 47 = 0 := by decide +kernel
theorem test_mxcfg_waits : (nextOf (exec (.mxcfg [] 0x32 ⟨0, 0, 0, 0⟩) (waiting 2 none))).map
    (fun t => (t.core.capt, t.core.mx.queue.length, t.core.pc)) = some (some (.mx (.cfg 2)), 2, 0x1000) := by decide +kernel
theorem test_mxcfg_goes_on : (nextOf (exec (.mxcfg [] 0x31 ⟨0, 0, 0, 0⟩) (waiting 1 (some (.mx (.cfg 2)))))).map
    (fun t => (t.core.capt, t.core.mx.queue)) = some (none, [.cfg 1, .cfg 2]) := by decide +kernel

theorem test_mxgo : (nextOf (exec (.mxgo [] 0x20 ⟨0, 0, 0, 0⟩) (placed mxRecord core))).map (fun t => t.core.mx.queue.length) = some 1 := by
  decide +kernel
theorem test_mxcfg_three : (nextOf (exec (.mxcfg [] 0x33 ⟨0, 0, 0, 0⟩) core)).map (fun t => t.core.ctl.fcode.extractLsb' 16 16) =
    some 0x0714 := by decide +kernel

/-- A vector 5 unmasked at port 0, the partition's lease held by port 0. -/
def leased (mask : BitVec 64) : State := { tiled with
  parts := [(1, { Part.zero with ptroot := 0x11001, lease := 0x4000000000000000 })]
  sluice := { tiled.sluice with msix := [((0 * 128 + 1) * 2048 + 5, (0xFEE00000, mask))] } }

theorem witness_GangInstructions :
    (∀ i ∈ [Instr.gred [] 0x20 ⟨0, 0, 0, 0⟩, .vmaxx [] 9 ⟨0, 0, 0, 5⟩, .bar [] 9 ⟨0, 0, 0, 5⟩, .hint [] 9 ⟨0, 0, 0, 0⟩],
      clean i (leased 0) = true) ∧
    val (core.gredCheck gredRecord 0) = some () ∧ core.core.vu.queue.length < 2 ∧ core.core.bars.length < 2 ∧
    core.core.seat.isSome = true ∧ (0 : Nat) / 2 ^ 0 * 2 ^ 0 + 2 ^ 0 ≤ 0 + 1 ∧ (5 : BitVec 6) ≠ 56 ∧
    (0x0001000C : Word).extractLsb' 8 8 = 0 ∧ (0x100 : Word).extractLsb' 8 8 ≠ 0 ∧
    (((leased 0).part 1).lease.extractLsb' 62 2).toNat = 1 ∧ (tiled.part 1).lease = 0 ∧
    (findAt (leased 0).sluice.msix ((0 * 128 + 1) * 2048 + 5)).isSome = true ∧ (0x100000000#64).getLsbD 32 = true := by decide +kernel
theorem witness_GangInstructions_waits :
    (∀ c ∈ [none, some (Captured.vu (.gred gredRecord 1))], ∀ n ∈ [1, 2],
      clean (.gred [] 0x20 ⟨0, 0, 0, 0⟩) (waiting n c) = true ∧ clean (.vmaxx [] 9 ⟨0, 0, 0, 5⟩) (waiting n c) = true) ∧
    (∀ n ∈ [1, 2], clean (.bar [] 9 ⟨0, 0, 0, 5⟩) (waiting n (some (.bar ⟨7, 0, 0, 5, 1⟩))) = true) ∧
    (waiting 1 none).boundary.core.vu.queue.length < 2 ∧ 2 ≤ (waiting 2 none).boundary.core.bars.length ∧
    (waiting 1 none).core.vu.queue ≠ [] ∧ (waiting 1 none).core.bars ≠ [] ∧
    val ((at9 0x00070000 core).boundary.readOp (ctxLong [] 9) 9) = some 0x00070000 ∧
    ((leased 0x100000000).sluice.msix.head?.map fun e => e.2.2.getLsbD 32) = some true ∧
    (tiled.formAge ⟨.bar, 1, 0, 0, 0, [], [], false, 0, 0, false, []⟩) < 1048576 := by decide +kernel
theorem test_bar : (nextOf (exec (.bar [] 9 ⟨0, 0, 0, 5⟩) (at9 0x00070000 core))).map (fun t => t.core.bars.length) = some 1 := by
  decide +kernel
theorem test_hint : (nextOf (exec (.hint [] 9 ⟨0, 0, 0, 0⟩) (at9 5 (leased 0)))).map (fun t => t.sluice.msi.length) = some 1 := by
  decide +kernel

/-- To core 0 of the same partition on channel 5, with one doubleword from M0; a length past eight; a set reserved bit. -/
def sendWord : Word := 5 * 2 ^ 46 + 2 ^ 39

theorem witness_MessagesAndLaunches :
    (∀ i ∈ [Instr.send [] 9 ⟨0, 0, 0, 0⟩, .bcast [] 9 ⟨0, 0, 0, 0⟩, .wrs [] 9 ⟨0, 0, 0, 0⟩, .psend [] 9 ⟨0, 0, 0, 0⟩],
      clean i (at9 sendWord tiled) = true) ∧
    bits sendWord 32 0 = 0 ∧ bits sendWord 33 0 = 0 ∧ bits sendWord 42 39 = 1 ∧ sendWord.getLsbD 33 = false ∧
    tiled.partOfTile (tileOf (bits sendWord 63 52)) = tiled.partOfTile (tileOf tiled.focus) ∧ tiled.paired 1 = false ∧
    tiled.core.msgUsed < 32 ∧ bits (9 * 2 ^ 39 : Word) 42 39 = 9 ∧ (1 * 2 ^ 43 : Word).extractLsb' 43 3 = 1 ∧
    56 ≤ (56 * 2 ^ 46 : Word).extractLsb' 46 6 ∧ tiled.partOfTile (tileOf 0xFFF) ≠ tiled.partOfTile (tileOf tiled.focus) ∧
    (2 ^ 53 + 5 * 2 ^ 46 + 2 ^ 39 : Word).getLsbD 52 = false ∧ bits (0x0003 * 2 ^ 49 : Word) 48 34 = 0 := by decide +kernel
theorem test_send : (nextOf (exec (.send [] 9 ⟨0, 0, 0, 0⟩) (at9 sendWord tiled))).map
    (fun t => (t.core.buf.length, t.wire.length, t.commit.wire.map (·.dst), t.commit.wire.map (·.payload))) = some (1, 0, [0], [[0]]) := by
  decide +kernel

/-- A launch of one core without completion message; its image has one persistent region of 64 bytes. -/
def lcRecord : List Word := [0x0002000000000000, 0x0001000000001000, 0x2000, 0, 0x0000100000000000, 0, 0x1000, 0]
def launching : State := placed lcRecord { tiled with mem := tiled.mem.writeLE 0x30200 8 64 }

theorem witness_MessagesAndLaunches_launch :
    clean (.launch [] 0x20 ⟨0, 0, 0, 0⟩) launching = true ∧ val (launching.recordAt [] 0x20) = some 0 ∧
    val (launching.recordDws 0) = some lcRecord ∧ val (launching.recordCheck lcRecord 0) = some () ∧
    (val (launching.readImage 0x2000 65)).map (fun r => imageBad lcRecord r.2) = some false ∧ launching.launches = [] ∧
    clean (.trig [] 0 ⟨0, 0, 0, 0⟩) core = true ∧ core.core.seat.isSome = true ∧ clean (.trig [] 0 ⟨0, 0, 0, 0⟩) service = true := by
  decide +kernel
/-! ### Translation and the privileged instructions -/

def translated (r : State × Except XFault Phys) : Option Nat := match r.2 with | .ok x => some x.pa | .error _ => none

/-- The placed tables: nothing cached, four valid entries in the pool; a root without V; an empty entry. -/
theorem witness_TranslationWalk :
    core.stage ≠ .b1 ∧ 0x1000 < 2 ^ 48 ∧ tlbFind (core.coreAt 0).itlb 128 0x1000 = none ∧ core.stlb = [] ∧ core.wcache = [] ∧
    (core.part (core.partOf 0)).ptroot = 0x11001 ∧ core.mem.read64 (0x11000 + 8 * (0x1000 / 2 ^ 39 % 512)) = 0x12001 ∧
    (0x12001 : Word) &&& ~~~0x000FFFFFFFFFF000#64 = 1 ∧ core.mem.read64 0x14008 = 0x00400000000103C3 ∧
    core.poisoned 0x14008 8 = false ∧ (0x00400000000103C3#64).getLsbD 54 = true ∧
    translated (core.translate 0 0x1004 .exec) = some 0x10004 ∧ State.reset.part 0 = Part.zero ∧ Part.zero.ptroot.getLsbD 0 = false ∧
    (core.mem.read64 (0x11000 + 8 * (0xFF8000000000 / 2 ^ 39 % 512))).getLsbD 0 = false := by decide +kernel

/-- The service core of tile 0 in partition 1 with the tables of the data page. -/
def svcPaged : State := { tiled with focus := svcOf 0 }
def found (r : State × Except XFault Leaf) : Option (Word × Nat × Nat) := match r.2 with | .ok x => some (x.leaf, x.va, x.size) | .error _ => none

theorem witness_TranslationInstructions :
    (∀ i ∈ [Instr.tlbi [] 9 ⟨0, 0, 0, 0⟩, .tlbi [] 0 ⟨0, 0, 0, 1⟩, .tlbi [] 9 ⟨0, 0, 0, 2⟩, .tlbsync [] 0 ⟨0, 0, 0, 0⟩,
      .probe [] 9 ⟨0, 0, 0, 1⟩, .probe [] 9 ⟨0, 0, 0, 7⟩], clean i (at9 0x2000 svcPaged) = true) ∧
    val (address (at9 0x2000 svcPaged) [] 9) = some 0x2000 ∧ (0 : Word).toNat < 2 ^ 20 ∧ 2 ^ 20 ≤ (0x100000 : Word).toNat ∧
    found ((at9 0x2000 svcPaged).findLeaf svcPaged.focus 1 0x2000 .data) = some (0x00400000000303C3, 0x2000, 4096) ∧
    permFault true .read 0x00400000000303C3 = none := by decide +kernel

/-- The core of the tile stores through the page of 0x2000; a host holds the line of its table exclusive. -/
def storing : State := { svcPaged with others := [(0, { core.core with
  act := some 1, buf := [.glob ⟨[0x3008, 0x2008], .phys 0x30000, .bytes 1 7 false, 0, 2, false⟩] })] }
def hostTable : State := { svcPaged with dir := [(0x14010 / 128, ⟨.di, 0, [], none, true, false, true⟩)] }
theorem witness_TranslationInstructions_waits :
    storing.partAgents 1 ≠ [] ∧ (storing.coreAt 0).act ≠ none ∧ clean (.tlbi [] 9 ⟨0, 0, 0, 0⟩) (at9 0x2000 storing) = true ∧
    clean (.probe [] 9 ⟨0, 0, 0, 1⟩) (at9 0x2000 hostTable) = true ∧
    (nextOf (exec (.probe [] 9 ⟨0, 0, 0, 1⟩) (at9 0x2000 hostTable))).map (fun t => (t.snoops.map (·.line), t.core.pc)) =
      some ([0x14010 / 128], svcPaged.core.pc) ∧
    (match (svcPaged.walkFill svcPaged.focus 1 0x9000 .data).2 with | .error f => some (f.cause, f.wait) | .ok _ => none) =
      some (0x08, none) ∧ permFault true .write 0x0040000000030343 = some (0x09, 0x02) := by decide +kernel
/-- A region that stored through a page named by TLBI is discarded, by whichever of its addresses (R374). -/
theorem test_tlbi_alias : (nextOf (exec (.tlbi [] 9 ⟨0, 0, 0, 0⟩) (at9 0x2000 storing))).map (fun t => (t.coreAt 0).buf.length) =
    some 0 := by decide +kernel
/-- PROBE answers the leaf with its frame's address, size code 0 and Z set (R376). -/
theorem test_probe : aFlags (.probe [] 9 ⟨0, 0, 0, 1⟩) (at9 0x2000 svcPaged) = some (0x00400000000303C3, 8) := by decide +kernel

def halted (v : Bool) : State :=
  { svcPaged with parts := [(1, { Part.zero with pmap := 0x8000000000000000, ptroot := 0x11001, halted := v })] }

theorem witness_PartitionInstructions :
    (∀ i ∈ [Instr.pstop [] 9 ⟨0, 0, 0, 5⟩, .pgo [] 9 ⟨0, 0, 0, 5⟩, .scrub [] 9 ⟨0, 0, 0, 5⟩, .cswap [] 9 ⟨0, 0, 0, 5⟩],
      clean i (at9 1 (halted true)) = true) ∧
    ((halted true).part 1).pmap.getLsbD 63 = true ∧ ((halted true).part 1).halted = true ∧ ((halted false).part 1).halted = false ∧
    ((halted true).part 1).action = none ∧ (5 : BitVec 6) ≠ 56 ∧ (halted true).focus = svcOf 0 ∧ (halted true).tooLarge 1 = false ∧
    128 ≤ (128 : Word).toNat ∧ svcOf 1 ≠ svcOf 0 ∧ (halted true).partOfTile (tileOf (svcOf 1)) ≠ some 1 ∧
    bits (0x0000000000000001 : Word) 47 16 = 0 := by decide +kernel
def actingOn (h : Bool) (a : Option Action) (sh : Option Ctx) : State := { svcPaged with
  parts := [(1, { Part.zero with pmap := 0x8000000000000000, ptroot := 0x11001, halted := h, action := a, shadow := sh })] }
theorem witness_PartitionInstructions_actions :
    (∀ a ∈ [none, some Action.pstop, some .pgo, some .scrub, some (.spill []), some (.fill [])], ∀ h ∈ [true, false],
      clean (.pstop [] 9 ⟨0, 0, 0, 5⟩) (at9 1 (actingOn h a none)) = true ∧ clean (.cswap [] 9 ⟨0, 0, 0, 5⟩) (at9 1 (actingOn h a none)) = true) ∧
    (∀ v ∈ ([1, 0x101, 0x201] : List Nat), (actingOn true none none).hostBlock ((actingOn true none none).cswapStops (BitVec.ofNat 64 v)) = none) ∧
    (actingOn true none none).tooLarge 1 = false ∧
    ({ actingOn true none none with clusters := [(0, { Cluster.zero with regions := [⟨0, 229440, false⟩] })] } : State).tooLarge 1 = true ∧
    (actingOn true none none).areaFrames 1 0 ((actingOn true none none).areaPages 1) = none ∧
    ((actingOn true none none).areaFrames 1 0x2000 0).isSome = true ∧ (actingOn true none none).partOfTile 0 = some 1 := by decide +kernel
/-- Another action of the partition is under way; the same one. -/
theorem test_pgo_during_scrub :
    (nextOf (exec (.pgo [] 9 ⟨0, 0, 0, 5⟩) (at9 1 (actingOn true (some .scrub) none)))).map (fun t => t.core.r.a) = some 2 ∧
    (nextOf (exec (.scrub [] 9 ⟨0, 0, 0, 5⟩) (at9 1 (actingOn true (some .scrub) none)))).map (fun t => t.core.r.a) = some 1 := by
  decide +kernel
theorem test_pgo_running : (nextOf (exec (.pgo [] 9 ⟨0, 0, 0, 5⟩) (at9 1 (halted false)))).map
    (fun t => (t.core.r.a, t.core.r.flg.extractLsb' 3 1)) = some (2, 0) := by decide +kernel
theorem test_pstop_halted : (nextOf (exec (.pstop [] 9 ⟨0, 0, 0, 5⟩) (at9 1 (halted true)))).map (fun t => t.core.r.a) = some 1 := by
  decide +kernel

/-! ### Events: selection, results, errors, replies -/

/-- The idle core, channel 5 enabled with a handler entry; with queued messages, a bare pend, a park slot's state. -/
def idleCore (q : List Msg) (bare : Bool) (st : ParkSt) : State :=
  { spad with core := { spad.core with
      act := none
      ctl := { spad.core.ctl with chen := 0x20 }
      chans := spad.core.chans.set 5 ⟨0x10, 3, false, 0, 3, 0, bare, q⟩
      parks := spad.core.parks.set 0 { spad.core.park 0 with st := st, chan := 5 } } }
def queuedMsg : Msg := ⟨0x0000000100000000, [7], 0, false, false⟩

/-- A queued message, a bare pend, a resumed park slot, a parked one that keeps the channel from running, nothing. -/
theorem witness_CoreEvents_selection :
    (idleCore [queuedMsg] false .free).core.eligible 5 = true ∧ (idleCore [] true .free).core.eligible 5 = true ∧
    (idleCore [] false .resumed).core.eligible 5 = true ∧ (idleCore [queuedMsg] false .parked).core.eligible 5 = false ∧
    (∀ e : BitVec 6, (idleCore [] false .free).core.eligible e = false) ∧
    (∀ e : BitVec 6, (idleCore [queuedMsg] true .free).core.eligible e = true → e = 5) ∧ spad.core.inter = none ∧
    (spad.part (spad.partOf spad.focus)).stopped = false ∧ spad.core.stopped = false ∧ spad.core.ordHeld = [] := by decide +kernel
theorem test_selection : (nextOf (exec .selection (idleCore [queuedMsg] false .free))).map
    (fun t => (t.core.act, t.core.r.slot 0, t.core.r.slot 8, t.core.pc, t.core.rr, (t.core.chan 5).queue.length)) =
    some (some 5, 7, 0x0000000100000000, 0x1010, 6, 0) := by decide +kernel

/-- A pair's core: partition 1 in redundant mode. -/
def pairedCore (once : Bool) : State := { tiled with
  parts := [(1, { Part.zero with pmap := 0x0020000000000000 })]
  core := { tiled.core with mismOnce := once } }

theorem witness_CoreEvents : (withLong [longA] core).core.long ≠ [] ∧ (core.coreAt 0).act = some 1 ∧ icountMax.core.act ≠ none ∧
    (core.coreAt 0).rerun = false ∧ isSvc 0 = false ∧ sideOne 0 = false ∧ (core.coreAt 0).ctl.mism ≠ 0xFFFF ∧
    (nextOf (exec (.uncorrectableError (.core 0 1 none)) core)).isSome = true ∧
    (nextOf (exec (.uncorrectableError (.memory 1536)) core)).isSome = true := by decide +kernel

def replied (m : Wire) (st : ParkSt) : State := { core with
  wire := [m], core := { core.core with parks := core.core.parks.set 0 { core.core.park 0 with st := st } } }
def replyWire (m0 : Word) : Wire := ⟨.msg, svcOf 0, 0, 56, 0, [m0], 0, none, 0, 0, .direct⟩
def faultWire : Wire := ⟨.fault, 0, svcOf 0, 59, 0, [0], 0, none, 1, 0, .direct⟩
def engineWire : Wire := ⟨.msg, svcOf 0, 0, 56, 0, [0x2000000000000000, 0], 0, none, 0, 0, .direct⟩

theorem witness_CoreEvents_replies :
    (∀ d ∈ [0, 1], (replied (replyWire (BitVec.ofNat 64 (d * 2 ^ 56))) .parked).wire[0]? = some (replyWire (BitVec.ofNat 64 (d * 2 ^ 56)))) ∧
    ((replied (replyWire 0) .parked).core.park 0).gen = 0 ∧ ((replied (replyWire 0) .free).core.park 0).st ≠ .parked ∧
    ((replied ⟨.ret 0, svcOf 0, 0, 56, 0, [0], 0, none, 0, 0, .direct⟩ .migrated).core.park 0).st = .migrated ∧
    (0x2000000000000000 : Word).extractLsb' 0 56 = 0 ∧ bits (0x2000000000000000 : Word) 63 60 = 2 ∧ core.core.mx.run = none ∧
    faultWire.tries ≠ 0 ∧ faultWire.next ≤ core.now ∧ core.accepts (svcOf 0) = true ∧ core.queueDepth (svcOf 0) 59 = 16 ∧
    freeFrame (core.coreAt (svcOf (tileOf 0))).ctl.migcfg (core.coreAt (svcOf (tileOf 0))).ctl.migbusy = none := by decide +kernel
theorem test_region_reply : (nextOf (exec (.regionReply 0) (replied (replyWire 0) .parked))).map
    (fun t => ((t.core.park 0).st, t.wire.length)) = some (.resumed, 0) := by decide +kernel

/-! ### Deliveries, launches -/

def msgWire (k : WKind) (tries : Nat) : Wire := ⟨k, 0, 0, 5, 0x00010000, [7], 0, some 0, tries, 0, .direct⟩
def arriving (k : WKind) (tries : Nat) : State := { spad with wire := [msgWire k tries], acks := [⟨0, some 4, 0, 5, none, none, 0, 0⟩] }

/-- A message with room, refused, refused for the 64th time, to a partition in reset; a deposit; a peer's message. -/
theorem witness_Deliveries :
    spad.accepts 0 = true ∧ (spad.core.chan 5).queue.length < spad.queueDepth 0 5 ∧ core.queueDepth 0 5 = 0 ∧
    (core.part (core.partOf 0)).reset = .none ∧ (msgWire .msg 0).tries < 63 ∧ 63 ≤ (msgWire .msg 63).tries ∧
    (spad.core.chan 5).ord = false ∧ ({ Part.zero with reset := .draining } : Part).reset ≠ .none ∧
    (arriving .msg 0).acks.find? (fun a => decide (a.sid = 0) && a.entry.isSome && a.via.isNone) = some ⟨0, some 4, 0, 5, none, none, 0, 0⟩ ∧ spad.queueDepth 0 59 = 4 ∧
    (arriving (.wrs 3) 0).wire[0]? = some (msgWire (.wrs 3) 0) ∧
    (arriving (.psend 1 2) 62).wire[0]? = some (msgWire (.psend 1 2) 62) := by decide +kernel
/-- An ordered channel of the launch's core: a message whose turn has come, one ahead of it, and one of class 4 whose offset is 3. -/
def ordered (seq : Word) (raw : Option (BitVec 6)) : State := { spad with
  core := { spad.core with chans := spad.core.chans.set 5 { spad.core.chan 5 with ord := true } }
  parts := [(0, { spad.part 0 with rcls := Vector.replicate 4 0x103 })]
  wire := [⟨.msg, 0, 0, 5, 0x0000004000010000 + seq, [7], 0, some 0, 0, 0, ⟨raw, none, false⟩⟩] }
theorem witness_Deliveries_ordered :
    (∀ w ∈ (ordered 0 none).wire, (ordered 0 none).bound w = true ∧ (ordered 0 none).unacked 0 w < 16 ∧ w.trip.ready = true ∧
      w.hdr.extractLsb' 0 16 = (ordered 0 none).core.turn 0 5) ∧ (ordered 0 none).core.ordHeld = [] ∧
    (∀ w ∈ (ordered 1 none).wire, w.hdr.extractLsb' 0 16 ≠ (ordered 1 none).core.turn 0 5) ∧
    (ordered 0 none).accepts 0 = true ∧ ((ordered 0 none).core.chan 5).queue.length < (ordered 0 none).queueDepth 0 5 := by decide +kernel
theorem test_ordered :
    (nextOf (exec (.messageArrival 0 false) (ordered 0 none))).map (fun t => ((t.core.chan 5).queue.length, t.core.turn 0 5)) =
      some (1, 1) ∧
    (nextOf (exec (.messageArrival 0 false) (ordered 1 none))).map (fun t => ((t.core.chan 5).queue.length, t.core.ordHeld.length)) =
      some (0, 1) := by decide +kernel
/-- Class 4 arrives on the channel that the offset of its partition gives then (R346). -/
theorem test_class_channel : (ordered 0 (some 54)).wire.map (fun w => ((ordered 0 (some 54)).fixChannel w).ch) = [1] := by decide +kernel
theorem test_arrival : (nextOf (exec (.messageArrival 0 false) (arriving .msg 0))).map
    (fun t => (t.wire.length, (t.core.chan 5).queue.map (·.payload), t.acks)) = some (0, [[7]], [⟨0, some 4, 0, 5, none, none, 0, 0⟩, ⟨0, some 0, 0, 5, none, none, 0x00010000, 0⟩]) := by decide +kernel
theorem test_deposit : (nextOf (exec (.wrsDeposit 0) (arriving (.wrs 3) 0))).map
    (fun t => (t.core.r.slot 27, t.core.r.pres)) = some (7, 0x08000000) := by decide +kernel

def oneLaunch (run : Bool) (sw : Option (Nat × Nat × Nat)) : Launch :=
  ⟨0, 0, 1, 2, lcRecord, List.replicate 65 64, [⟨0, 64, false⟩], 0, run, [], 0, false, false, sw, 0xD328⟩
/-- Zone 0 is assigned and shared, with 30 units of flow (R349). -/
def withLaunch (l : Launch) : State := { tiled with
  launches := [l], zones := [(0, { Zone.zero with cat := 0x000C00F000000000 })] }

theorem witness_Launches :
    (withLaunch (oneLaunch false none)).launchNo 0 = some (oneLaunch false none) ∧
    (withLaunch (oneLaunch false none)).canStart (oneLaunch false none) = true ∧
    (withLaunch (oneLaunch false none)).hostBlock ((withLaunch (oneLaunch false none)).startStops (oneLaunch false none)) = none ∧
    (withLaunch (oneLaunch true none)).initialCount (oneLaunch true none) = 1 ∧ (oneLaunch true none).placed = 0 ∧
    lcNinit lcRecord = 0 ∧ ({ oneLaunch true none with placed := 1 } : Launch).placed = 1 ∧ tiled.maxDamp 1 < 12 ∧
    tiled.partOfTile 0 = some 1 ∧ (tiled.part 1).pmap.getLsbD 63 = false ∧ ((halted true).part 1).pmap.getLsbD 63 = true ∧
    (leased 0).leasePort 1 = some 0 := by decide +kernel
theorem test_launch_start : (nextOf (exec (.launchStart 0) (withLaunch (oneLaunch false none)))).map
    (fun t => ((t.cluster 0).owner, (t.coreAt 0).seat.map (·.lid), (t.coreAt 0).seat.map (·.code))) =
    some (some (1, 2), some 2, some 0x1000) := by decide +kernel
theorem test_launch_placement : (nextOf (exec (.initialMessagePlacement 0) (withLaunch (oneLaunch true none)))).map
    (fun t => (t.wire.map (·.dst), t.wire.map (·.ch), t.wire.map (·.payload))) = some ([0], [0], [[]]) := by decide +kernel

/-! ### The matrix engine -/

def mxCmdOf (ws : List Word) (st : Bool) : MxCmd := ⟨st, ws, List.replicate 8 0, List.replicate 8 0, 0, 0, 0, 0xD028⟩
def withMx (q : List MxEntry) (r : Option MxRun) : State :=
  { tiled with core := { tiled.core with mx := { tiled.core.mx with queue := q, run := r } } }
def running (done : Nat) (ended : Option (BitVec 8)) : MxRun := ⟨mxCmdOf mxRecord false, done, 0, false, false, false, ended⟩

theorem witness_MatrixWork :
    (withMx [.cmd (mxCmdOf mxRecord false)] none).engRuns 0 = true ∧ (mxCmdOf mxRecord false).gang = false ∧
    (mxCmdOf mxRecord false).total = 1 ∧ (mxCmdOf mxRecord false).cls.isSome = true ∧
    (withMx [] (some (running 0 none))).mxSlotReady 0 (mxCmdOf mxRecord false) false 0 = true ∧
    (match ((withMx [] (some (running 0 none))).mxPanel 0 (mxCmdOf mxRecord false) false 0 0 0).2 with | .ok p => some p.elems | .error _ => none) = some [0] ∧
    (mxCmdOf [0x10000000, 0x100020001, 0, 0, 0, 0, 0, 0] false).gang = true ∧ tiled.gangOf 0 0 0 ≠ [] ∧
    Mx.zero.acc.wf = true := by decide +kernel
/-- Sources in global memory at an address that nothing maps; rows to store; writes of the queue. -/
def farRun (abort : Bool) : MxRun := ⟨mxCmdOf [0, 0x0000000100010001, 0x2000, 0x2000, 0, 0, 0, 0] false, 0, 0, false, false, abort, none⟩
theorem witness_MatrixWork_pause :
    (∀ ab ∈ [true, false], (match ((withMx [] (some (farRun ab))).mxPanel 0 (farRun ab).cmd false 0 0 0).2 with
      | .error (.pause x _ _) => some x.cause | _ => none) = some 0x08 ∧
      (((withMx [] (some (farRun ab))).mxPanel 0 (farRun ab).cmd false 0 0 0).1.coreAt 0).mx.run = some (farRun ab)) ∧
    (farRun true).cmd.cls.isSome = true ∧ (withMx [] (some (farRun true))).mxSlotReady 0 (farRun true).cmd true (farRun true).cmd.skipB = true ∧
    (nextOf (exec (.mxwrPerform 0) (withMx [.wr 0 0 0 false 5] none))).isSome = true ∧
    (nextOf (exec (.mxmskPerform 0) (withMx [.msk 0 1 1] none))).isSome = true ∧
    (nextOf (exec (.mxstPerform 0) (withMx [] (some ⟨mxCmdOf mxstRecord true, 0, 0, false, false, false, none⟩)))).isSome = true ∧
    (withMx [.cmd (mxCmdOf [0x10000000, 0x100020001, 0, 0, 0, 0, 0, 0] false)] none).gangOf 0 0 0 = [0] := by decide +kernel
/-- A translation fault suspends the command with a message that names the MXGO (R395, R463 step 4), and ends it where an abort
waits (R137, R146). -/
theorem test_kstep_pause :
    (nextOf (exec (.kStep 0) (withMx [] (some (farRun false))))).map (fun t => (t.core.mx.run.map (·.susp), t.wire.map fun w =>
      dw w.payload 0 &&& 0xFF00FFFFFFFFFFFF)) = some (some true, [0x0800D02880000000]) ∧
    (nextOf (exec (.kStep 0) (withMx [] (some (farRun true))))).map (fun t => (t.core.mx.run.map (·.ended), t.wire.length)) =
      some (some (some 0x01), 0) := by decide +kernel
theorem test_mxgo_start : (nextOf (exec (.mxgoStart 0) (withMx [.cmd (mxCmdOf mxRecord false)] none))).map
    (fun t => (t.core.mx.queue.length, t.core.mx.run.map (·.done))) = some (0, some 0) := by decide +kernel
theorem test_mx_completion : (nextOf (exec (.mxCompletion 0) (withMx [] (some (running 1 none))))).map
    (fun t => (t.core.mx.run.isNone, t.wire.map (·.ch), t.wire.map (·.payload))) = some (true, [57], [[1, 0]]) := by decide +kernel
theorem test_mxcfg_perform : (nextOf (exec (.mxcfgPerform 0) (withMx [.cfg 2] none))).map (fun t => t.core.mx.cfg) = some 2 := by
  decide +kernel

/-! ### Gangs, streams, bulk copies at work -/

def formOfOne (k : FormKind) : Form := ⟨k, 1, 0, 0, 0, [0], [], false, 0, 0, false, []⟩
def withVu (q : List VuCmd) (f : List Form) : State :=
  { tiled with forms := f, core := { tiled.core with vu := { tiled.core.vu with queue := q, started := some [5] } } }
def withBar (f : List Form) : State :=
  { tiled with forms := f, core := { tiled.core with bars := [⟨7, 0, 0, 5, 1⟩] } }

theorem witness_EngineWork :
    (withVu [.gred gredRecord 1] [formOfOne .gred]).formOf .gred 0 = some (formOfOne .gred) ∧
    (withVu [.gred gredRecord 1] [formOfOne .gred]).formFull (formOfOne .gred) = true ∧
    (withVu [.gred gredRecord 1] [formOfOne .gred]).engRuns 0 = true ∧
    (formOfOne .gred).broken = false ∧
    gredResult gredRecord [[5]] = some (5, 0) ∧ [0].Nodup ∧
    (withVu [.gred gredRecord 1] [formOfOne .gred]).gangOf 0 0 0 = [0] ∧
    (withVu [.vmaxx 7 0 1 0x3F800000 5 1] [formOfOne .vmaxx]).formFull (formOfOne .vmaxx) = true ∧
    (withBar [formOfOne .bar]).formFull (formOfOne .bar) = true := by decide +kernel
/-- Of each kind: a formation whose records disagree, and one that has lasted too long. -/
def brokenForm (k : FormKind) : Form := { formOfOne k with broken := true }
def lateForm (k : FormKind) : Form := { formOfOne k with gwl := 1, spent := 1048576 }
def gangRun (ended : Option (BitVec 8)) : MxRun := ⟨mxCmdOf [0x10000000, 0x100020001, 0, 0, 0, 0, 0, 0] false, 0, 0, false, false, true, ended⟩
theorem witness_EngineWork_ends :
    (∀ e ∈ [(Instr.gredCompletion 0, withVu [.gred gredRecord 1] [brokenForm .gred]), (.gredTimeout 0, withVu [.gred gredRecord 1] [lateForm .gred]),
      (.vmaxxCompletion 0, withVu [.vmaxx 7 0 1 5 5 1] [brokenForm .vmaxx]), (.vmaxxTimeout 0, withVu [.vmaxx 7 0 1 5 5 1] [lateForm .vmaxx]),
      (.vmaxxCompletion 0, withVu [.vmaxx 7 0 1 5 5 1] [formOfOne .vmaxx]),
      (.barrierCompletion 0, withBar [brokenForm .bar]), (.barrierTimeout 0, withBar [lateForm .bar])], enabled e.1 e.2 = true) ∧
    (∀ e ∈ [(Instr.gangFormation 0, formOfOne .mx), (.gangFormation 0, brokenForm .mx), (.gangTimeout 0, lateForm .mx)],
      enabled e.1 { withMx [] (some (gangRun none)) with forms := [e.2] } = true) ∧
    (withBar [lateForm .bar]).formLate (lateForm .bar) = true ∧ (withBar [lateForm .bar]).formFull (lateForm .bar) = false ∧
    ({ withMx [] (some (gangRun none)) with forms := [formOfOne .mx] } : State).formOf .mx 0 = some (formOfOne .mx) := by decide +kernel
/-- A reduction whose records disagree ends with status 0x21 (R134). -/
theorem test_gred_broken : (nextOf (exec (.gredCompletion 0) (withVu [.gred gredRecord 1] [brokenForm .gred]))).map
    (fun t => t.wire.map (·.payload)) = some [[0x210000000000]] := by decide +kernel
theorem test_bar_completion : (nextOf (exec (.barrierCompletion 0) (withBar [formOfOne .bar]))).map
    (fun t => (t.core.bars.length, t.wire.map (·.ch), t.wire.map (·.payload))) = some (0, [5], [[0x0007000000000000]]) := by decide +kernel
theorem test_gred_completion : (nextOf (exec (.gredCompletion 0) (withVu [.gred gredRecord 1] [formOfOne .gred]))).map
    (fun t => (t.core.vu.queue.length, t.wire.map (·.ch), t.wire.map (·.payload))) = some (0, [57], [[0]]) := by decide +kernel

/-- Eight elements of 8 bytes at virtual 0x2000 through buffer 0 of slots of 64 bytes. -/
def sgoCmd : SgoCmd := ⟨[0, 64, 0, 0, 0, 0, 0, 0], [0x2000, 0x0000000100000008, 0x0000000100000001, 8, 0, 0, 3, 0], 1, 0, 0xC8A8⟩
def streaming (dir : Bool) (q : List SeCmd) (cur : Option SgoCmd) : State := { tiled with
  core := { tiled.core with se := { tiled.core.se with
    bufs := tiled.core.se.bufs.set 0 ⟨true, dir, true, 5, 0, 0, 2, 2, 4, 64, 0x400, 1⟩, queue := q, cur := cur } } }

def fresh : State := { tiled with core := { tiled.core with vu := { tiled.core.vu with queue := [.gred gredRecord 1], started := none } } }
/-- Poison in a slot that is drained ends the command with status 0x11, in a contribution the reduction with 0x10 (R413). -/
theorem test_poisoned_work :
    (nextOf (exec (.streamSlot 0) { streaming true [] (some sgoCmd) with badStore := [0x400] })).map
      (fun t => (t.core.se.cur.isNone, t.wire.map (·.payload))) = some (true, [[0x110000000000]]) ∧
    (nextOf (exec (.gredStart 0) { fresh with badStore := [0x40] })).map
      (fun t => (t.core.vu.queue.length, t.wire.map (·.payload))) = some (0, [[0x100000000000]]) ∧
    (streaming true [] (some sgoCmd)).storeBad 0x400 64 = false := by decide +kernel

theorem witness_EngineWork_streams :
    (streaming false [.sbuf 0 sbufDesc 1] none).engRuns 0 = true ∧ sbufDesc.getLsbD 56 = true ∧
    (streaming false [] (some sgoCmd)).core.se.susp = false ∧ bits (dw sgoCmd.record 0) 34 32 = 0 ∧ shapeCount sgoCmd.shape = 8 ∧
    shapeEsz sgoCmd.shape = 8 ∧ ((streaming false [] (some sgoCmd)).core.se.bufs[0]).free = 2 ∧
    (match ((streaming false [] (some sgoCmd)).streamRead 0 sgoCmd.shape 0 8).2 with | .ok v => v | .error _ => 1) = 0 := by decide +kernel
theorem test_stream_slot : (nextOf (exec (.streamSlot 0) (streaming false [] (some sgoCmd)))).map
    (fun t => ((t.core.se.bufs[0]).filled, t.core.se.cur.isNone, t.wire.map (·.payload))) = some (3, true, [[1]]) := by decide +kernel

theorem witness_EngineWork_copies :
    (copied true none).bulkAt 0 1 1 = some ⟨0, 1, 1, 0, 0, cpRecord, true, false, [], 16, none, 0xC8E0, false, []⟩ ∧
    ((copied true none).part 1).stopped = false ∧ pieceStart cpRecord 0 0 = true ∧ cpZf cpRecord = false ∧
    (copied false none).bulks.length = 1 := by decide +kernel
theorem test_bulk_take : (nextOf (exec (.bulkCopyTake 0) (copied false none))).map (fun t => t.bulks.map (·.taken)) = some [true] := by
  decide +kernel

/-! ### Coherence, hosts -/

/-- The second cluster holds the line, with its tag and directory record. -/
def shared (st : Option Moesi) (ds : DirSt) : State :=
  { tiled with
    tiles := []
    clusters := [(1, { Cluster.zero with l1 := match st with | some x => [(1536, x)] | none => [] })]
    l2 := { tiled.l2 with tags := [⟨homeOfLine 1536, 1536, 1, 0, none, false, false, false⟩] }
    dir := [(1536, ⟨ds, 1, [1], none, false, false, false⟩)] }

/-- The tile of two lines under another partition's name. -/
def othersTile : State := { tiled with tiles := [⟨2, 1536, 0, [1536, 1537], DirRec.zero⟩], l2 := (shared none .di).l2 }
/-- Partition 1 with room for 16 tags and as many entries in a slice. -/
def roomy : State := { tiled with parts := [(1, { Part.zero with ptroot := 0x11001, quota := 0x1000000010 })] }

theorem witness_CoherenceEvents :
    (shared (some .m) .dx).canCache 0 = true ∧ (shared (some .m) .dx).hostBlock ((shared (some .m) .dx).writeStops 1536) = none ∧
    (shared (some .m) .dx).l1At 0 1536 = none ∧ (shared (some .m) .dx).l1At 1 1536 = some .m ∧
    ((shared (some .m) .dx).tagOf 1536).isSome = true ∧ (shared (some .m) .dx).foreign 0 1536 = false ∧
    (shared (some .m) .dx).tileAt 1536 = none ∧ (shared none .di).hostHas 1536 = false ∧ (shared none .di).mates 0 1536 = [] ∧
    ((shared none .di).dirRec 1536).st = .di ∧ (shared (some .s) .ds).l1At 1 1536 = some .s ∧ (shared (some .s) .ds).hostBlock
      ((shared (some .s) .ds).writeStops 1536) = none ∧ othersTile.foreign 0 1536 = true ∧ othersTile.hostBlock [(1536, true)] = none ∧
    (tiled.tileAt 1536).isSome = true ∧ tiled.partOfTile (tileOfCluster 0) = some 1 ∧ roomy.tagOf 1600 = none ∧
    (roomy.makeRoom (homeOfLine 1600) 1 1600).isSome = true ∧ roomy.homeLine 1600 = 0 ∧ (tiled.cluster 0).owner = none ∧
    tiled.hostBlock ((interfaceCaches 0).flatMap tiled.cacheStops) = none ∧
    (∀ i ∈ [Instr.readShared 0 1536, .readForOwnership 0 1536, .writeBack 1 1536, .probeAnswer 1 1536 true, .homeAtomic 1536,
      .remoteWindowAccess 0, .l2Fill 1536 1 true, .powerGate 0], enabled i (shared (some .m) .dx) = true) ∧
    (∀ i ∈ [Instr.tileGranuleRequest 0 1536 true, .tileGranuleRequest 0 1536 false, .lineGranuleWrite 1536, .l2Fill 1600 1 true],
      enabled i tiled = true) ∧ enabled (.upgrade 1 1536) (shared (some .s) .ds) = true ∧
    enabled (.cleanEvictionNotice 1 1536) (shared (some .s) .ds) = true := by decide +kernel
theorem test_read_shared : (nextOf (exec (.readShared 0 1536) (shared (some .m) .dx))).map
    (fun t => (t.l1At 0 1536, t.l1At 1 1536)) = some (some .s, some .o) := by decide +kernel
theorem test_read_for_ownership : (nextOf (exec (.readForOwnership 0 1536) (shared (some .m) .dx))).map
    (fun t => (t.l1At 0 1536, t.l1At 1 1536)) = some (some .m, none) := by decide +kernel

/-- Both host links up with CXL.cache, a Back-Invalidate of a line waiting for port 0; the directory's bits for line 1536; a host
line whose answer does not come. -/
def hosted (who : Asker) (h0 h1 hx : Bool) : State := { shared none .di with
  ports := Vector.replicate 2 2
  sluice := { tiled.sluice with up := Vector.replicate 2 true }
  snoops := [⟨1600, [0], [0], true, who⟩]
  dir := [(1536, ⟨.di, 0, [], none, h0, h1, hx⟩), (1600, ⟨.di, 0, [], none, true, false, false⟩)]
  l2 := { tiled.l2 with tags := [⟨homeOfLine 1536, 1536, 1, 0, none, false, false, false⟩,
    ⟨homeOfLine 1600, 1600, 1, 0, none, false, false, false⟩] }
  expanders := [(0, 0x40000000)] }
def calm : State := hosted .other false false false
/-- The same, with a command of an engine that asked. -/
def asking (who : Asker) : State := { hosted who false false false with
  bulks := (copied true none).bulks
  core := { tiled.core with mx := { tiled.core.mx with run := some (running 0 none) }, se := { tiled.core.se with cur := some sgoCmd } } }
/-- A region that would publish to the line of the Back-Invalidate. -/
def publishing : State := { asking (.core 0) with
  core := { (asking (.core 0)).core with buf := [.glob ⟨[0x2000], .phys (1600 * 128), .bytes 1 7 false, 0, 2, false⟩] } }

theorem witness_CoherenceEvents_hosts :
    calm.stage = .b3 ∧ calm.sluice.up.toList.getD 0 false = true ∧ calm.ports.toList.getD 0 0 = 2 ∧ hbmLine 1536 = true ∧ calm.hostPath 1536 = true ∧
    calm.snooped 1536 = false ∧ lineOf 0x30040 = 1536 ∧ (calm.snoopOf 0 1600).isSome = true ∧ calm.otherMust 0 1536 true = false ∧
    calm.hostBlock (calm.otherStops 1536) = none ∧ (hosted .other false true false).otherMust 0 1536 true = true ∧
    (hosted .other false true false).otherMust 0 1536 false = false ∧ (hosted .other false true true).otherMust 0 1536 false = true ∧
    (calm.tagOf 1536).isSome = true ∧ (calm.tagOf 1600).isSome = true ∧ (calm.dirRec 1600).hostBit 1 = false ∧
    calm.hostBlock (calm.otherStops 1600) = none ∧ hostLine 0 (0x8000000000000 / 128) = true ∧
    inHost (0x8000000000000 / 128 * 128) 128 = true ∧ calm.hostBlock (calm.writeStops 1536) = none ∧
    calm.inExpander (0x1000000000000 / 128 * 128) 128 = true ∧
    (∀ i ∈ [Instr.cxlMemRead 0 1536 true, .cxlMemRead 0 1536 false, .cxlMemWrite 0 0x30040 [1, 2], .cxlMemWrite 0 (1600 * 128) [1],
      .birsp 0 1600, .biconflict 0 1600 true, .biconflict 0 1600 false, .snpinv 0 (0x8000000000000 / 128),
      .snpdata 0 (0x8000000000000 / 128), .snpcur 0 (0x8000000000000 / 128), .hostTimeout 1 1600, .hostTimeout 0 1600,
      .hostPostedWrite 0 0x30040 [1], .peerAccess 0x30040 true [1], .peerAccess 0x30040 false [1],
      .expanderBisnp (0x1000000000000 / 128)], enabled i calm = true) := by decide +kernel

/-- LDG of slot 9 at the program counter, on the device page of `device`. -/
def fetching : State :=
  let s := State.reset.withFetchWord 32 0x0000C009
  at9 0x2000 { s with mem := s.mem.writeLE 0x14010 8 0x0448000000000BC3 }

theorem witness_CoherenceEvents_timeouts :
    (asking (.matrix 0)).mxRun 0 = some (running 0 none) ∧ (asking (.matrix 0)).formOf .mx 0 = none ∧
    (asking (.stream 0)).core.se.cur = some sgoCmd ∧ ((asking (.bulk 0 1 1)).bulkAt 0 1 1).isSome = true ∧
    ((({ publishing with snoops := [] } : State).focusOn 0).waiters 1600).length = 1 ∧
    ((({ (asking (.core 0)) with snoops := [] } : State).focusOn 0).waiters 1600) = [] ∧ (asking (.core 0)).core.act ≠ none ∧
    ((fetching.focusOn 0).hostAccess (0x8000000000000 / 128)).isSome = true ∧ (fetching.focusOn 0).commitBlock = none ∧
    enabled (.hostTimeout 0 (0x8000000000000 / 128)) fetching = true ∧
    (∀ who ∈ [Asker.core 0, .matrix 0, .stream 0, .bulk 0 1 1], enabled (.hostTimeout 0 1600) (asking who) = true) ∧
    enabled (.hostTimeout 0 1600) publishing = true ∧
    enabled (.hostTimeout 8192 (0x8000000000000 / 128)) (asking .other) = true ∧ inHost (0x8000000000000 / 128 * 128) 128 = true ∧
    (asking .other).snoops.find? (fun y => decide (y.line = 0x8000000000000 / 128)) = none := by decide +kernel
theorem test_cxl_write : (nextOf (exec (.cxlMemWrite 0 0x30041 [1, 2]) calm)).map (fun t => (t.mem.read 0x30041, t.mem.read 0x30042)) =
    some (1, 2) := by decide +kernel

/-! ### Network -/

/-- A probe of one flit from router (0, 0) of die 0 to router (1, 0). -/
def onePkt : Pkt := ⟨3, .probe 5, 2, 1, 1, 0, 0, 1, 0, 1, 0, 3, 1, 0, 0, 0, .mesh, false, 1, 0, false⟩
def netted (pkts : List Pkt) (flits : List Flit) (now : Nat) : State :=
  { tiled with net := { Net.zero with pkts := pkts, flits := flits, next := 4, reqs := [(5, 1, 0)] }, now := now }
def flitAt (x due : Nat) : Flit := ⟨3, 0, x, 0, due, 0⟩
def idleNet : State := netted [] [] 0
def asked (p : Pkt) (now : Nat) : State :=
  { netted [p] [] now with net := { (netted [p] [] now).net with asks := [⟨3, none, false⟩], asms := [⟨1, 2, 3, [], 0, false⟩] } }

/-- To a tile of its own, to a gate, on from a service block or a dike die, to another partition's tile, and in at the gate. -/
theorem witness_NetworkEvents_admissions :
    epOk 0 = true ∧ epOk 1 = true ∧ epFar 2048 = true ∧ idleNet.net.pkt idleNet.net.next = none ∧ idleNet.partOfTile (epTile 0) = some 1 ∧
    idleNet.trafficOk (.probe 5) 0 1 = true ∧ idleNet.lenOk (.probe 5) 1 = true ∧ idleNet.clsOk (.probe 5) 1 0 = true ∧
    idleNet.chargeOk (.probe 5) 0 1 1 = true ∧ idleNet.chargeOk (.probe 5) 2048 0 1 = true ∧ idleNet.net.inFlight 1 2 + 1 ≤ 2 * idleNet.netW 1 * idleNet.netH 1 + 1 ∧
    (idleNet.part 1).stopped = false ∧ idleNet.dieRuns 0 = true ∧ idleNet.net.gatePlaces 0 2 = 0 ∧ gateOf 0 = 256 ∧ gateOf 256 = 256 ∧
    gateOf 4 ≠ 4 ∧ idleNet.partOfTile (epTile 4) = none ∧ idleNet.net.ways 0 4 ≠ [] ∧ idleNet.net.ways 4 0 ≠ [] ∧
    idleNet.net.ways 0 3 ≠ [] ∧ 0 % 16 < 16 - (idleNet.cluster (epCluster 0)).damp.toNat ∧
    (∀ i ∈ [Instr.packetAdmission 0 1 (.probe 5) 0 1 1, .packetAdmission 0 2048 (.probe 5) 0 1 1, .packetAdmission 256 2048 (.probe 5) 0 1 1,
      .packetAdmission 2048 0 (.probe 5) 0 1 1, .packetAdmission 256 4 (.probe 5) 0 1 1], enabled i idleNet = true) ∧
    enabled (.packetAdmission 256 1 (.forward 3) 0 1 1) (netted [{ onePkt with leg := .gate, src := 2048, ent := 256, hop := 256 }] [] 0) =
      true := by decide +kernel
/-- The data of a line is five flits (R322). -/
theorem test_line_flits : enabled (.packetAdmission 0 1 (.data 5) 0 4 1) idleNet = false := by decide +kernel

/-- A late packet with a traffic, abandoned at its fifth resend. -/
def lateFor (what : Traffic) (s : State) : State :=
  { s with now := 100000000, net := { Net.zero with pkts := [{ onePkt with load := what, len := 2, resends := 4 }], next := 4 } }
/-- A message whose packet is on its way. -/
def wired : State := { spad with wire := [{ msgWire .msg 0 with trip := ⟨none, some 3, false⟩ }] }

theorem witness_NetworkEvents_times :
    (netted [onePkt] [] 64).net.pkt 3 = some onePkt ∧ onePkt.entered < onePkt.len ∧ 0 + 256 ≤ 256 ∧ (asked onePkt 5).net.asks = [⟨3, none, false⟩] ∧
    ((asked onePkt 5).net.asmOf 3).isSome = true ∧ ({ onePkt with len := 2 } : Pkt).retained = true ∧
    (fetching.focusOn 0).lineAccess (0x8000000000000 / 128) ≠ none ∧
    ((State.reset.withFetchWord 32 0x0000C909).focusOn 0).asksStatus = true ∧
    ((asking (.matrix 0)).engineFail 0 1 0x13).isSome = true ∧
    (∀ i ∈ [Instr.starvationMark 3, .resendRequest 3, .partialPacketTimeout 1 3], enabled i (asked onePkt 100000000) = true) ∧
    enabled .damperWindow { netted [] [] 256 with clusters := [(0, { Cluster.zero with damp := 1 })] } = true ∧
    (∀ q ∈ [Leg.mesh, .gate, .port, .link], enabled (.ackTimeout 3) (netted [{ onePkt with len := 2, leg := q }] [] 100000000) = true) ∧
    (∀ w ∈ [Traffic.read 0 (0x8000000000000 / 128), .write 0 5, .data 5], enabled (.ackTimeout 3) (lateFor w fetching) = true) ∧
    enabled (.ackTimeout 3) (lateFor (.message 0) wired) = true ∧ enabled (.ackTimeout 3) (lateFor (.status 0) (State.reset.withFetchWord 32 0x0000C909)) = true ∧
    enabled (.ackTimeout 3) (lateFor (.read 8192 5) (asking (.matrix 0))) = true := by decide +kernel
/-- A read that is lost for good faults with LINK (R339). -/
theorem test_read_lost : (nextOf (exec (.ackTimeout 3) (lateFor (.read 0 (0x8000000000000 / 128)) fetching))).map
    (fun t => (t.core.act, t.core.ctl.fcode.extractLsb' 16 16)) = some (none, 0x1300) := by decide +kernel

/-- A one-flit packet at its destination; a passing flit; a waiting packet. -/
theorem witness_NetworkEvents_routers :
    idleNet.routerPart 0 1 0 = some 1 ∧ idleNet.routerPart 0 0 0 = some 1 ∧
    ((netted [{ onePkt with entered := 1 }] [flitAt 1 0] 0).net.hops 2).length = 1 ∧
    (netted [{ onePkt with entered := 1 }] [flitAt 1 0] 0).candidate 0 1 0 2 = none ∧
    (netted [onePkt] [] 0).candidate 0 0 0 2 = some onePkt ∧ idleNet.ranNow = [] ∧
    (∀ k, k < 4 → (portTo 0 0 k = some (1, 0) ↔ k = 1)) ∧ 1 ∈ idleNet.allowed 0 0 0 1 ∧
    1 ∈ productive (idleNet.policy 1 0) 0 0 (epX 1) (epY 1) ∧ 0 ∈ idleNet.allowed 0 3 0 1 ∧
    (∀ j ∈ productive (idleNet.policy 1 0) 3 0 4 0, j ∉ idleNet.allowed 0 3 0 1) ∧
    enabled (.flitArrival 0 2 3 0 [0]) (netted [{ onePkt with dst := 4, hop := 4, entered := 1 }] [flitAt 3 0] 0) = true ∧
    enabled (.flitArrival 0 2 0 0 []) idleNet = true ∧
    enabled (.flitArrival 0 2 0 0 [1]) (netted [{ onePkt with entered := 1 }] [flitAt 0 0] 0) = true ∧
    enabled (.flitArrival 0 2 0 0 [1]) (netted [onePkt] [] 0) = true := by decide +kernel
/-- A flit at its destination is delivered (R325). -/
theorem test_flit_delivered : (nextOf (exec (.flitArrival 0 2 1 0 []) (netted [{ onePkt with entered := 1 }] [flitAt 1 0] 0))).map
    (fun t => (t.net.pkts.length, t.net.flits.length)) = some (0, 0) := by decide +kernel
theorem test_flit_passes : (nextOf (exec (.flitArrival 0 2 0 0 [1]) (netted [{ onePkt with entered := 1 }] [flitAt 0 0] 0))).map
    (fun t => t.net.flits) = some [flitAt 1 1] := by decide +kernel

/-- A packet that crosses the link of table `t`, with its window; slot 0 of the table is partition 1's. -/
def linked (t dst : Nat) (w : List (BitVec 12 × List Nat)) (ahead : List (BitVec 12)) (fails : Nat) (leg : Leg) : State :=
  { tiled with net := { Net.zero with
      links := [(t, { Link.zero with window := w, ahead := ahead, fails := fails, flight := w.map (·.1) })]
      slots := [(t * 128, 0x81)], gates := [(t, 1, 3)], pkts := [{ onePkt with dst := dst, hop := 256, leg := leg }], next := 4 } }
def crossing (t dst : Nat) : State := linked t dst [(0, [3])] [] 0 .link

/-- Flit 0 of table `t` was lost on the way; flit 1 waits at the receiver. -/
def lostFlit (t : Nat) : State :=
  let s := linked t 2048 [(0, [3]), (1, [])] [1] 0 .link
  { s with net := { s.net with links := [(t, { s.net.link t with flight := [] })] } }

theorem witness_NetworkEvents_links :
    ((crossing 0 2048).net.link 0).had 0 = false ∧ tableTo 0 = 4 ∧ epDie 2048 = 4 ∧ tableTo 32 = 16 ∧ epDie 2060 = 16 ∧ tableTo 24 = 1 ∧
    epDie 512 = 1 ∧ gateOf 512 ≠ 512 ∧ (crossing 24 2057).net.ways 1 (epDie 2057) ≠ [] ∧ epDie 2057 ≠ 1 ∧
    (crossing 0 2048).net.slot 0 0 = 0x81 ∧ (crossing 0 2048).net.waiting 0 1 = some 3 ∧
    (∀ x ∈ [(0, 2048), (32, 2060), (24, 512), (24, 2057)], enabled (.ucieFlitArrival x.1 0) (crossing x.1 x.2) = true) ∧
    (∀ f ∈ [0, 2], enabled (.retrain 0 false) (linked 0 2048 [(0, [3])] [] f .link) = true) ∧
    enabled (.retrain 0 true) (crossing 0 2048) = true ∧
    enabled (.sequenceGap 0 0) (lostFlit 0) = true ∧
    enabled (.timeSlot 0 0) (linked 0 2048 [] [] 0 .port) = true ∧ enabled (.timeSlot 36 0) (linked 36 2048 [] [] 0 .port) = true := by
  decide +kernel
theorem test_time_slot : (nextOf (exec (.timeSlot 0 0) (linked 0 2048 [] [] 0 .port))).map (fun t => (t.net.link 0).window.map (·.2)) =
    some [[3]] := by decide +kernel
/-- The third failure takes the link down in both directions (R343). -/
theorem test_link_down : (nextOf (exec (.retrain 0 false) (linked 0 2048 [(0, [3])] [] 2 .link))).map
    (fun t => ((t.net.link 0).down, (t.net.link 1).down)) = some (true, true) := by decide +kernel
/-! ### The management space, coolant, resets, bring-up -/

/-- Both host links up, MSEM held by port 1, partition 1 in the map with a lease of port 0. -/
def managed (busy : Bool) (rem : Nat) : State := { tiled with
  parts := [(1, { Part.zero with pmap := 0x8010000000000000, lease := BitVec.ofNat 64 (2 ^ 62 + 2 * 2 ^ 60 + 5 * 2 ^ 50 + rem * 2 ^ 40) })]
  sluice := { tiled.sluice with up := Vector.replicate 2 true, busy := busy, holder := 1, expiring := [1] }
  zones := [(0, { Zone.zero with fnc := true, st := 3 })] }

theorem witness_ManagementEvents :
    (managed true 1).stage = .b3 ∧ (managed true 1).sluice.up.toList.getD 1 false = true ∧ (managed true 1).sluice.busy = true ∧
    (managed true 1).sluice.holder.toNat = 1 ∧ (managed false 1).sluice.busy = false ∧ (managed true 1).dieRuns 0 = true ∧
    ((managed true 1).zone 0).fnc = true ∧ ((managed true 1).zone 0).spill = .none ∧ ((managed true 1).part 1).reset = .none ∧
    bits ((managed true 1).part 1).lease 49 40 = 1 ∧ bits ((managed true 1).part 1).lease 61 60 = 2 ∧
    (∀ i ∈ [Instr.rclsWrite 1 0 0x1FF, .ptrootWrite 129 0x11001, .ptrootWrite 1 0x11001, .migcfgWrite 0 0x80FC0000, .mgdAccess true 5, .mgdAccess false 0,
      .registerWrite 1 0x4008 7, .registerWrite 0 0x4008 7, .registerWrite 1 0x4009 7,
      .registerWrite 1 0x118010 7, .registerWrite 1 0x128010 7, .catWrite 1 0 0, .fncWrite 1 0, .msemRead 0, .msemRelease 1, .msemRelease 0,
      .pmapWrite 1 1 0, .pmapWrite 0 1 0, .leaseWrite 1 1 (0x4000000000000000 + 5 * 2 ^ 50), .renew 0 1, .renew 1 1, .leaseTick, .leaseExpiry 1],
      (nextOf (exec i (managed true 1))).isSome = true) := by decide +kernel
/-- A pending vector of partition 1's function is sent when its table entry is unmasked, and not while it stays masked (R390). -/
theorem test_unmask :
    let s := { managed true 1 with sluice := { (managed true 1).sluice with pba := [vecKey 1 1 1] } }
    (nextOf (exec (.registerWrite 1 0x118018 7) s)).map (fun t => (t.sluice.msi, t.sluice.pba)) = some ([(1, vecKey 1 1 1)], []) ∧
    (nextOf (exec (.registerWrite 1 0x118018 0x100000007) s)).map (fun t => t.sluice.msi) = some [] := by decide +kernel
/-- A host caches a line of partition 1's tile: MSTAT reads 7 and the Back-Invalidate goes out before the map changes. -/
def hostsTile : State := { managed true 1 with
  core := Core.zero
  dir := [(1536, ⟨.di, 0, [], none, true, false, false⟩)], l2 := (shared none .di).l2
  clusters := [(0, { Cluster.zero with l1 := [(1536, .m)] })] }
theorem witness_ManagementEvents_waits :
    (hostsTile.hostBlock (hostsTile.pmapStops 1 0x0030000000000000)).isSome = true ∧ hostsTile.snooped 1536 = false ∧
    (nextOf (exec (.pmapWrite 1 1 0x0030000000000000) hostsTile)).map (fun t => (t.sluice.mst, t.snoops.length, (t.part 1).pmap)) =
      some (7, 1, 0x8010000000000000) := by decide +kernel
theorem test_denied : (nextOf (exec (.registerWrite 0 0x4008 7) (managed true 1))).map
    (fun t => (t.sluice.deny, t.sluice.mst, (t.part 1).quota)) = some (1, 1, 0) := by decide +kernel
theorem test_lease_passes : (nextOf (exec (.leaseExpiry 1) (managed true 0))).map
    (fun t => (bits (t.part 1).lease 63 62, bits (t.part 1).lease 49 40, t.wire.length)) = some (2, 5, 2) := by decide +kernel

/-- A launch that has placed its message; a service core whose handler table is the data page, or whose root is not valid. -/
def sweeping (x : Core) (sw : Option (Nat × Nat × Nat)) : State :=
  { withLaunch { oneLaunch true sw with placed := 1 } with core := x, focus := 0 }
def booted (root first : Word) : State := { managed true 1 with
  parts := [(1, { Part.zero with pmap := 0x8010000000000000, lease := 0x4000000000000000, ptroot := root })]
  mem := (managed true 1).mem.writeLE 0x30000 8 first.toNat
  others := [(svcOf 0, { Core.zero with ctl := { Ctl.zero with shtab := 0x2000, scode := 0x0001000000000000 } })] }
/-- Queued writes in window 0 of partition 1 at port 0. -/
def windowed (n : Nat) : State := (booted 0x11001 0).setWin (winKey 0 1 0) ⟨List.replicate n [5], 1⟩
theorem witness_Launches_sweep :
    (nextOf (exec (.quiescenceSweep 0) (sweeping Core.zero none))).map (fun t => t.launches.map (·.sweep)) = some [some (0, 0, 0)] ∧
    (nextOf (exec (.quiescenceSweep 0) (sweeping Core.zero (some (0, 0, 0))))).map (·.launches) = some [] ∧
    (nextOf (exec (.quiescenceSweep 0) (sweeping core.core (some (0, 0, 0))))).map (fun t => t.launches.map (·.sweep)) = some [none] := by
  decide +kernel
theorem witness_Launches_windows :
    (∀ n ∈ [0, 16], (nextOf (exec (.hostChannelWrite 0 1 0 0 64 [5]) (windowed n))).map (fun t => ((t.win (winKey 0 1 0)).fifo.length,
      (t.win (winKey 0 1 0)).drops)) = some (if n = 0 then (1, 1) else (16, 2))) ∧
    (nextOf (exec (.hostChannelWrite 0 1 0 0x48 8 [1]) (windowed 1))).map (fun t => (t.win (winKey 0 1 0)).drops) = some 0 ∧
    (nextOf (exec (.hostChannelDelivery 0 1 0) (windowed 1))).map (fun t => ((t.win (winKey 0 1 0)).fifo, ((t.coreAt (svcOf 0)).chan 60).queue.length)) =
      some ([], 1) ∧
    (windowed 1).schedOf 1 = svcOf 0 := by decide +kernel
theorem witness_Launches_load :
    (booted 0x11001 0).mgmtAgent 1 = true ∧ (booted 0x11001 0).holdsMsem 1 = true ∧ (booted 0x11001 0).holdsMsem 0 = false ∧
    (match ((booted 0x11001 0).loadTable 0).2 with | .ok (some l) => l.length | _ => 0) = 64 ∧
    (match ((booted 0x11001 0x01000000).loadTable 0).2 with | .ok none => true | _ => false) = true ∧
    (match ((booted 0 0).loadTable 0).2 with | .error (_, f) => f.wait | _ => some 0) = none ∧
    (booted 0x11001 0).partOfTile 1 = none := by decide +kernel
theorem test_load : (nextOf (exec (.load 128) (booted 0x11001 0))).map (fun t => t.sluice.mst) = some 0 ∧
    (nextOf (exec (.load 129) (booted 0x11001 0))).map (fun t => t.sluice.mst) = some 4 ∧
    (nextOf (exec (.load 0) (booted 0x11001 0))).map (fun t => (t.sluice.mst, t.sluice.deny)) = some (1, 1) := by decide +kernel

def zoned (stage : Stage) (x : Zone) (now : Nat) : State :=
  { tiled with stage := stage, now := now, zones := [(0, x)], sluice := { tiled.sluice with priming := some 0 } }
def normal : Zone := { Zone.zero with cat := 0x03FC00F000000000, valve := 5 }

theorem witness_CoolantEvents :
    (nextOf (exec (.sensorSample 0 0 0) (zoned .b3 normal 0))).isSome = true ∧
    (nextOf (exec (.sensorSample 0 0 0) (zoned .b3 { normal with low30 := 19 } 0))).map (fun t => (t.zone 0).spill) = some .suspend ∧
    (nextOf (exec (.sensorSample 0 0 0) (zoned .b3 { normal with low30 := 19, st := 3 } 0))).map (fun t => (t.zone 0).spill) = some .suspend ∧
    (∀ z ∈ [none, some 0], (zoned .b3 normal 0).hostBlock ((zoned .b3 normal 0).coolStops z) = none) ∧
    (nextOf (exec (.sensorSample 0 0 0) (zoned .b3 { normal with low70 := 9 } 0))).map (fun t => (t.zone 0).st) = some 1 ∧
    (nextOf (exec (.flowLimitedLeave 0) (zoned .b3 { normal with st := 1, well := 100 } 0))).isSome = true ∧
    (nextOf (exec (.close 0) (zoned .b3 { normal with spill := .suspend } 0))).isSome = true ∧
    (nextOf (exec (.purge 0) (zoned .b3 { normal with spill := .close } 12500000))).isSome = true ∧
    (nextOf (exec (.verify 0) (zoned .b3 { normal with spill := .purge 1 } 250000000))).isSome = true ∧
    (nextOf (exec (.verifyExpiry 0) (zoned .b3 { normal with spill := .verify 1, good := true } 62500000))).isSome = true ∧
    (nextOf (exec (.verifyExpiry 0) (zoned .b3 { normal with spill := .verify 3 } 62500000))).map (fun t => (t.zone 0).fnc) = some true ∧
    (nextOf (exec (.restoreComplete 0) (zoned .b3 { normal with spill := .restore 1 } 0))).isSome = true ∧
    (nextOf (exec (.coolantPriming 0) (zoned .b2 { normal with good := true } 2562500000))).isSome = true ∧
    (nextOf (exec (.valveAdjust 0 6) { zoned .b3 normal 0 with sluice := tiled.sluice })).isSome = true := by decide +kernel
theorem test_purge_again : (nextOf (exec (.verifyExpiry 0) (zoned .b3 { normal with spill := .verify 2 } 62500000))).map
    (fun t => ((t.zone 0).spill, (t.zone 0).valve)) = some (.purge 3, 63) := by decide +kernel

/-- A partition with an action under way, asked for by the service core of tile 0. -/
def acting (a : Action) (hold : Bool) : State := { halted hold with
  parts := [(1, { Part.zero with pmap := 0x8000000000000000, halted := hold, action := some a, askers := [(svcOf 0, 5)] })]
  sluice := { tiled.sluice with up := Vector.replicate 2 true } }
def early (st : Stage) : State := { State.reset with stage := st }

theorem witness_ResetEvents :
    (∀ e ∈ [(Instr.partitionHalt 1, acting .pstop false), (.partitionResume 1, acting .pgo true), (.scrubComplete 1, acting .scrub true),
      (.fill 1, acting (.fill []) true), (.hostLinkDown 0 true, acting .pgo true), (.flr 0 1, acting .pgo true), (.flr 0 0, acting .pgo true),
      (.stageB1 false true true, early .b0), (.bstatHold, early .b1), (.powerDown, core)],
      (nextOf (exec e.1 e.2)).isSome = true) ∧
    (early .off).sluice.pwrOk = none ∧ (early .b0).sluice.fail ≠ 2 ∧ (early .b1).sluice.hold = false ∧
    (nextOf (exec (.pwrOk []) (early .off))).map (fun t => t.sluice.pwrOk) = some (some 0) := by decide +kernel
/-- A shadow context, its frames, and a partition in reset. -/
def shadowed (a : Option Action) (x : ResetSt) : State := { acting .pstop true with
  spills := [(1, (acting .pstop true).frameBytes 0 [], (acting .pstop true).context 1)]
  parts := [(1, { (acting .pstop true).part 1 with action := a, shadow := some ((acting .pstop true).context 1), reset := x })] }
/-- Three bytes of a persistent region in a shadow bank poisoned (R413), in front of its end and not across it. -/
def shadowLaid : State := { core with parts := [(1, { core.part 1 with shadow := some { (core.emptyContext 1) with
  clusters := [(0, { Cluster.zero with regions := [⟨0, 65536, false⟩] })] } })] }
theorem test_shadow_bytes :
    (nextOf (exec (.uncorrectableError (.shadowBytes 1 65533 3)) shadowLaid)).map
      (fun t => (t.part 1).shadow.map (·.bad)) = some (some [65533, 65534, 65535]) ∧
    enabled (.uncorrectableError (.shadowBytes 1 65534 3)) shadowLaid = false := by decide +kernel
theorem witness_ResetEvents_frames :
    (acting .pstop false).net.inMesh 1 = false ∧ ((acting .pgo true).part 1).cooled = [] ∧
    (acting .pgo true).hostBlock ((acting .pgo true).coolStops none) = none ∧
    ((shadowed none .none).spills.find? fun y => decide (y.1 = 1 ∧ y.2.1 = (shadowed none .none).frameBytes 0 [])).isSome = true ∧
    (∀ i ∈ [(Instr.spill 1, shadowed (some (.spill [])) .none), (.fill 1, shadowed (some (.fill [])) .none),
      (.partitionResetScrub 1, shadowed none .draining)], enabled i.1 i.2 = true) := by decide +kernel
theorem witness_ResetEvents_dies :
    (nextOf (exec (.dieReset 0) { core with focus := svcOf 0, core := { core.core with stopped := true } })).isSome = true ∧
    dieLinks 0 ≠ [] ∧ tiled.net.linkUp ((dieLinks 0).headD 0) = true ∧
    (nextOf (exec (.drainack 0 ((dieLinks 0).headD 0)) { tiled with sluice := { tiled.sluice with dieReset := [(0, [])] } })).isSome = true ∧
    (nextOf (exec (.drainTimeout 0 ((dieLinks 0).headD 0)) { tiled with
      now := 12500000, sluice := { tiled.sluice with dieReset := [(0, [])] } })).isSome = true := by decide +kernel
theorem test_pgo_notice : (nextOf (exec (.partitionResume 1) (acting .pgo true))).map
    (fun t => ((t.part 1).halted, t.wire.map (·.ch), t.wire.map (·.payload))) = some (false, [5], [[0x3100000000000001]]) := by decide +kernel
theorem witness_ResetEvents_b2 (b : Bool) :
    (nextOf (exec (.stageB2 (early .b1).imageTables b) (early .b1))).isSome = true := by
  cases b <;> simp [exec, execStageB2, enabledIf, early, State.reset, Sluice.zero, nextOf]
theorem test_hold : (nextOf (exec (.registerWrite 0 0x1000008 0x100) { early .b1 with sluice := (acting .pgo true).sluice })).map
    (fun t => (t.sluice.hold, t.bstat)) = some (true, 0x101) := by decide +kernel
theorem test_stage_b1 : (nextOf (exec (.stageB1 false true true) (early .b0))).map
    (fun t => ((t.part 0).pmap, t.partOfTile 31, t.partOfTile 32, t.sluice.hold)) = some (0x80100000000003E0, some 0, none, false) := by
  decide +kernel


/-! ### Clauses at their boundaries -/

/-- Room for eight receive-slot records, and for none; a record of slot 24. -/
def fullRegion : State := withSave (List.replicate 510 ⟨0, 0, false⟩) (withM 24 (by decide) 9 core)
theorem witness_RegisterWindow_writes :
    core.core.persUsed + 8 ≤ 512 ∧ (∃ e ∈ (withSave [⟨24, 7, true⟩] core).core.rsave, e.n.toNat = 24) ∧
    (val (core.storeLocal 0xFFF1F8 8 5 .scalar)).map (fun t => (t.core.r.slot 31, t.core.rsave)) = some (5, [⟨31, 0, false⟩]) ∧
    (val (core.storeLocal 0xFFF008 8 0xFFFFFFFFFFFFFFFF .scalar)).map (fun t => t.core.r.flg) = some 0x81FF ∧
    (val (core.storeLocal 0xFFF010 8 0x80000001 .scalar)).map (fun t => (t.core.r.pres, t.core.rsave)) =
      some (0x80000001, [⟨31, 0, false⟩]) ∧
    (val (core.storeLocal 0xFFF2F8 8 5 .scalar)).map (fun t => (t.core.r.vec 3).extractLsb' 448 64) = some 5 ∧
    trapOf (core.storeLocal 0xFFF018 8 5 .scalar) = some (opnd 0x0A 0x00 0xFFF018) ∧
    trapOf (core.storeLocal 0xFFF001 8 5 .scalar) = some (opnd 0x06 0x00 0xFFF001) := by decide +kernel

/-- The engine status block: MXSTAT of a running command, a stream buffer, a byte, 16 bytes, a store (R120, R121, R221, R22). -/
theorem witness_StatusBlock :
    core.core.mx.run = none ∧ (withMx [] (some (running 0 none))).core.mx.run.isSome = true ∧
    val ((withMx [.cfg 1] (some (running 0 none))).loadLocal 0xFFF400 8 .scalar) = some 5 ∧
    val (streamed.loadLocal 0xFFF4C7 1 .scalar) = some 0xA2 ∧
    trapOf (core.loadLocal 0xFFF4F0 16 .scalar) = some (opnd 0x06 0x00 0xFFF4F0) ∧
    trapOf (core.storeLocal 0xFFF400 8 0 .scalar) = some (opnd 0x0A 0x00 0xFFF400) := by decide +kernel

/-- A FENCE's mark holds accesses of working memory, and none of a persistent region (R171). -/
def marked (s : State) : State := { s with core := { s.core with buf := [.fence true true] } }
theorem witness_OperandReads_held :
    heldBy false (marked core).core.buf = true ∧ heldBy true (marked core).core.buf = true ∧ heldBy true core.core.buf = false ∧
    (match (marked core).readOp ctx8 0b100000 with | .error .commitFirst => true | _ => false) = true ∧
    (match (marked core).writeOp ctx8 0b100000 1 with | .error .commitFirst => true | _ => false) = true ∧
    (inRep 0 0 2 core).core.rep.act = true := by decide +kernel
/-- FENCE LL behind a no-return atomic, LS,SS behind a store, with nothing buffered (R171). -/
def buffered (k : GKind) : State := { paged with core := { paged.core with
  buf := [.glob ⟨[0x2000], .phys 0x30000, k, 0, 0, false⟩] } }
theorem witness_Atomics_fence :
    (∀ x ∈ [core, buffered (.amo 0 ⟨.add, 8, 1, 0, 0, false⟩), buffered (.bytes 1 7 false)], ∀ a ∈ [8, 5],
      clean (.fence [] 0 ⟨0, 4, 0, a⟩) x = true ∧ x.boundary.tickLong.hostBlock x.boundary.tickLong.ownStops = none) ∧
    (nextOf (exec (.fence [] 0 ⟨0, 4, 0, 8⟩) (buffered (.amo 0 ⟨.add, 8, 1, 0, 0, false⟩)))).map (fun t => t.core.buf.drop 1) =
      some [.fence true false] ∧
    (nextOf (exec (.fence [] 0 ⟨0, 4, 0, 8⟩) (buffered (.bytes 1 7 false)))).map (fun t => t.core.buf.drop 1) = some [] ∧
    (nextOf (exec (.fence [] 0 ⟨0, 4, 0, 5⟩) (buffered (.bytes 1 7 false)))).map (fun t => t.core.buf.drop 1) =
      some [.fence false true] := by decide +kernel

/-- A body of two instructions, one of them with a prefix and a second word, stepped over by a count of 0 (R300). -/
theorem witness_Repetition_lengths : wordsOf [0x0100] ∧ wordsOf [0xF4A3, 0xC027, 0x0840] :=
  ⟨⟨[], 0x0100, [], by simp⟩, ⟨[0xF4A3], 0xC027, [0x0840], by simp⟩⟩
theorem test_rep_zero_long : (nextOf (step (code [0xF000, 0xB824, 0x0100, 0xF4A3, 0xC027, 0x0840]))).map (fun t => (t.core.pc, t.core.rep.act)) =
    some (0x100C, false) := by decide +kernel

/-- SPRES that clears a receive slot's presence bit records it (R18, R103). -/
theorem witness_ImmediateForms_receive : clean (.spres [] 0x38) core = true ∧ (0x38#8).getLsbD 5 = true ∧ 24 ≤ (0x38#8).toNat % 32 ∧
    core.core.persUsed < 512 := by decide +kernel
theorem test_spres_receive : (nextOf (exec (.spres [] 0x38) { core with core := { core.core with r := { core.core.r with
    pres := 0x01000000 } } })).map (fun t => (t.core.r.pres, t.core.rsave, t.core.r.flg.extractLsb' 3 1)) =
    some (0, [⟨24, 0, true⟩], 0) := by decide +kernel

/-- No room for eight records: the region commits first, and the records are the new region's (R97, R104). -/
theorem witness_SlotsCleared_full : clean (.sclr [] 0xF8) fullRegion = true ∧ 512 < fullRegion.core.persUsed + 8 ∧
    fullRegion.boundary.commitBlock = none := by decide +kernel
theorem test_sclr_full : (nextOf (exec (.sclr [] 0xF8) fullRegion)).map (fun t => (t.core.r.slot 24, t.core.rsave.length, t.core.rsave.head?, t.core.pc)) =
    some (0, 8, some ⟨24, 9, false⟩, 0x1002) := by decide +kernel

/-- Sixteen lanes of 1.0 in FP32 sum to 16.0; one masked off, to 15.0 (R114). -/
theorem test_vfreds_lanes : (nextOf (exec (.vfreds [] 0 0 false 1) (withVa 0 (0x3F800000 * ((2 ^ 512 - 1) / (2 ^ 32 - 1))) core))).map
    (fun t => t.core.r.a) = some 0x41800000 := by decide +kernel
/-- VCVT of FP32 to FP16 leaves the upper half of the vector zero (R159). -/
theorem test_vcvt_narrows : (nextOf (exec (.vcvt [] 0x20 (w1la 0 0x08)) ((val (core.storeLocal 0 64
    (0x3F800000 * ((2 ^ 512 - 1) / (2 ^ 32 - 1))) .vec)).getD core))).isSome = true := by decide +kernel

/-- Two minima with a NaN, and infinities of opposite signs divided (R90, R88). -/
theorem test_min_number : fMinMax f32 false true 0x7FC00000 0x3F800000 = (0x3F800000, 0) ∧
    fMinMax f32 true true 0x3F800000 0x7F800001 = (0x3F800000, fIV) ∧
    fDivide f32 .rne 0x7F800000 0xFF800000 = (f32.nan, fIV) := by decide +kernel

/-! Uncorrectable errors (R413 to R416). -/

def shadowOf (x : Ctx) : State := { tiled with parts := [(1, { tiled.part 1 with shadow := some x })] }
def keptCtx : Ctx := { tiled.emptyContext 1 with cores := [(0, { core.core with
  act := none, inter := some ⟨Ckpt.zero, 5, false, false⟩, chans := core.core.chans.set 5 { core.core.chan 5 with queue := [queuedMsg] } })] }
def tagged (dirty : Bool) : State := { tiled with l2 := { tiled.l2 with
  tags := [⟨homeOfLine 1536, 1536, 1, 0, some 4, dirty, false, false⟩], ents := [⟨homeOfLine 1536, 4, 0, 1, 0, 0⟩] } }
theorem witness_CoreEvents_sites :
    enabled (.uncorrectableError (.park 0 0)) (idleCore [] false .parked) = true ∧
    (∀ e ∈ [ErrSite.shadow 1 0 none, .shadowAccum 1 0 65535 1, .shadowQueue 1 0 5 0],
      enabled (.uncorrectableError e) (shadowOf keptCtx) = true) ∧
    enabled (.uncorrectableError (.accum 0)) (withMx [] (some (running 0 none))) = true ∧
    enabled (.uncorrectableError (.stream 0)) (streaming true [] (some sgoCmd)) = true ∧
    enabled (.uncorrectableError (.gred 0)) fresh = true ∧
    enabled (.uncorrectableError (.bulk 0 1 1)) (copied true none) = true ∧
    (∀ d ∈ [true, false], enabled (.uncorrectableError (.l2 (homeOfLine 1536) 4)) (tagged d) = true) ∧
    enabled (.uncorrectableError (.flit 3 0)) (netted [{ onePkt with entered := 1 }] [flitAt 0 0] 0) = true ∧
    enabled (.uncorrectableError (.die 3)) core = true := by decide +kernel
/-- A message of a shadow bank's queue damaged; a clean entry dropped, a dirty one poisoned. -/
theorem test_site_errors :
    (nextOf (exec (.uncorrectableError (.shadowQueue 1 0 5 0)) (shadowOf keptCtx))).map (fun t => (t.part 1).shadow.map fun x =>
      (getAt Core.zero x.cores 0 |>.chan 5).queue.map (·.bad)) = some (some [true]) ∧
    (nextOf (exec (.uncorrectableError (.l2 (homeOfLine 1536) 4)) (tagged false))).map (fun t => t.l2.tags.length) = some 0 ∧
    (nextOf (exec (.uncorrectableError (.l2 (homeOfLine 1536) 4)) (tagged true))).map (fun t => t.l2.tags.map (·.bad)) = some [true] := by
  decide +kernel

/-! Coherence, hosts, line operations. -/

/-- A die in reset on the way to a line's home: the sluice die holds a host's request, and answers it with Completer Abort. -/
def shutWay (held : List (Nat × Nat)) : State := { calm with sluice := { calm.sluice with
  dieReset := [(homeOfLine 1536 / 3, [])], hostHeld := held } }
theorem witness_CoherenceEvents_shut :
    (shutWay []).hostPath 1536 = false ∧ hbmLine 1536 = true ∧ (shutWay []).snooped 1536 = false ∧
    (nextOf (exec (.cxlMemRead 0 1536 true) (shutWay []))).map (·.sluice.hostHeld) = some [(0, 1536)] ∧
    (nextOf (exec (.cxlMemWrite 0 0x30040 [1]) (shutWay [(0, 1536)]))).map (fun t => (t.sluice.hostHeld, t.sluice.hostAborts)) =
      some ([], [(0, 1536)]) ∧
    (nextOf (exec (.hostPostedWrite 0 0x30040 [1]) (shutWay []))).map (·.sluice.hostHeld) = some [(0, 1536)] := by decide +kernel
/-- CLWB of a line that host 0 caches is left to the home, which asks it; the operation ends with the host's answer, or its failure is reported
(R220, R202). -/
def cachedByHost : State := { hosted .other true false false with snoops := [], core := { tiled.core with act := some 1 } }
def waitingOp : State := (nextOf (exec (.clfl [] 9 ⟨0, 0, 0, 0⟩) (at9 0x2000 cachedByHost))).getD core
theorem witness_CoherenceEvents_operations :
    clean (.clfl [] 9 ⟨0, 0, 0, 0⟩) (at9 0x2000 cachedByHost) = true ∧ waitingOp.lineOps = [⟨2, 1536, 0⟩] ∧
    waitingOp.core.pc = 0x1004 ∧ (waitingOp.hostBlock (waitingOp.opStops ⟨2, 1536, 0⟩)).isSome = true ∧
    waitingOp.snoops.map (fun x => (x.line, x.inv, x.asker)) = [(1536, true, .other)] ∧
    (nextOf (exec (.birsp 0 1536) waitingOp)).map (fun t => (t.lineOps, t.hostHas 1536)) = some ([], false) ∧
    (nextOf (exec (.hostTimeout 0 1536) waitingOp)).map (fun t => (t.lineOps, t.wire.length)) = some ([], 1) := by decide +kernel

/-! The network, the management space. -/

/-- A message delivered whose acknowledgement never came: its sender is told LINK (R339). -/
def unanswered : State := { spad with now := 100000000, acks := [⟨0, none, 0, 5, some 3, none, 0x00010000, 0⟩], net := { Net.zero with
  pkts := [{ onePkt with load := .message 0, resends := 4, leg := .done, got := true }], next := 4 } }
theorem witness_NetworkEvents_unanswered : enabled (.ackTimeout 3) unanswered = true ∧
    (∀ w ∈ unanswered.wire, w.trip.pkt ≠ some 3) ∧
    (nextOf (exec (.ackTimeout 3) unanswered)).map (fun t => (t.acks, t.wire.map (·.ch), t.wire.map fun w => (dw w.payload 0).extractLsb' 48 16)) =
      some ([], [59], [0x1301]) := by decide +kernel
/-- Panels go east on class 1 within a formed gang (R135, R326); a retrain replays in order (R342). -/
def panelGang : State := { netted [] [] 0 with forms := [{ formOfOne .mx with gwl := 1, members := [0, 1], formed := true }] }
theorem witness_NetworkEvents_gang :
    (xOf 0 < xOf 2 ∧ epOf 2 = 1) ∧ panelGang.clsOk (.panel 0) 1 1 = false ∧
    ({ panelGang with forms := [{ formOfOne .mx with members := [0, 2], formed := true }] } : State).clsOk (.panel 0) 1 1 = true ∧
    (nextOf (exec (.retrain 0 true) (lostFlit 0))).map (fun t => (t.net.link 0).flight) = some [0, 1] := by decide +kernel
/-- A write of LEASE with reserved HOLD and EXP keeps those fields (R387). -/
theorem test_lease_reserved : (nextOf (exec (.leaseWrite 1 1 (0xC000000000000000 + 1001 * 2 ^ 50)) (managed true 1))).map
    (fun t => (bits (t.part 1).lease 63 62, bits (t.part 1).lease 61 60, bits (t.part 1).lease 59 50)) = some (1, 0, 5) := by decide +kernel
/-- A deposit named before its receiver's turn of the cycle lands behind it (R19): the core moves in the next cycle. -/
theorem test_deposit_order : ({ core with deposited := [0] } : State).late 0 = true ∧
    ((({ core with deposited := [0] } : State).tickCore 0 0).map (·.now)) = some 1 := by decide +kernel
/-- Two agents in one cycle of the management space: the one that did not win the last tie comes first (R385). -/
theorem witness_StepRunsDecoded_tie : mgmtWho (.msemRead 0) = some 0 ∧ mgmtWho (.msemRead 1) = some 1 ∧ mgmtWho .selection = none := by
  decide +kernel
end Sys2Proof.Tests
end

section
/-! SUPPORT. Number formats (R75, R89, R107, R108): what an encoding stands for, by its sign, exponent and fraction; the
class it belongs to, and the order of encodings. -/

namespace Sys2Proof.Machine

/-! ### The fields of an encoding (R75) -/

/-- The sign of an encoding. -/
def Fmt.isNeg (f : Fmt) (x : Nat) : Bool := decide (2 ^ (f.bits - 1) ≤ x)
/-- The exponent field of an encoding. -/
def Fmt.expo (f : Fmt) (x : Nat) : Nat := x / 2 ^ f.mb % 2 ^ (f.bits - 1 - f.mb)
/-- The fraction field of an encoding. -/
def Fmt.frac (f : Fmt) (x : Nat) : Nat := x % 2 ^ f.mb
/-- The exponent field of infinities and NaNs. -/
def Fmt.topExpo (f : Fmt) : Nat := 2 ^ (f.bits - 1 - f.mb) - 1
/-- An encoding without its sign bit. -/
def Fmt.mag (f : Fmt) (x : Nat) : Nat := x % 2 ^ (f.bits - 1)

theorem Fmt.bits_sub_one (f : Fmt) : f.bits - 1 = f.mb + f.eb := by simp only [Fmt.bits]; omega
theorem Fmt.expoBits (f : Fmt) : f.bits - 1 - f.mb = f.eb := by rw [Fmt.bits_sub_one]; omega

theorem Fmt.infCode_eq (f : Fmt) : f.infCode = f.topExpo * 2 ^ f.mb := by rw [Fmt.infCode, Fmt.topExpo, Fmt.expoBits]

theorem Fmt.two_pow_bits (f : Fmt) : 2 ^ f.bits = 2 * 2 ^ (f.bits - 1) := by
  rw [← Nat.pow_succ', Fmt.bits_sub_one, Fmt.bits]; congr 1; omega

theorem Fmt.frac_lt (f : Fmt) (x : Nat) : f.frac x < 2 ^ f.mb := Nat.mod_lt _ (Nat.two_pow_pos _)

/-- The sign bit as a digit. -/
theorem Fmt.isNeg_eq {f : Fmt} {x : Nat} (hx : x < 2 ^ f.bits) :
    decide (x / 2 ^ (f.bits - 1) % 2 = 1) = f.isNeg x := by
  rw [Fmt.two_pow_bits, Nat.mul_comm] at hx
  have hd : x / 2 ^ (f.bits - 1) < 2 := Nat.div_lt_of_lt_mul hx
  simp only [Fmt.isNeg, decide_eq_decide, Nat.mod_eq_of_lt hd, ← Nat.one_le_div_iff (Nat.two_pow_pos (f.bits - 1))]
  omega

/-- The sign bit apart, an encoding is its magnitude. -/
theorem Fmt.eq_mag {f : Fmt} {x : Nat} (hx : x < 2 ^ f.bits) :
    x = (if f.isNeg x then 2 ^ (f.bits - 1) else 0) + f.mag x := by
  rw [Fmt.two_pow_bits] at hx
  by_cases h : 2 ^ (f.bits - 1) ≤ x
  · simp only [Fmt.isNeg, h, decide_true, if_true, Fmt.mag, Nat.mod_eq_sub_mod h,
      Nat.mod_eq_of_lt (show x - 2 ^ (f.bits - 1) < 2 ^ (f.bits - 1) by omega)]
    omega
  · simp [Fmt.isNeg, h, Fmt.mag, Nat.mod_eq_of_lt (Nat.lt_of_not_le h)]

/-- A magnitude is its exponent field above its fraction. -/
theorem Fmt.mag_eq (f : Fmt) (x : Nat) : f.mag x = f.expo x * 2 ^ f.mb + f.frac x := by
  rw [Fmt.mag, Fmt.expo, Fmt.frac, Fmt.expoBits, Fmt.bits_sub_one, Nat.pow_add, Nat.mod_mul]
  ring

/-- R75: what an encoding of a format with infinities and NaNs stands for, by its fields. -/
theorem Fmt.decode_ieee {f : Fmt} (hf : f.kind = .ieee) {x : Nat} (hx : x < 2 ^ f.bits) :
    f.decode x =
      if f.expo x = f.topExpo then
        (if f.frac x = 0 then .inf (f.isNeg x) else .nan (decide (f.frac x < 2 ^ (f.mb - 1))))
      else if f.expo x = 0 then .fin (f.isNeg x) (f.frac x) f.lsb
      else .fin (f.isNeg x) (2 ^ f.mb + f.frac x) (f.lsb + ((f.expo x : Int) - 1)) := by
  simp only [Fmt.decode, hf, Fmt.isNeg_eq hx, Fmt.expo, Fmt.frac, Fmt.topExpo, Fmt.expoBits, decide_eq_true_eq,
    reduceCtorEq, if_false]
  congr

theorem Fmt.decode_infinity {f : Fmt} (hf : f.kind = .ieee) {x : Nat} (hx : x < 2 ^ f.bits) (he : f.expo x = f.topExpo)
    (hm : f.frac x = 0) : f.decode x = .inf (f.isNeg x) := by
  rw [Fmt.decode_ieee hf hx, if_pos he, if_pos hm]

theorem Fmt.decode_nan {f : Fmt} (hf : f.kind = .ieee) {x : Nat} (hx : x < 2 ^ f.bits) (he : f.expo x = f.topExpo)
    (hm : f.frac x ≠ 0) : f.decode x = .nan (decide (f.frac x < 2 ^ (f.mb - 1))) := by
  rw [Fmt.decode_ieee hf hx, if_pos he, if_neg hm]

/-- Decoding reads only the bits of the format. -/
theorem Fmt.decode_mod (f : Fmt) (x : Nat) : f.decode (x % 2 ^ f.bits) = f.decode x := by
  have field (k n : Nat) (h : k + n ≤ f.bits) : x % 2 ^ f.bits / 2 ^ k % 2 ^ n = x / 2 ^ k % 2 ^ n := by
    obtain ⟨d, hd⟩ := Nat.exists_eq_add_of_le h
    rw [hd, Nat.add_assoc, Nat.pow_add 2 k, Nat.mod_mul_right_div_self, Nat.pow_add, Nat.mod_mul_right_mod]
  have hneg := field (f.bits - 1) 1 (by simp only [Fmt.bits]; omega)
  have hexp := field f.mb f.eb (by simp only [Fmt.bits]; omega)
  have hfrac := field 0 f.mb (by simp only [Fmt.bits]; omega)
  simp only [Nat.pow_one, Nat.pow_zero, Nat.div_one] at hneg hfrac
  simp only [Fmt.decode, hneg, hexp, hfrac]

/-! ### Classes (R108) -/

theorem fClass_mod (f : Fmt) (x : Nat) : fClass f (x % 2 ^ f.bits) = fClass f x := by
  simp only [fClass, Fmt.decode_mod]

/-- R108: the class mask by the fields. -/
theorem fClass_ieee {f : Fmt} (hf : f.kind = .ieee) {x : Nat} (hx : x < 2 ^ f.bits) :
    fClass f x = 2 ^ (
      if f.expo x = f.topExpo then
        (if f.frac x = 0 then (if 2 ^ (f.bits - 1) ≤ x then 0 else 7) else if f.frac x < 2 ^ (f.mb - 1) then 8 else 9)
      else if f.expo x = 0 then
        (if f.frac x = 0 then (if 2 ^ (f.bits - 1) ≤ x then 3 else 4) else if 2 ^ (f.bits - 1) ≤ x then 2 else 5)
      else if 2 ^ (f.bits - 1) ≤ x then 1 else 6) := by
  by_cases he : f.expo x = f.topExpo
  · by_cases hm : f.frac x = 0
    · simp [fClass, Fmt.decode_infinity hf hx he hm, he, hm, Fmt.isNeg, apply_ite (2 ^ ·)]
    · simp [fClass, Fmt.decode_nan hf hx he hm, he, hm, apply_ite (2 ^ ·)]
  · rw [if_neg he]
    by_cases h0 : f.expo x = 0
    · have hd : f.decode x = .fin (f.isNeg x) (f.frac x) f.lsb := by rw [Fmt.decode_ieee hf hx, if_neg he, if_pos h0]
      by_cases hm : f.frac x = 0
      · simp [fClass, hd, h0, hm, Fmt.isNeg, apply_ite (2 ^ ·)]
      · simp [fClass, hd, h0, hm, f.frac_lt x, Fmt.isNeg, apply_ite (2 ^ ·)]
    · have hd := Fmt.decode_ieee hf hx
      rw [if_neg he, if_neg h0] at hd
      simp [fClass, hd, h0, Fmt.isNeg, apply_ite (2 ^ ·)]

/-! ### The order of values (R89) -/

/-- The multiple of the format's finest unit that a finite magnitude stands for. -/
def Fmt.units (f : Fmt) (c : Nat) : Nat :=
  if c / 2 ^ f.mb = 0 then c % 2 ^ f.mb else (2 ^ f.mb + c % 2 ^ f.mb) * 2 ^ (c / 2 ^ f.mb - 1)

theorem Fmt.units_lt (f : Fmt) (c : Nat) : f.units c < 2 ^ f.mb * 2 ^ (c / 2 ^ f.mb) := by
  have hm := Nat.mod_lt c (Nat.two_pow_pos f.mb)
  unfold Fmt.units
  split
  · next h => simpa [h] using hm
  · next h =>
    obtain ⟨e, he⟩ := Nat.exists_eq_succ_of_ne_zero h
    rw [he, Nat.succ_sub_one, Nat.pow_succ']
    calc (2 ^ f.mb + c % 2 ^ f.mb) * 2 ^ e < (2 * 2 ^ f.mb) * 2 ^ e :=
          Nat.mul_lt_mul_of_pos_right (by omega) (Nat.two_pow_pos e)
      _ = 2 ^ f.mb * (2 * 2 ^ e) := by ring

theorem Fmt.le_units (f : Fmt) {c : Nat} (h : c / 2 ^ f.mb ≠ 0) : 2 ^ f.mb * 2 ^ (c / 2 ^ f.mb - 1) ≤ f.units c := by
  rw [Fmt.units, if_neg h]
  exact Nat.mul_le_mul_right _ (Nat.le_add_right ..)

/-- Greater magnitudes stand for greater values: by the exponent field first, then by the fraction. -/
theorem Fmt.units_strictMono (f : Fmt) : StrictMono f.units := by
  intro c d h
  rcases Nat.lt_or_eq_of_le (Nat.div_le_div_right (c := 2 ^ f.mb) h.le) with hlt | heq
  · calc f.units c < 2 ^ f.mb * 2 ^ (c / 2 ^ f.mb) := f.units_lt c
      _ ≤ 2 ^ f.mb * 2 ^ (d / 2 ^ f.mb - 1) :=
          Nat.mul_le_mul_left _ (Nat.pow_le_pow_right Nat.two_pos (Nat.le_sub_one_of_lt hlt))
      _ ≤ f.units d := f.le_units (Nat.ne_of_gt (Nat.zero_lt_of_lt hlt))
  · have hm : c % 2 ^ f.mb < d % 2 ^ f.mb := by
      have hc := Nat.div_add_mod c (2 ^ f.mb)
      have hd := Nat.div_add_mod d (2 ^ f.mb)
      rw [heq] at hc
      omega
    simp only [Fmt.units, heq]
    split
    · exact hm
    · exact Nat.mul_lt_mul_of_pos_right (by omega) (Nat.two_pow_pos _)

theorem Fmt.mag_div (f : Fmt) (x : Nat) : f.mag x / 2 ^ f.mb = f.expo x := by
  rw [Fmt.mag_eq, Nat.mul_comm, Nat.mul_add_div (Nat.two_pow_pos _), Nat.div_eq_of_lt (f.frac_lt x), Nat.add_zero]

theorem Fmt.mag_mod (f : Fmt) (x : Nat) : f.mag x % 2 ^ f.mb = f.frac x := by
  rw [Fmt.mag_eq, Nat.mul_comm, Nat.mul_add_mod, Nat.mod_eq_of_lt (f.frac_lt x)]

/-- A finite encoding stands for the units of its magnitude. -/
theorem Fmt.decode_finite {f : Fmt} (hf : f.kind = .ieee) {x : Nat} (hx : x < 2 ^ f.bits) (he : f.expo x ≠ f.topExpo) :
    ∃ m e, f.decode x = .fin (f.isNeg x) m e ∧ f.lsb ≤ e ∧ m * 2 ^ (e - f.lsb).toNat = f.units (f.mag x) := by
  rw [Fmt.decode_ieee hf hx, if_neg he, Fmt.units, Fmt.mag_div, Fmt.mag_mod]
  by_cases h0 : f.expo x = 0
  · exact ⟨_, _, by rw [if_pos h0], Int.le_refl _, by simp [h0]⟩
  · refine ⟨_, _, by rw [if_neg h0], by omega, ?_⟩
    rw [if_neg h0]
    congr 2
    omega

theorem Fmt.decode_isNan_iff {f : Fmt} (hf : f.kind = .ieee) {x : Nat} (hx : x < 2 ^ f.bits) :
    (f.decode x).isNan = true ↔ f.expo x = f.topExpo ∧ f.frac x ≠ 0 := by
  by_cases he : f.expo x = f.topExpo
  · by_cases hm : f.frac x = 0
    · simp [Fmt.decode_infinity hf hx he hm, FVal.isNan, hm]
    · simp [Fmt.decode_nan hf hx he hm, FVal.isNan, he, hm]
  · obtain ⟨m, e, hd, -, -⟩ := Fmt.decode_finite hf hx he
    simp [hd, FVal.isNan, he]

theorem Fmt.decode_isSnan_iff {f : Fmt} (hf : f.kind = .ieee) {x : Nat} (hx : x < 2 ^ f.bits) :
    (f.decode x).isSnan = true ↔ (f.expo x = f.topExpo ∧ f.frac x ≠ 0) ∧ f.frac x < 2 ^ (f.mb - 1) := by
  by_cases he : f.expo x = f.topExpo
  · by_cases hm : f.frac x = 0
    · simp [Fmt.decode_infinity hf hx he hm, FVal.isSnan, hm]
    · simp [Fmt.decode_nan hf hx he hm, FVal.isSnan, he, hm]
  · obtain ⟨m, e, hd, -, -⟩ := Fmt.decode_finite hf hx he
    simp [hd, FVal.isSnan, he]

/-- An encoding that is neither infinity nor NaN has a smaller magnitude than infinity. -/
theorem Fmt.mag_lt_of_finite {f : Fmt} {x : Nat} (he : f.expo x ≠ f.topExpo) : f.mag x < f.infCode := by
  have hlt : f.expo x < 2 ^ (f.bits - 1 - f.mb) := Nat.mod_lt _ (Nat.two_pow_pos _)
  calc f.mag x < (f.expo x + 1) * 2 ^ f.mb := by
        rw [Fmt.mag_eq, Nat.add_mul, Nat.one_mul]; exact Nat.add_lt_add_left (f.frac_lt x) _
    _ ≤ f.topExpo * 2 ^ f.mb := Nat.mul_le_mul_right _ (by simp only [Fmt.topExpo] at he ⊢; omega)
    _ = f.infCode := f.infCode_eq.symm

/-- A magnitude with a sign. -/
def signedMag (neg : Bool) (m : Nat) : Int := if neg then -(m : Int) else m

/-- The order of finite values on a common grid 2^l; of two zeros the negative one is less. -/
theorem fLess_fin {n1 n2 : Bool} {m1 m2 : Nat} {e1 e2 l : Int} (h1 : l ≤ e1) (h2 : l ≤ e2) :
    fLess (.fin n1 m1 e1) (.fin n2 m2 e2) = true ↔
      signedMag n1 (m1 * 2 ^ (e1 - l).toNat) < signedMag n2 (m2 * 2 ^ (e2 - l).toNat) ∨
      (signedMag n1 (m1 * 2 ^ (e1 - l).toNat) = signedMag n2 (m2 * 2 ^ (e2 - l).toNat) ∧ n1 = true ∧ n2 = false) := by
  obtain ⟨p, hp⟩ : ∃ p, p = 2 ^ (min e1 e2 - l).toNat := ⟨_, rfl⟩
  have hpos : 0 < p := hp ▸ Nat.two_pow_pos _
  have scale (m : Nat) (e : Int) (h : min e1 e2 ≤ e) :
      m * 2 ^ (e - l).toNat = m * 2 ^ (e - min e1 e2).toNat * p := by
    rw [hp, Nat.mul_assoc, ← Nat.pow_add]; congr 2; omega
  rw [scale m1 e1 (by omega), scale m2 e2 (by omega)]
  simp only [fLess, exactSum, Bool.or_eq_true, Bool.and_eq_true, decide_eq_true_eq, Bool.not_eq_true']
  generalize m1 * 2 ^ (e1 - min e1 e2).toNat = a
  generalize m2 * 2 ^ (e2 - min e1 e2).toNat = b
  have hab : a * p < b * p ↔ a < b := Nat.mul_lt_mul_right hpos
  have hba : b * p < a * p ↔ b < a := Nat.mul_lt_mul_right hpos
  generalize a * p = u at *
  generalize b * p = v at *
  cases n1 <;> cases n2 <;> simp [signedMag] <;> omega

/-- The place of R89 by sign and magnitude. -/
theorem place_eq {f : Fmt} {x : Nat} (hx : x < 2 ^ f.bits) :
    Claims.place f x = if f.isNeg x then -(f.mag x : Int) - 1 else f.mag x := by
  have h := Fmt.eq_mag hx
  simp only [Claims.place]
  by_cases hn : 2 ^ (f.bits - 1) ≤ x
  · simp only [Fmt.isNeg, hn, decide_true, if_true] at h ⊢; omega
  · simp only [Fmt.isNeg, hn, decide_false, Bool.false_eq_true, if_false] at h ⊢; omega

/-- The order of finite encodings is that of their places. -/
theorem fLess_finite {f : Fmt} (hf : f.kind = .ieee) {x y : Nat} (hx : x < 2 ^ f.bits) (hy : y < 2 ^ f.bits)
    (ex : f.expo x ≠ f.topExpo) (ey : f.expo y ≠ f.topExpo) :
    fLess (f.decode x) (f.decode y) = true ↔ Claims.place f x < Claims.place f y := by
  obtain ⟨m1, e1, d1, l1, u1⟩ := Fmt.decode_finite hf hx ex
  obtain ⟨m2, e2, d2, l2, u2⟩ := Fmt.decode_finite hf hy ey
  have hlt := f.units_strictMono.lt_iff_lt (a := f.mag x) (b := f.mag y)
  have hgt := f.units_strictMono.lt_iff_lt (a := f.mag y) (b := f.mag x)
  rw [d1, d2, fLess_fin l1 l2, u1, u2, place_eq hx, place_eq hy]
  cases f.isNeg x <;> cases f.isNeg y <;> simp [signedMag] <;> omega

/-- An encoding that is no NaN is an infinity or finite. -/
theorem Fmt.infinity_or_finite {f : Fmt} (hf : f.kind = .ieee) {x : Nat} (hx : x < 2 ^ f.bits)
    (nx : ¬ (f.decode x).isNan = true) :
    (f.decode x = .inf (f.isNeg x) ∧ f.mag x = f.infCode) ∨ f.expo x ≠ f.topExpo := by
  rw [Fmt.decode_isNan_iff hf hx] at nx
  by_cases he : f.expo x = f.topExpo
  · have hm : f.frac x = 0 := by_contra fun hm => nx ⟨he, hm⟩
    exact .inl ⟨Fmt.decode_infinity hf hx he hm, by rw [Fmt.mag_eq, he, hm, Nat.add_zero, Fmt.infCode_eq]⟩
  · exact .inr he

/-- R89: the order of encodings that are no NaN is that of their places; an infinity is beyond every finite value of its
sign. -/
theorem fLess_iff_place {f : Fmt} (hf : f.kind = .ieee) {x y : Nat} (hx : x < 2 ^ f.bits) (hy : y < 2 ^ f.bits)
    (nx : ¬ (f.decode x).isNan = true) (ny : ¬ (f.decode y).isNan = true) :
    fLess (f.decode x) (f.decode y) = true ↔ Claims.place f x < Claims.place f y := by
  rcases Fmt.infinity_or_finite hf hx nx with ⟨dx, mx⟩ | ex <;>
    rcases Fmt.infinity_or_finite hf hy ny with ⟨dy, my⟩ | ey
  · rw [dx, dy, place_eq hx, place_eq hy, mx, my]
    cases f.isNeg x <;> cases f.isNeg y <;> simp [fLess]
    omega
  · obtain ⟨m, e, dy, -, -⟩ := Fmt.decode_finite hf hy ey
    have my := Fmt.mag_lt_of_finite ey
    rw [dx, dy, place_eq hx, place_eq hy, mx]
    cases f.isNeg x <;> cases f.isNeg y <;> simp [fLess] <;> omega
  · obtain ⟨m, e, dx, -, -⟩ := Fmt.decode_finite hf hx ex
    have mx := Fmt.mag_lt_of_finite ex
    rw [dx, dy, place_eq hx, place_eq hy, my]
    cases f.isNeg x <;> cases f.isNeg y <;> simp [fLess] <;> omega
  · exact fLess_finite hf hx hy ex ey

theorem fCompare_nan (f : Fmt) {x y : Nat} (h : (f.decode x).isNan = true ∨ (f.decode y).isNan = true) :
    fCompare f x y = .un := by
  rw [← Bool.or_eq_true] at h
  rw [fCompare, if_pos h]

/-- R89, R107: of two values that are no NaN, the comparison says which place is before the other. -/
theorem fCompare_numbers {f : Fmt} (hf : f.kind = .ieee) {x y : Nat} (hx : x < 2 ^ f.bits) (hy : y < 2 ^ f.bits)
    (nx : ¬ (f.decode x).isNan = true) (ny : ¬ (f.decode y).isNan = true) :
    fCompare f x y = if Claims.place f x < Claims.place f y then .lt
      else if Claims.place f y < Claims.place f x then .gt else .eq := by
  simp only [fCompare, Bool.or_eq_true, nx, ny, or_self, Bool.false_eq_true, if_false, fLess_iff_place hf hx hy nx ny,
    fLess_iff_place hf hy hx ny nx]

theorem ieee_of_scalar {f : Fmt} (h : f ∈ [f64, f32, f16, bf16]) : f.kind = .ieee := by
  simp only [List.mem_cons, List.not_mem_nil, or_false] at h
  rcases h with rfl | rfl | rfl | rfl <;> rfl

end Sys2Proof.Machine
end

section
/-! SUPPORT. FCLASS and FCMP (R107, R108): their bodies, and the statements about them. -/

namespace Sys2Proof.Claims

open Sys2Proof.Machine

/-! ### FCLASS and FCMP -/

/-- Landing the checked target of a scalar FP result is writing it to A or DST's operand. -/
theorem landTarget_fpTarget (s : State) (px : List Prefix) (sp : BitVec 6) (n v : Nat) :
    s.landTarget (s.fpTarget px sp n v) = fpResult s px sp n v := by
  simp only [State.fpTarget, fpResult]
  cases dstOf px with
  | none =>
    have hv : (BitVec.ofNat 512 v).extractLsb' 0 64 = BitVec.ofNat 64 v := by
      rw [← BitVec.setWidth_eq_extractLsb' (by omega), BitVec.setWidth_ofNat_of_le (by omega)]
    simp only [State.landTarget, State.landWrite, Core.writeReg, hv, State.setA]
  | some d => rfl

theorem fclassBody_ok {px : List Prefix} {sp : BitVec 6} {t : BitVec 2} {s u : State} {src : Word} (b : Bool)
    (hsrc : s.readOp (ctxFp px sp (fmtOf t).bytes) sp = .ok src)
    (hu : fpResult s px sp (fmtOf t).bytes (fClass (fmtOf t) (src.toNat % 2 ^ (fmtOf t).bits)) = .ok u) :
    fclassBody px sp t b s = .ok (u.post s (stepsSD px sp)) := by
  rw [fClass_mod] at hu
  simp only [fclassBody, hsrc, landTarget_fpTarget, hu]

/-- Settles O58: the class by the fields of the encoding (`fClass_ieee`), and the body writes it. -/
theorem fclassValue : Obligations.FclassValue := by
  unfold Obligations.FclassValue
  exact ⟨fun f hf x hx => fClass_ieee (ieee_of_scalar hf) hx,
    fun px sp t s u src hc hsrc hu => runInstr_done hc (fclassBody_ok _ hsrc hu)⟩

theorem fcmpBody_ok {px : List Prefix} {sp : BitVec 6} {t : BitVec 2} {s : State} {src x : Word} (b : Bool)
    (hsrc : s.readOp (ctxFp px sp (fmtOf t).bytes) sp = .ok src) (hx : s.fpSecond px sp (fmtOf t).bytes = .ok x) :
    fcmpBody px sp t b s = .ok (((s.setZncv 15 (relFlags (fCompare (fmtOf t) (x.toNat % 2 ^ (fmtOf t).bits)
        (src.toNat % 2 ^ (fmtOf t).bits)))).orSticky
      (flagIf (((fmtOf t).decode (x.toNat % 2 ^ (fmtOf t).bits)).isSnan ||
        ((fmtOf t).decode (src.toNat % 2 ^ (fmtOf t).bits)).isSnan) fIV)).post s (stepsSD px sp)) := by
  simp only [fcmpBody, hsrc, hx]

/-- Settles O59: comparing encodings is comparing their places (`fCompare_numbers`), and the body writes the flags. -/
theorem fcmpOrder : Obligations.FcmpOrder := by
  unfold Obligations.FcmpOrder
  refine ⟨fun f hf x y hx hy => ?_, fun px sp t s src x hc => ?_⟩
  · have hk := ieee_of_scalar hf
    have nanx := Fmt.decode_isNan_iff hk hx
    have nany := Fmt.decode_isNan_iff hk hy
    refine ⟨nanx, Fmt.decode_isSnan_iff hk hx, fun h => fCompare_nan f (h.imp nanx.2 nany.2), fun hnx hny => ?_⟩
    rw [fCompare_numbers hk hx hy (mt nanx.1 hnx) (mt nany.1 hny)]
    rcases lt_trichotomy (place f x) (place f y) with h | h | h
    · simp [h, h.ne, h.not_gt]
    · simp [h]
    · simp [h, h.ne', h.not_gt]
  · intro f w lo hsrc hx z
    have hz : z = relFlags (fCompare f (lo x) (lo src)) := by
      simp only [z]; cases fCompare f (lo x) (lo src) <;> rfl
    rw [hz]
    exact runInstr_done hc (fcmpBody_ok _ hsrc hx)

end Sys2Proof.Claims
end

section
/-! SUPPORT. What a commit leaves (R282): the accesses that publication performs do not touch the core in focus, but for its
numbering of messages and its list of stored lines, so the region buffer is empty behind it. -/

namespace Sys2Proof.Machine

/-! ### What the memory system leaves of the core in focus

Tags, directory records, cached copies and poison are the package's: no transaction on a line changes the core in focus. -/

/-- A fold whose steps keep the core keeps it. -/
theorem foldl_core {α : Type} {f : State → α → State} (hf : ∀ t x, (f t x).core = t.core) (l : List α) (s : State) :
    (l.foldl f s).core = s.core := by
  induction l generalizing s with
  | nil => rfl
  | cons x l ih => rw [List.foldl_cons, ih, hf]

@[simp] theorem State.countDedup_core (s : State) (p : Nat) (i : Fin 4) : (s.countDedup p i).core = s.core := rfl
@[simp] theorem State.putTag_core (s : State) (l : Nat) (t : Option L2Tag) : (s.putTag l t).core = s.core := rfl
@[simp] theorem State.bumpEnt_core (s : State) (e : Nat) (f : Nat → Nat) : (s.bumpEnt e f).core = s.core := rfl
@[simp] theorem State.addCand_core (s : State) (n : Nat) (h : BitVec 64) (e : Nat) : (s.addCand n h e).core = s.core := rfl
@[simp] theorem State.dropFull_core (s : State) (l : List L2Ent) : (s.dropFull l).core = s.core := rfl

@[simp] theorem State.release_core (s : State) (t : L2Tag) : (s.release t).core = s.core := by
  unfold State.release; split <;> rfl

@[simp] theorem State.wake_core (s : State) (k : Nat) : (s.wake k).core = s.core := by
  unfold State.wake; split <;> rfl

@[simp] theorem State.setCache_core (s : State) (k : Nat) (l : List (Nat × Moesi)) (b : Bool) :
    (s.setCache k l b).core = s.core := by
  unfold State.setCache; cases b <;> simp <;> split <;> simp

@[simp] theorem State.setL1_core (s : State) (k l : Nat) (x : Option Moesi) : (s.setL1 k l x).core = s.core := by
  cases x <;> simp [State.setL1]

@[simp] theorem State.updTile_core (s : State) (l : Nat) (f : DirRec → DirRec) : (s.updTile l f).core = s.core := by
  unfold State.updTile; split <;> simp

@[simp] theorem State.updDir_core (s : State) (l : Nat) (f : DirRec → DirRec) : (s.updDir l f).core = s.core := by
  unfold State.updDir; split <;> simp

@[simp] theorem State.liftPoison_core (s : State) (a n m : Nat) : (s.liftPoison a n m).core = s.core := by
  unfold State.liftPoison; split <;> rfl

@[simp] theorem State.souredBytes_core (s : State) (l : Nat) : (s.souredBytes l).core = s.core := by
  unfold State.souredBytes; split
  · split <;> simp
  · rfl

@[simp] theorem State.dropCopies_core (s : State) (l : Nat) : (s.dropCopies l).core = s.core := by
  simp only [State.dropCopies, State.setDir_core]
  rw [foldl_core fun t k => State.setL1_core t k l none]
  split <;> rfl

@[simp] theorem State.evictTag_core (s : State) (l : Nat) : (s.evictTag l).core = s.core := by
  unfold State.evictTag; split
  · simp only [State.dropCopies_core, State.putTag_core, State.release_core]; split <;> simp
  · rfl

theorem State.makeRoom_core {s t : State} {n p l : Nat} (h : s.makeRoom n p l = some t) : t.core = s.core := by
  unfold State.makeRoom at h
  split at h
  · cases h; rfl
  · split at h
    · split at h
      · cases h
      · cases h; simp
    · cases h

@[simp] theorem State.newEnt_core (s : State) (n d : Nat) (x : BitVec 1024) (b : Bool) :
    (s.newEnt n d x b).1.core = s.core := by
  unfold State.newEnt; cases b <;> rfl

@[simp] theorem State.rewriteEnt_core (s : State) (n d e : Nat) (x : BitVec 1024) (b : Bool) :
    (s.rewriteEnt n d e x b).core = s.core := by
  unfold State.rewriteEnt; cases b <;> rfl

@[simp] theorem State.countColls_core (s : State) (p n : Nat) : (s.countColls p n).core = s.core := by
  induction n generalizing s with
  | zero => rfl
  | succ n ih => rw [State.countColls, ih, State.countDedup_core]

@[simp] theorem State.placeLine_core (s : State) (t : L2Tag) (wb : Bool) : (s.placeLine t wb).core = s.core := by
  simp only [State.placeLine]
  repeat' split
  all_goals simp

@[simp] theorem State.l2Fill_core (s : State) (l p : Nat) (b : Bool) : (s.l2Fill l p b).core = s.core := by
  simp only [State.l2Fill]
  split
  · simp
  · split
    · rfl
    · next h => simp [State.makeRoom_core h]

@[simp] theorem State.l2WriteBack_core (s : State) (l p : Nat) : (s.l2WriteBack l p).core = s.core := by
  simp only [State.l2WriteBack]
  split
  · simp
  · split
    · rfl
    · next h => simp [State.makeRoom_core h]

@[simp] theorem State.l2Partial_core (s : State) (l : Nat) : (s.l2Partial l).core = s.core := by
  simp only [State.l2Partial]
  repeat' split
  all_goals simp

@[simp] theorem State.writeBackAny_core (s : State) (l : Nat) : (s.writeBackAny l).core = s.core := by
  unfold State.writeBackAny; split
  · simp [State.writeBack]
  · rfl

@[simp] theorem State.recallOne_core (s : State) (l : Nat) : (s.recallOne l).core = s.core := by
  simp only [State.recallOne, State.setDir_core]
  rw [foldl_core fun t k => State.setL1_core t k l none, State.writeBackAny_core]

@[simp] theorem State.recall_core (s : State) (l : Nat) : (s.recall l).core = s.core := by
  rw [State.recall, State.updTile_core, foldl_core State.recallOne_core]

@[simp] theorem State.storeHome_core (s : State) (a n m v : Nat) : (s.storeHome a n m v).core = s.core := by
  simp [State.storeHome]

@[simp] theorem State.takeLine_core (s : State) (k l : Nat) : (s.takeLine k l).core = s.core := by
  have h := foldl_core (fun t j => State.setL1_core t j l none) ((s.holders l).filter (· ≠ k)) s
  simp only [State.takeLine]
  split
  · rw [State.setL1_core, h]
  · exact h

@[simp] theorem State.l1Own_core (s : State) (k l : Nat) : (s.l1Own k l).core = s.core := by
  simp only [State.l1Own, State.updDir_core, State.setL1_core]
  exact foldl_core (fun t l => State.takeLine_core t k l) _ s

@[simp] theorem State.storeL1_core (s : State) (k a n m v : Nat) : (s.storeL1 k a n m v).core = s.core := by
  simp only [State.storeL1]
  split <;> simp

@[simp] theorem State.fillFor_core (s : State) (k l : Nat) (b : Bool) : (s.fillFor k l b).core = s.core := by
  unfold State.fillFor; split <;> simp

@[simp] theorem State.writeLine_core (s : State) (i : Nat) (c d : Bool) (a n m v : Nat) :
    (s.writeLine i c d a n m v).core = s.core := by
  unfold State.writeLine
  split
  · split <;> simp
  · simp

@[simp] theorem State.dropStore_core (s : State) (a : Nat) (c : BitVec 8) : (s.dropStore a c).core = s.core := rfl

@[simp] theorem State.applyPers_core (fp : FpAmo) (s : State) (b : BitVec 24) (k : PKind) :
    (s.applyPers fp b k).core = s.core := by
  cases k with
  | bytes mask data => simp only [State.applyPers]; split <;> rfl
  | amo o op => simp only [State.applyPers]; split <;> rfl

/-! ### Publication leaves the region buffer alone -/

theorem foldSt_buf {α : Type} {f : State → α → State} (hf : ∀ t x, (f t x).core.buf = t.core.buf) (l : List α)
    (s : State) : (foldSt f s l).core.buf = s.core.buf := by
  induction l generalizing s with
  | nil => rfl
  | cons x l ih => rw [foldSt, ih, hf]

theorem State.count_core (s : State) (i p : Nat) (l : BitVec 16) (f : Counts → Counts) : (s.count i p l f).core = s.core := by
  unfold State.count; split <;> rfl

theorem State.publishTo_buf (s : State) (e : MsgEntry) (n d : Nat) : (s.publishTo e n d).core.buf = s.core.buf := by
  unfold State.publishTo
  cases e.kind <;> simp [State.count_core]

theorem State.publishMsg_buf (s : State) (e : MsgEntry) : (s.publishMsg e).core.buf = s.core.buf := by
  simp only [State.publishMsg]
  rw [foldSt_buf fun t d => State.publishTo_buf t e _ d]

theorem State.wroteLine_buf (s : State) (l : Nat) : (s.wroteLine l).core.buf = s.core.buf := by
  unfold State.wroteLine; split <;> rfl

theorem State.atomicWrite_buf (s : State) (c : BitVec 3) (a n m v : Nat) :
    (s.atomicWrite c a n m v).core.buf = s.core.buf := by
  unfold State.atomicWrite; split <;> simp [State.wroteLine_buf]

theorem State.performGlobal_buf (fp : FpAmo) (s : State) (g : GEntry) :
    (s.performGlobal fp g).core.buf = s.core.buf := by
  unfold State.performGlobal
  cases g.place with
  | remote cl off =>
    simp only
    split
    · rfl
    · rfl
    · split <;> rfl
    · split <;> rfl
  | phys pa =>
    simp only
    split
    · rfl
    · cases g.kind with
      | bytes mask data home => cases home <;> simp [State.wroteLine_buf]
      | nibble o mask d => simp only; split <;> simp [State.atomicWrite_buf]
      | amo o op => simp only; split <;> simp [State.atomicWrite_buf]

theorem State.publish_buf (fp : FpAmo) (s : State) (e : BufEntry) : (s.publish fp e).core.buf = s.core.buf := by
  cases e with
  | glob g => exact State.performGlobal_buf fp s g
  | pers b k => rw [State.publish, State.applyPers_core]
  | msg e => exact State.publishMsg_buf s e
  | fence l s => rfl

theorem State.publishBuf_buf (fp : FpAmo) (s : State) : (s.publishBuf fp).core.buf = [] := by
  rw [State.publishBuf, foldSt_buf (State.publish_buf fp)]

/-- R282: a commit leaves the region buffer empty and no slot recorded, so that the next region has the whole of it. -/
theorem State.commit_persUsed (s : State) : s.commit.core.persUsed = 0 := by
  have hbuf : s.commit.core.buf = [] := by
    simp only [State.commit, State.commitWith]
    split <;> exact State.publishBuf_buf ..
  have hsave : s.commit.core.rsave = [] := rfl
  simp [Core.persUsed, hbuf, hsave]

theorem State.tickLong_persUsed (s : State) : s.tickLong.core.persUsed = s.core.persUsed := by
  rw [State.tickLong_core]; rfl

end Sys2Proof.Machine
end

section
/-! SUPPORT. Clearing slots (R18, R97, R104): one slot, its record, and several slots in turn. -/

namespace Sys2Proof.Machine

/-! ### Clearing one slot (R18, R104) -/

/-- Whether slot n is a receive slot whose old value the region has not recorded yet (R18). -/
def Core.unrecorded (c : Core) (n : Nat) : Bool := decide (24 ≤ n) && !(c.rsave.any fun e => e.n.toNat == n)

/-- Slot n's record. -/
def Core.saveOf (c : Core) (n : BitVec 5) : SlotSave := ⟨n, c.r.slot n, c.r.pres.getLsbD n.toNat⟩

/-- The core with slot n recorded where R18 asks for it. -/
def Core.recorded (c : Core) (n : BitVec 5) : Core :=
  { c with rsave := if c.unrecorded n.toNat then c.rsave ++ [c.saveOf n] else c.rsave }

theorem Core.unrecorded_iff (c : Core) (n : BitVec 5) :
    c.unrecorded n.toNat = true ↔ 24 ≤ n.toNat ∧ ∀ e ∈ c.rsave, e.n ≠ n := by
  simp [Core.unrecorded, BitVec.toNat_inj]

/-- What recording a slot answers. -/
theorem Core.recordSlot_eq (c : Core) (n : BitVec 5) :
    c.recordSlot n =
      if c.unrecorded n.toNat = true ∧ 512 ≤ c.persUsed then .error .commitFirst else .ok (c.recorded n) := by
  have hiff : (n.toNat < 24 ∨ (c.rsave.any fun e => e.n == n) = true) ↔ ¬ c.unrecorded n.toNat = true := by
    rw [Core.unrecorded_iff, not_and_or, not_le]; simp
  simp only [Core.recordSlot, hiff, Core.recorded, Core.saveOf]
  by_cases hu : c.unrecorded n.toNat = true
  · simp [hu]
  · simp [hu]

theorem setBit32_false (x : BitVec 32) (n k : Nat) (hk : k < 32) :
    (setBit32 x n false).getLsbD k = (x.getLsbD k && !decide (k = n)) := by
  have hb : (BitVec.ofNat 32 (2 ^ n)).getLsbD k = decide (k = n) := by
    rw [BitVec.getLsbD_ofNat, Nat.testBit_two_pow]; simp [hk, eq_comm]
  simp only [setBit32, Bool.false_eq_true, if_false, BitVec.getLsbD_and, BitVec.getLsbD_not, hb, hk, decide_true,
    Bool.true_and]

/-- A slot cleared, with its record. -/
def Core.clearOne (c : Core) (n : BitVec 5) : Core := (c.recorded n).putSlot n 0 false

theorem Core.clearOne_slot (c : Core) (n k : BitVec 5) :
    (c.clearOne n).r.slot k = if k = n then 0 else c.r.slot k := by
  simp only [Core.clearOne, Core.recorded, Core.putSlot, Regs.slot, Vector.getElem_set, BitVec.toNat_inj, eq_comm (a := n)]

theorem Core.clearOne_pres (c : Core) (n k : BitVec 5) :
    (c.clearOne n).r.pres.getLsbD k.toNat = (c.r.pres.getLsbD k.toNat && !decide (k = n)) := by
  simp only [Core.clearOne, Core.recorded, Core.putSlot, setBit32_false _ _ _ k.isLt, BitVec.toNat_inj]

theorem Core.clearOne_rsave (c : Core) (n : BitVec 5) :
    (c.clearOne n).rsave = if c.unrecorded n.toNat then c.rsave ++ [c.saveOf n] else c.rsave := rfl

theorem Core.unrecorded_clearOne (c : Core) (n : BitVec 5) {j : Nat} (h : j ≠ n.toNat) :
    (c.clearOne n).unrecorded j = c.unrecorded j := by
  have hsave : ((c.saveOf n).n.toNat == j) = false := by simpa [Core.saveOf] using h.symm
  have hany : ((c.clearOne n).rsave.any fun e => e.n.toNat == j) = c.rsave.any fun e => e.n.toNat == j := by
    rw [Core.clearOne_rsave]
    split
    · simp [hsave]
    · rfl
  rw [Core.unrecorded, Core.unrecorded, hany]

theorem Core.persUsed_clearOne (c : Core) (n : BitVec 5) :
    (c.clearOne n).persUsed = c.persUsed + (c.unrecorded n.toNat).toNat := by
  have hb : (c.clearOne n).buf = c.buf := rfl
  simp only [Core.persUsed, hb, Core.clearOne_rsave]
  cases c.unrecorded n.toNat <;> simp [Nat.add_assoc]

/-! ### Clearing several slots (R104) -/

/-- The receive slots, counted from n, among `k` slots from slot n that the region has not recorded yet. -/
def Core.newRecords (c : Core) (n k : Nat) : List Nat := (List.range k).filter fun j => c.unrecorded (n + j)

/-- Whether the region buffer has room for the records of clearing `k` slots from slot n (R97). -/
def Core.hasRoom (c : Core) (n k : Nat) : Prop := c.newRecords n k = [] ∨ c.persUsed + (c.newRecords n k).length ≤ 512

theorem Core.newRecords_length_succ (c : Core) (n k : Nat) :
    (c.newRecords n (k + 1)).length = (c.unrecorded n).toNat + (c.newRecords (n + 1) k).length := by
  have hshift : (fun j => c.unrecorded (n + j)) ∘ Nat.succ = fun j => c.unrecorded (n + 1 + j) := by
    funext j; simp only [Function.comp, Nat.succ_eq_add_one]; congr 1; omega
  rw [Core.newRecords, List.range_succ_eq_map, List.filter_cons, List.filter_map, hshift, Nat.add_zero]
  cases c.unrecorded n <;> simp [Core.newRecords, Nat.add_comm]

theorem Core.newRecords_length_le (c : Core) (n k : Nat) : (c.newRecords n k).length ≤ k :=
  (List.length_filter_le ..).trans_eq List.length_range

/-- Clearing a slot leaves the records that the slots behind it need. -/
theorem Core.newRecords_clearOne (c : Core) (n : BitVec 5) (k : Nat) :
    (c.clearOne n).newRecords (n.toNat + 1) k = c.newRecords (n.toNat + 1) k := by
  simp only [Core.newRecords]
  exact List.filter_congr fun j _ => c.unrecorded_clearOne n (by omega)

/-- R18, R104: what clearing `k` slots from slot n makes of the core `b`. -/
structure Cleared (n k : Nat) (b c : Core) : Prop where
  hit : ∀ j : BitVec 5, n ≤ j.toNat ∧ j.toNat < n + k → c.r.slot j = 0 ∧ c.r.pres.getLsbD j.toNat = false
  miss : ∀ j : BitVec 5, ¬ (n ≤ j.toNat ∧ j.toNat < n + k) →
    c.r.slot j = b.r.slot j ∧ c.r.pres.getLsbD j.toNat = b.r.pres.getLsbD j.toNat
  kept : ∀ e ∈ b.rsave, e ∈ c.rsave
  saved : ∀ j : BitVec 5, n ≤ j.toNat ∧ j.toNat < n + k → b.unrecorded j.toNat = true → b.saveOf j ∈ c.rsave
  frame : { c with r := b.r, rsave := b.rsave } = b
  regs : { c.r with m := b.r.m, pres := b.r.pres } = b.r

theorem Cleared.refl (n : Nat) (c : Core) : Cleared n 0 c c :=
  ⟨fun _ h => by omega, fun _ _ => ⟨rfl, rfl⟩, fun _ h => h, fun _ h => by omega, rfl, rfl⟩

/-- One slot more. -/
theorem Cleared.cons {n : BitVec 5} {k : Nat} {b c : Core} (h : Cleared (n.toNat + 1) k (b.clearOne n) c) :
    Cleared n.toNat (k + 1) b c := by
  obtain ⟨hit, miss, kept, saved, frame, regs⟩ := h
  have first : c.r.slot n = 0 ∧ c.r.pres.getLsbD n.toNat = false := by
    obtain ⟨hs, hp⟩ := miss n (by omega)
    rw [hs, hp, Core.clearOne_slot, Core.clearOne_pres]
    simp
  have other {j : BitVec 5} (h : j.toNat ≠ n.toNat) : j ≠ n := fun e => h (e ▸ rfl)
  refine ⟨fun j hj => ?_, fun j hj => ?_, fun e he => kept e ?_, fun j hj hu => ?_, ?_, ?_⟩
  · by_cases hjn : j = n
    · exact hjn ▸ first
    · exact hit j (by have := mt BitVec.eq_of_toNat_eq hjn; omega)
  · obtain ⟨hs, hp⟩ := miss j (by omega)
    rw [hs, hp, Core.clearOne_slot, Core.clearOne_pres]
    simp [other (show j.toNat ≠ n.toNat by omega)]
  · rw [Core.clearOne_rsave]
    split
    · exact List.mem_append_left _ he
    · exact he
  · by_cases hjn : j = n
    · refine kept _ ?_
      rw [Core.clearOne_rsave, hjn, if_pos (hjn ▸ hu)]
      exact List.mem_append_right _ (List.mem_singleton_self _)
    · have hne := mt BitVec.eq_of_toNat_eq hjn
      have hsave : (b.clearOne n).saveOf j = b.saveOf j := by
        simp [Core.saveOf, Core.clearOne_slot, Core.clearOne_pres, hjn]
      exact hsave ▸ saved j (by omega) (by rwa [Core.unrecorded_clearOne _ _ hne])
  · exact congrArg (fun x : Core => { x with r := b.r, rsave := b.rsave }) frame
  · exact congrArg (fun x : Regs => { x with m := b.r.m, pres := b.r.pres }) regs

/-- One write of a clear. -/
theorem Core.writeSlot_clear (c : Core) (n : BitVec 5) : c.writeSlot n 0 false =
    if c.unrecorded n.toNat = true ∧ 512 ≤ c.persUsed then .error .commitFirst else .ok (c.clearOne n) := by
  rw [Core.writeSlot, Core.recordSlot_eq]
  by_cases h : c.unrecorded n.toNat = true ∧ 512 ≤ c.persUsed
  · rw [if_pos h, if_pos h]
  · rw [if_neg h, if_neg h]; rfl

/-- There is room for the records of k + 1 slots where there is for the first one's and, after it, for the rest's. -/
theorem Core.hasRoom_succ (c : Core) (n : BitVec 5) (k : Nat) : c.hasRoom n.toNat (k + 1) ↔
    ¬ (c.unrecorded n.toNat = true ∧ 512 ≤ c.persUsed) ∧ (c.clearOne n).hasRoom (n.toNat + 1) k := by
  simp only [Core.hasRoom, ← List.length_eq_zero_iff, Core.newRecords_length_succ, Core.newRecords_clearOne,
    Core.persUsed_clearOne]
  generalize (c.newRecords (n.toNat + 1) k).length = l
  cases c.unrecorded n.toNat
  · simp
  · simp; omega

/-- Clearing slots succeeds where the region buffer has room for the records. -/
theorem clearSlots_ok {k n : Nat} {b : Core} (hn : n + k ≤ 32) (hr : b.hasRoom n k) :
    ∃ c, clearSlots b n k = .ok c ∧ Cleared n k b c := by
  induction k generalizing n b with
  | zero => exact ⟨b, rfl, Cleared.refl n b⟩
  | succ k ih =>
    have hv : (BitVec.ofNat 5 n).toNat = n := by rw [BitVec.toNat_ofNat]; omega
    rw [← hv, Core.hasRoom_succ] at hr
    obtain ⟨c, hc, hcl⟩ := ih (by omega) hr.2
    rw [hv] at hc
    exact ⟨c, by simp only [clearSlots, Core.writeSlot_clear, if_neg hr.1, hc], hv ▸ hcl.cons⟩

/-- Clearing slots asks for a commit where it has not. -/
theorem clearSlots_full {k n : Nat} {b : Core} (hn : n + k ≤ 32) (hr : ¬ b.hasRoom n k) :
    clearSlots b n k = .error .commitFirst := by
  induction k generalizing n b with
  | zero => exact absurd (.inl rfl) hr
  | succ k ih =>
    have hv : (BitVec.ofNat 5 n).toNat = n := by rw [BitVec.toNat_ofNat]; omega
    rw [← hv, Core.hasRoom_succ, not_and'] at hr
    by_cases hfull : b.unrecorded (BitVec.ofNat 5 n).toNat = true ∧ 512 ≤ b.persUsed
    · simp only [clearSlots, Core.writeSlot_clear, if_pos hfull]
    · have hrest := ih (by omega) fun h => hr h hfull
      rw [hv] at hrest
      simp only [clearSlots, Core.writeSlot_clear, if_neg hfull, hrest]

end Sys2Proof.Machine
end

section
/-! SUPPORT. SCLR (R104): its decode faults, its body, and the statement about it. -/

namespace Sys2Proof.Machine

/-! ### Running an instruction that asks for a commit first (R97) -/

/-- A body that asks for a commit and completes in the region after it. -/
theorem runInstr_commitFirst {i : Instr} {s t : State} {k : Body} {p : Parts} {a : Attrs} (hp : i.parts = some p)
    (ha : attrsOf i = some a) (hb : s.landDue.boundaryDue = true → s.landDue.commitBlock = none)
    (hf : s.boundary.contextFault p a = none)
    (hl : afterLines i = true → s.boundary.hostBlock s.boundary.ownStops = none)
    (hc : a.commit = false) (hw : s.boundary.commitBlock = none)
    (hask : k false s.boundary.tickLong = .error .commitFirst) (hk : k false s.boundary.commit.tickLong = .ok t) :
    runInstr i s k = .next (t.retire s.boundary.commit (partsLen p)) := by
  simp [runInstr, hp, ha, hf, hc, atBoundary_clear _ hb, whenLinesDone_clear _ hl, State.runPlain, hask, hw, hk]

/-! ### SCLR in its context (R43, R104) -/

/-- SCLR's words. -/
def sclrParts (px : List Prefix) (imm : BitVec 8) : Parts := ⟨px, wordI 4 13 imm, none⟩

/-- What SCLR admits: neither IMMX nor DST nor PAGE, and n + cnt of at most 32. -/
def sclrAttrs (imm : BitVec 8) : Attrs :=
  ⟨decide (32 < imm.toNat % 32 + (imm.toNat / 32 + 1)), none, .any, .refused, .refused, [], .refused,
    false, false, false, false, false, false⟩

theorem sclr_first (imm : BitVec 8) : (imm.extractLsb' 0 5).toNat = imm.toNat % 32 := by
  simp [BitVec.extractLsb'_toNat]

theorem sclr_last (imm : BitVec 8) : (imm.extractLsb' 5 3).toNat = imm.toNat / 32 := by
  rw [BitVec.extractLsb'_toNat, Nat.shiftRight_eq_div_pow]; omega

theorem parts_sclr (px : List Prefix) (imm : BitVec 8) : (Instr.sclr px imm).parts = some (sclrParts px imm) := rfl

theorem attrsOf_sclr (px : List Prefix) (imm : BitVec 8) : attrsOf (.sclr px imm) = some (sclrAttrs imm) := by
  have h : attrsOf (.sclr px imm) = some { sclrAttrs imm with
      fieldBad := decide (32 < (imm.extractLsb' 0 5).toNat + (imm.extractLsb' 5 3).toNat + 1) } := rfl
  rw [h, sclr_first, sclr_last]
  rfl

theorem wordI_high (maj op : BitVec 4) (imm : BitVec 8) : (wordI maj op imm).extractLsb' 8 8 = maj ++ op :=
  BitVec.extractLsb'_append_eq_left

/-- SCLR is no MX instruction: the top bits of its word are MAJ. -/
theorem isMx_sclr (px : List Prefix) (imm : BitVec 8) : isMx (sclrParts px imm).base = false := by
  refine decide_eq_false fun h => ?_
  have hmaj : (wordI 4 13 imm).extractLsb' 8 8 = 0x4D#8 := wordI_high 4 13 imm
  have htop : (wordI 4 13 imm).getLsbD 15 = true := by
    simpa [sclrParts] using congrArg (fun b => b.getLsbD 6) h
  have hlow : (wordI 4 13 imm).getLsbD 15 = false := by
    simpa using congrArg (fun b => b.getLsbD 7) hmaj
  exact Bool.false_ne_true (hlow.symm.trans htop)

/-- SCLR names no control register. -/
theorem ctlNumber_sclr (px : List Prefix) (imm : BitVec 8) : ctlNumber (sclrParts px imm).base = none := by
  rw [ctlNumber, sclrParts, wordI_high]; rfl

/-- SCLR's decode faults are those of its own words, in every context. -/
theorem contextFault_sclr (s : State) (px : List Prefix) (imm : BitVec 8) :
    s.contextFault (sclrParts px imm) (sclrAttrs imm) =
      (formFault (sclrParts px imm) (sclrAttrs imm)).map fun f => ⟨f.cause, f.detail, some f.info, 0, 0, 0⟩ := by
  have hs : (sclrAttrs imm).svcIll = false := rfl
  have hp : (sclrAttrs imm).priv = false := rfl
  have hn : (sclrAttrs imm).noBody = false := rfl
  have hc : (sclrAttrs imm).commit = false := rfl
  cases hf : formFault (sclrParts px imm) (sclrAttrs imm) <;>
    simp [State.contextFault, isMx_sclr, ctlNumber_sclr, hs, hp, hn, hc, hf]

/-- R104: n + cnt > 32 is refused first. -/
theorem formFault_sclr_range (px : List Prefix) {imm : BitVec 8} (h : 32 < imm.toNat % 32 + (imm.toNat / 32 + 1)) :
    formFault (sclrParts px imm) (sclrAttrs imm) = some ⟨0x01, 0x02, (sclrParts px imm).base⟩ := by
  rw [formFault, if_pos (show (sclrAttrs imm).fieldBad = true from decide_eq_true h)]

/-- R104: SCLR refuses IMMX. -/
theorem formFault_sclr_immx {imm : BitVec 8} (v : BitVec 10) (h : imm.toNat % 32 + (imm.toNat / 32 + 1) ≤ 32) :
    formFault (sclrParts [.immx v] imm) (sclrAttrs imm) = some ⟨0x02, 0x03, (Prefix.immx v).word⟩ := by
  have hr : (sclrAttrs imm).fieldBad = false := decide_eq_false (by omega)
  rw [formFault, hr]
  rfl

/-- R104: SCLR refuses DST. -/
theorem formFault_sclr_dst {imm : BitVec 8} (d : BitVec 5) (h : imm.toNat % 32 + (imm.toNat / 32 + 1) ≤ 32) :
    formFault (sclrParts [.dst (0#1 ++ d) 0] imm) (sclrAttrs imm) = some ⟨0x02, 0x03, (Prefix.dst (0#1 ++ d) 0).word⟩ := by
  have hr : (sclrAttrs imm).fieldBad = false := decide_eq_false (by omega)
  have hspec : specReserved (0#1 ++ d) = false := decide_eq_false (by
    have hd : (0#1 ++ d).toNat = d.toNat := (BitVec.toNat_append 0#1 d).trans (by simp)
    omega)
  have hbad : DstUse.bad .refused (0#1 ++ d) = false := hspec
  rw [formFault, hr]
  simp [sclrAttrs, sclrParts, hbad, Attrs.prefixBad, wBad, secondOf, Attrs.prefixRefused]

/-- SCLR's body. -/
def sclrBody (imm : BitVec 8) : Body := fun _ st =>
  match clearSlots st.core (imm.extractLsb' 0 5).toNat ((imm.extractLsb' 5 3).toNat + 1) with
  | .ok c => .ok { st with core := c }
  | .error e => .error e

theorem exec_sclr (px : List Prefix) (imm : BitVec 8) (s : State) :
    exec (.sclr px imm) s = runInstr (.sclr px imm) s (sclrBody imm) := rfl

theorem sclrBody_ok {imm : BitVec 8} {s : State} {c : Core} (b : Bool)
    (h : clearSlots s.core (imm.toNat % 32) (imm.toNat / 32 + 1) = .ok c) : sclrBody imm b s = .ok { s with core := c } := by
  simp only [sclrBody, sclr_first, sclr_last, h]

theorem sclrBody_error {imm : BitVec 8} {s : State} {e : Stop} (b : Bool)
    (h : clearSlots s.core (imm.toNat % 32) (imm.toNat / 32 + 1) = .error e) : sclrBody imm b s = .error e := by
  simp only [sclrBody, sclr_first, sclr_last, h]

end Sys2Proof.Machine

namespace Sys2Proof.Claims

open Sys2Proof.Machine

/-- SCLR raises the decode fault that its words decide. -/
theorem exec_sclr_fault {px : List Prefix} {imm : BitVec 8} {s : State} {f : DecFault}
    (hb : s.landDue.boundaryDue = true → s.landDue.commitBlock = none)
    (hf : formFault (sclrParts px imm) (sclrAttrs imm) = some f) :
    exec (.sclr px imm) s = .next (s.boundary.takeFault (s.boundary.site (sclrParts px imm))
      ⟨f.cause, f.detail, some f.info, 0, 0, 0⟩) :=
  runInstr_fault (parts_sclr px imm) (attrsOf_sclr px imm) hb (by rw [contextFault_sclr, hf]; rfl)

/-- An SCLR without a decode fault stays within the slots. -/
theorem sclr_range_of_clean {px : List Prefix} {imm : BitVec 8} {s : State} (h : Clean (.sclr px imm) s) :
    s.boundary.contextFault (sclrParts px imm) (sclrAttrs imm) = none ∧ imm.toNat % 32 + (imm.toNat / 32 + 1) ≤ 32 := by
  obtain ⟨-, p, a, hp, ha, hf⟩ := h
  cases (parts_sclr px imm).symm.trans hp
  cases (attrsOf_sclr px imm).symm.trans ha
  refine ⟨hf, Nat.le_of_not_lt fun hr => ?_⟩
  rw [contextFault_sclr, formFault_sclr_range px hr] at hf
  cases hf

/-- R104: where the region buffer has room for the records, SCLR clears its slots. -/
theorem exec_sclr_room {px : List Prefix} {imm : BitVec 8} {s : State} (h : Clean (.sclr px imm) s)
    (hr : (work (.sclr px imm) s).core.hasRoom (imm.toNat % 32) (imm.toNat / 32 + 1)) :
    ∃ c : Core, exec (.sclr px imm) s = .next (done (.sclr px imm) s { work (.sclr px imm) s with core := c }) ∧
      Cleared (imm.toNat % 32) (imm.toNat / 32 + 1) (work (.sclr px imm) s).core c := by
  obtain ⟨c, hc, hcl⟩ := clearSlots_ok (sclr_range_of_clean h).2 hr
  exact ⟨c, (exec_sclr px imm s).trans (runInstr_done h (sclrBody_ok _ hc)), hcl⟩

/-- R97, R104: where it has not, the region commits first, and the records of the fresh one always fit. -/
theorem exec_sclr_full {px : List Prefix} {imm : BitVec 8} {s : State} (h : Clean (.sclr px imm) s)
    (hr : ¬ (work (.sclr px imm) s).core.hasRoom (imm.toNat % 32) (imm.toNat / 32 + 1))
    (hw : s.boundary.commitBlock = none) :
    ∃ c : Core, exec (.sclr px imm) s =
        .next (({ s.boundary.commit.tickLong with core := c } : State).retire s.boundary.commit (Instr.sclr px imm).bytes) ∧
      Cleared (imm.toNat % 32) (imm.toNat / 32 + 1) s.boundary.commit.tickLong.core c := by
  obtain ⟨hf, hrange⟩ := sclr_range_of_clean h
  obtain ⟨⟨hb, -, hl⟩, -⟩ := h
  have hempty := (State.tickLong_persUsed s.boundary.commit).trans (State.commit_persUsed s.boundary)
  have hfresh : s.boundary.commit.tickLong.core.hasRoom (imm.toNat % 32) (imm.toNat / 32 + 1) :=
    .inr <| by
      have hle := Core.newRecords_length_le s.boundary.commit.tickLong.core (imm.toNat % 32) (imm.toNat / 32 + 1)
      omega
  obtain ⟨c, hc, hcl⟩ := clearSlots_ok hrange hfresh
  have hx : commits (.sclr px imm) = false := commits_of (attrsOf_sclr px imm)
  rw [work_plain hx] at hr
  have hrun := runInstr_commitFirst (parts_sclr px imm) (attrsOf_sclr px imm) hb hf hl rfl hw
    (sclrBody_error _ (clearSlots_full hrange hr)) (sclrBody_ok _ hc)
  rw [← bytes_of_parts (parts_sclr px imm)] at hrun
  exact ⟨c, (exec_sclr px imm s).trans hrun, hcl⟩

/-- Settles O57: clearing slot by slot makes what R104 and R18 say (`Cleared`), after the commit of R97 where the
records need it. -/
theorem slotsCleared : Obligations.SlotsCleared := by
  unfold Obligations.SlotsCleared
  refine ⟨rfl, rfl, rfl, fun px imm s v d => ?_⟩
  intro n cnt hit faults cleared records unhindered w room fresh
  have hcleared {b c : Core} (h : Cleared n cnt b c) : cleared b c :=
    ⟨h.hit, h.miss, h.kept, fun k hk h24 hnew => h.saved k hk ((b.unrecorded_iff k).2 ⟨h24, hnew⟩), h.frame, h.regs⟩
  refine ⟨fun hc hr => ?_, fun hc hr hw => ?_, fun hb hr => ?_, fun hb hr => ⟨?_, ?_⟩⟩
  · obtain ⟨c, hx, hcl⟩ := exec_sclr_room hc hr
    exact ⟨c, hx, hcleared hcl⟩
  · obtain ⟨c, hx, hcl⟩ := exec_sclr_full hc hr hw
    exact ⟨c, hx, hcleared hcl⟩
  · have hx := exec_sclr_fault hb (formFault_sclr_range px hr)
    exact ⟨_, _, parts_sclr px imm, hx⟩
  · have hx := exec_sclr_fault hb (formFault_sclr_immx v hr)
    exact ⟨_, _, parts_sclr _ imm, hx⟩
  · have hx := exec_sclr_fault hb (formFault_sclr_dst d hr)
    exact ⟨_, _, parts_sclr _ imm, hx⟩

end Sys2Proof.Claims
end
